-- ==== Sys2Proof/Word.lean ====
section
/-! DEFINITION. The word types of the module's registers and memories (00_scope.md R14, R18): registers are 32
bits wide, memories are addressed in bytes, cards and column words are 64 bits. -/

namespace Sys2Proof

/-- A byte. -/
abbrev Byte := BitVec 8

/-- A 32-bit register (R18). -/
abbrev Word := BitVec 32

/-- A 64-bit card slot (06_calibration_cards.md). -/
abbrev Word64 := BitVec 64

end Sys2Proof
end

