-- ==== Sys2Proof/Syntax.lean ====
section
/-! DEFINITION. The commands of the module as data: one constructor per row of the opcode table, and the types
of their operands. Operands carry what the world outside the module brings to an event: converter results,
sensor readings, message payloads, fetched descriptors, the time that has passed. -/

namespace Sys2Proof

/-- Which side a register access comes from (00_scope.md R19): PCI Express, with the requester ID, or the management
port. -/
inductive Path where
  | pcie (req : Fin 65536)
  | port
  deriving DecidableEq, Repr

/-- The result of a reference conversion that the environment gives (02_focal_plane.md R58, R60): the column, the
converter set (B if `setB`), the level (REF_HI if `hi`), the code, and whether it was latched in time. -/
structure RefRes where
  col : Nat
  setB : Bool
  hi : Bool
  code : Nat
  latched : Bool
  deriving DecidableEq, Repr

/-- Converter results of one row (R49 to R51): columns beyond `codes` read `fill`. Each word is [13:0] CODE,
[14] SAT, and [15] set where the result was not latched in time. -/
structure RowSamples where
  fill : Nat
  codes : List Nat
  deriving DecidableEq, Repr

/-- Memories of a column engine (04_column_engines.md R99). -/
inductive EngMem where
  | card
  | data
  | prog
  deriving DecidableEq, Repr

/-- A memory error that an engine's read meets (R99): engine, memory, slot or word, single-bit or double-bit. -/
structure EccErr where
  e : Nat
  mem : EngMem
  addr : Nat
  double : Bool
  deriving DecidableEq, Repr

/-- An engine that memory errors, neighbour reads or YIELD hold past its row's deadline (05_column_programs.md
R128): whether its scene trim was done, how many words of the extension it executed, and whether the standard program had
made its neighbour reads, which come before the scene trim. -/
structure LateRow where
  e : Nat
  trim : Bool
  words : Nat
  reads : Bool
  deriving DecidableEq, Repr

/-- The error that one memory read meets (04_column_engines.md R99). DESIGN CHOICE, log 10. -/
inductive Ecc where
  | clean
  | corrected
  | uncorrectable
  deriving DecidableEq, Repr

/-- The error that a column instruction's reads of data memory meet (04_column_engines.md R99): an uncorrectable one with the
8-byte word that holds it. DESIGN CHOICE, log 10. -/
inductive DataEcc where
  | clean
  | corrected
  | uncorrectable (word : Fin 2048)
  deriving DecidableEq, Repr

/-- The fields of a descriptor as the host wrote them (09_host_rings.md R237): ADDR, LEN, FLAGS[31:24], TAG. -/
structure DescIn where
  addr : Nat
  len : Nat
  flags : Nat
  tag : Nat
  deriving DecidableEq, Repr

/-- What a read of a descriptor, and of the buffer of a host-to-device one, brings (R238): an error completion or
timeout of the descriptor read; the descriptor with an error of the buffer read; both. -/
inductive FetchIn where
  | failed
  | bufFailed (x : DescIn)
  | ok (x : DescIn) (buf : List (BitVec 8))
  deriving DecidableEq, Repr

/-- A command block beside its OP (09_host_rings.md R246): CHECK_GEN, GEN, TARGET, PARAM0 to PARAM5, and whether every
reserved field is 0. -/
structure CmdBlk where
  checkGen : Bool
  gen : Nat
  target : Nat
  params : List Nat
  rsvOk : Bool
  deriving DecidableEq, Repr

/-- What a channel's current sense and regulator give in one PWM period (13_actuators.md R328): the current as a CH6 + n
code of 62.5 µA, and the duty as a fraction of 65,536. DESIGN CHOICE, log 10. -/
structure PwmIn where
  code : Nat
  duty : Nat
  deriving DecidableEq, Repr

/-- What an emitter's sample gives (14_emitters_indicators.md R350): sink current in µA, voltage across it in mV. DESIGN CHOICE, log 10. -/
structure EmSample where
  ua : Nat
  mv : Nat
  deriving DecidableEq, Repr

/-- A sensor's count over a window, as the 1/64 degree that nominal trim gives it (15_thermal_power.md R365). PRESUMED, log
53. -/
abbrev SensCount := Int


/-- An error that a read of the nonvolatile store meets in a group (16_nonvolatile_store.md R382): page, group, whether it
is uncorrectable, and then the eight bytes that the group reads as. DESIGN CHOICE, log 48. -/
structure NvsErr where
  page : Nat
  grp : Nat
  uncorr : Bool
  data : BitVec 64
  deriving DecidableEq, Repr

/-- The end of a fetch of the management port (11_management_port.md R277, R278): quantities of the word that are not ready
when they are due, and quantities of the reply that the frame has begun so far, the status word the first. -/
structure MpFetch where
  late : Fin 3
  started : Nat
  deriving DecidableEq, Repr

/-- What BOOT reads of the flash's SFDP (17_flash_and_boot.md R405): the signature, the basic table's major revision and
pointer of its parameter header. DESIGN CHOICE, log 48. -/
structure SfdpIn where
  sign : BitVec 32
  major : Fin 256
  ptr : Fin 16777216
  deriving DecidableEq, Repr

/-- What a row slot brings (02_focal_plane.md R49 to R51, R58; 04_column_engines.md R99, R116; 03_slate_and_herd.md R72;
08_cell_watch.md R207, R213): the results of the row handed over, the reference results, the engines held past their
deadline, those that miss frame close, the cells that the evaluators do not reach, the records that the ring writer takes
while the evaluation runs, and the memory errors met. DESIGN CHOICE, log 10; DEDUCED, log 47. -/
structure SlotIn where
  samples : RowSamples
  refs : List RefRes
  late : List LateRow
  unclosed : List Nat
  unevaluated : List Nat
  kept : Nat
  ecc : List EccErr
  deriving DecidableEq, Repr

/-- What a configuration read asks for (09_host_rings.md R222, R223): the identity, a base address register, the Max_Payload
and link support, Function Level Reset, a capability by its ID, the places of the MSI-X structures, the serial number, the
ASPM support of the link, or the support of D1 and D2. PRESUMED, log 56,
for the codes, which are those of the PCI Express Base Specification. -/
inductive CfgItem where
  | vendorId
  | deviceId
  | classCode
  | bar (n : Fin 6)
  | expansionRom
  | maxPayload
  | linkSpeeds
  | linkWidth
  | functionReset
  | capability (extended : Bool) (id : Fin 65536)
  | msixVectors
  | msixTable
  | msixPba
  | serialNumber
  | aspm
  | d1d2
  deriving DecidableEq, Repr

/-- A PCI Express configuration request (09_host_rings.md R222 to R224, R226; 10_events_errors.md R257): a read of an item, a
write of a base address register, of Bus Master Enable, of the power state (D3hot or D0), or of MSI-X Enable and Function
Mask, or any other request, which the module only answers. -/
inductive CfgReq where
  | other
  | read (x : CfgItem)
  | bar (n : Fin 6) (v : BitVec 32)
  | busMaster (on : Bool)
  | power (d3hot : Bool)
  | msix (enable functionMask : Bool)
  deriving DecidableEq, Repr

/-- A write access of BAR0 (09_host_rings.md R225): one word through a path, or 64 bits through PCI Express. -/
inductive WriteForm where
  | word (p : Path) (v : BitVec 32)
  | wide (req : Fin 65536) (lo hi : BitVec 32)
  deriving DecidableEq, Repr

/-- A read access (R225): one word of BAR0 through a path, 64 bits of BAR0, or a doorbell's words in BAR2. -/
inductive ReadForm where
  | word (p : Path)
  | wide (req : Fin 65536)
  | doorbell (req : Fin 65536) (wide : Bool)
  deriving DecidableEq, Repr

/-- What is unmasked (10_events_errors.md R257): a vector, by a write of its control word, or the function. -/
inductive Unmask where
  | vector (p : Path) (n : Fin 256)
  | function
  deriving DecidableEq, Repr

/-- The commands of the module: one constructor per row of the opcode table, those with operands first. DESIGN CHOICE, log 10 and 49. -/
inductive Instr where
  /-- AUX_POWER_UP (R26): The aux domain becomes supplied after being unsupplied; aux registers reset, the alarm map reads 0, LOCKOUT ends and the module enters AUX_ONLY or RESET. Operands: whether HOST_12V is the supply; the assembly straps, as variant code less 1 -/
  | auxPowerUp (host : Bool) (strap : Fin 3)
  /-- AUX_SOURCE_SWITCH (R26): AUX_3V3 leaves or enters its range and the aux domain moves between AUX_3V3 and HOST_12V without interruption. Operands: whether AUX_3V3 is in its range -/
  | auxSourceSwitch (aux : Bool)
  /-- RESET_RELEASE (R33): Every reset source has ended and the module leaves RESET for BOOT, records RST_CAUSE, samples POS and starts the boot ROM. Operands: the POS straps -/
  | resetRelease (pos : Fin 16)
  /-- SLOT_VERIFICATION_DONE (R409): Verification of a firmware slot ends; the slot boots, the other slot is tried, or the module enters SAFE with HOLD_CAUSE 0x02. Operands: the SFDP, with DWORDs 1 and 2 of the basic table; whether the reads of each slot complete -/
  | slotVerificationDone (x : SfdpIn) (dword1 : BitVec 32) (dword2 : BitVec 32) (readA : Bool) (readB : Bool)
  /-- BOOT_LOADING_DONE (R416): BOOT has loaded the factory values, the standard program and the seed cards, and the move to IDLE or COLD_HOLD follows R33. Operands: errors of the store reads -/
  | bootLoadingDone (errs : List NvsErr)
  /-- ROW_SLOT_END (R52): The row slot timer expires after TICKS ticks and the next row slot of the slate starts, with its converter, engine and blanking work. Operands: what the slot brings -/
  | rowSlotEnd (x : SlotIn)
  /-- SLATE_IN_EDGE (R75): A rising edge on SLATE_IN is accepted, latched EARLY or counted STRAY. Operands: ticks from the start of the row slot -/
  | slateInEdge (t : Nat)
  /-- CLAPPER_EDGE (R83): A low period of CLAPPER is classified as glitch, slate edge, invalid or election start. Operands: length of the low period in nanoseconds; ticks from the start of the row slot -/
  | clapperEdge (ns : Nat) (t : Nat)
  /-- ELECTION_BIT_CELL (R85): In each election bit cell a participant drives its POS bit, samples the line and withdraws if outvoted. Operands: whether another participant drives the line low -/
  | electionBitCell (low : Bool)
  /-- ROSTER (R88): A ROSTER message is received, forwarded and recorded in the roster; DUP is set on a conflict. Operands: ORIGIN, SEQ and the payload -/
  | roster (origin : Fin 16) (seq : Fin 256) (herdId : Nat) (st : Nat) (taking : Bool) (ticks : Nat) (slots : Nat) (stripe : Bool) (serial : Nat)
  /-- SLATE_INFO (R88): A SLATE_INFO message is received, giving the leader's slate number, SLATE_START and BLIND. Operands: ORIGIN, SEQ and the payload -/
  | slateInfo (origin : Fin 16) (seq : Fin 256) (no : Nat) (start : Nat) (blind : Nat)
  /-- TAKE_REQ (R89): The leader receives a take request and grants, queues or denies it. Operands: ORIGIN, SEQ, DEST and the trigger kind -/
  | takeReq (origin : Fin 16) (seq : Fin 256) (dest : Fin 16) (auto : Bool)
  /-- TAKE_GRANT (R89): A member receives a grant and enters its take at the start slate, or answers TAKE_DONE with GRANT. Operands: ORIGIN, SEQ, DEST and the start slate -/
  | takeGrant (origin : Fin 16) (seq : Fin 256) (dest : Fin 16) (start : Nat)
  /-- TAKE_DENY (R89): A member receives a denial and its command completes STATE or its trigger is dropped. Operands: ORIGIN, SEQ, DEST and the reason -/
  | takeDeny (origin : Fin 16) (seq : Fin 256) (dest : Fin 16) (reason : Fin 3)
  /-- TAKE_DONE (R89): The leader receives TAKE_DONE and lowers BLIND. Operands: ORIGIN, SEQ, DEST and the outcome -/
  | takeDone (origin : Fin 16) (seq : Fin 256) (dest : Fin 16) (abandoned : Bool)
  /-- SEAM (R90): A SEAM message is received and stored in HERD_SEAM_n. Operands: ORIGIN, SEQ, the slate number and the four strip means -/
  | seam (origin : Fin 16) (seq : Fin 256) (slate : Nat) (left : Fin 65536) (right : Fin 65536) (top : Fin 65536) (bottom : Fin 65536)
  /-- NOP (R132): Column program instruction NOP does nothing for one cycle. -/
  | nop (e : Fin 1024) (f : BitVec 26)
  /-- VADD (R132): VD = VA + VB, wrapping. -/
  | vadd (e : Fin 1024) (f : BitVec 26)
  /-- VSUB (R132): VD = VA − VB, wrapping. -/
  | vsub (e : Fin 1024) (f : BitVec 26)
  /-- VADDS (R132): Saturating vector add. -/
  | vadds (e : Fin 1024) (f : BitVec 26)
  /-- VSUBS (R132): Saturating vector subtract. -/
  | vsubs (e : Fin 1024) (f : BitVec 26)
  /-- VAND (R132): Vector bitwise and. -/
  | vand (e : Fin 1024) (f : BitVec 26)
  /-- VOR (R132): Vector bitwise or. -/
  | vor (e : Fin 1024) (f : BitVec 26)
  /-- VXOR (R132): Vector bitwise exclusive or. -/
  | vxor (e : Fin 1024) (f : BitVec 26)
  /-- VSHL (R132): Vector shift left. -/
  | vshl (e : Fin 1024) (f : BitVec 26)
  /-- VSHR (R132): Vector arithmetic shift right with optional rounding. -/
  | vshr (e : Fin 1024) (f : BitVec 26)
  /-- VSHRU (R132): Vector logical shift right. -/
  | vshru (e : Fin 1024) (f : BitVec 26)
  /-- VMIN (R132): Signed vector minimum. -/
  | vmin (e : Fin 1024) (f : BitVec 26)
  /-- VMAX (R132): Signed vector maximum. -/
  | vmax (e : Fin 1024) (f : BitVec 26)
  /-- VCLAMP (R132): Clamps each lane between two scalar registers. -/
  | vclamp (e : Fin 1024) (f : BitVec 26)
  /-- VSEL (R132): Selects lanes of VA or VB by a predicate. -/
  | vsel (e : Fin 1024) (f : BitVec 26)
  /-- VCMP (R132): Compares lanes and writes a predicate. -/
  | vcmp (e : Fin 1024) (f : BitVec 26)
  /-- VADDI (R132): Adds a signed immediate to each lane. -/
  | vaddi (e : Fin 1024) (f : BitVec 26)
  /-- VLI (R132): Loads an immediate into each lane. -/
  | vli (e : Fin 1024) (f : BitVec 26)
  /-- VSPLAT (R132): Copies a scalar register into every lane. -/
  | vsplat (e : Fin 1024) (f : BitVec 26)
  /-- VIDX (R132): Loads each lane's column or lane index. -/
  | vidx (e : Fin 1024) (f : BitVec 26)
  /-- VEXT (R132): Extracts one lane into a scalar register. -/
  | vext (e : Fin 1024) (f : BitVec 26)
  /-- PLOG (R132): Combines predicates by a logical operation. -/
  | plog (e : Fin 1024) (f : BitVec 26)
  /-- VMUL (R132): Vector multiply with rounding shift. -/
  | vmul (e : Fin 1024) (f : BitVec 26)
  /-- VMAC (R132): Vector multiply-accumulate with rounding shift. -/
  | vmac (e : Fin 1024) (f : BitVec 26)
  /-- VMULS (R132): Saturating vector multiply with rounding shift. -/
  | vmuls (e : Fin 1024) (f : BitVec 26)
  /-- SADD (R132): Scalar add of a sign-extended immediate. -/
  | sadd (e : Fin 1024) (f : BitVec 26)
  /-- SLI (R132): Scalar load of a zero-extended immediate. -/
  | sli (e : Fin 1024) (f : BitVec 26)
  /-- SLUI (R132): Scalar load of the upper halfword. -/
  | slui (e : Fin 1024) (f : BitVec 26)
  /-- SALU (R132): Scalar arithmetic or logic operation between two registers. -/
  | salu (e : Fin 1024) (f : BitVec 26)
  /-- SGET (R129): Reads a special value such as ENGINE, ROWSLOT or AVAIL into a scalar register. -/
  | sget (e : Fin 1024) (f : BitVec 26)
  /-- LDDW (R132): Loads a data word per lane. -/
  | lddw (e : Fin 1024) (f : BitVec 26) (x : DataEcc)
  /-- LDDH (R132): Loads a sign-extended data halfword per lane. -/
  | lddh (e : Fin 1024) (f : BitVec 26) (x : DataEcc)
  /-- LDDHU (R132): Loads a zero-extended data halfword per lane. -/
  | lddhu (e : Fin 1024) (f : BitVec 26) (x : DataEcc)
  /-- STDW (R132): Stores a data word per lane. -/
  | stdw (e : Fin 1024) (f : BitVec 26)
  /-- STDH (R132): Stores a data halfword per lane. -/
  | stdh (e : Fin 1024) (f : BitVec 26)
  /-- LDS (R132): Loads a data word into a scalar register. -/
  | lds (e : Fin 1024) (f : BitVec 26) (x : DataEcc)
  /-- LDC (R132): Loads one card slot per lane into an even–odd vector register pair. -/
  | ldc (e : Fin 1024) (f : BitVec 26) (x : Ecc) (l : Fin 4)
  /-- STC (R132): Stores one card slot per lane into user slots. -/
  | stc (e : Fin 1024) (f : BitVec 26)
  /-- LDX (R132): Indexed halfword load per lane. -/
  | ldx (e : Fin 1024) (f : BitVec 26) (x : DataEcc)
  /-- STX (R132): Indexed halfword store per lane. -/
  | stx (e : Fin 1024) (f : BitVec 26)
  /-- TLU (R132): Table lookup of two adjacent entries per lane. -/
  | tlu (e : Fin 1024) (f : BitVec 26) (x : DataEcc)
  /-- NPUB (R135): Publishes VA on a neighbour channel. -/
  | npub (e : Fin 1024) (f : BitVec 26)
  /-- NLEFT (R135): Shifts VA one column right, taking lane 0 from the left neighbour's channel value. -/
  | nleft (e : Fin 1024) (f : BitVec 26)
  /-- NRIGHT (R135): Shifts VA one column left, taking lane 3 from the right neighbour's channel value. -/
  | nright (e : Fin 1024) (f : BitVec 26)
  /-- NEIGHBOUR_READ_RESUME (R96): A neighbour read that waited resumes when the neighbour publishes on the channel. -/
  | neighbourReadResume (e : Fin 1024)
  /-- CACC (R114): Accumulates lanes into the cell record or partial under R114, effective at YIELD. -/
  | cacc (e : Fin 1024) (f : BitVec 26)
  /-- CCNT (R137): Counts predicate lanes for the user cell count, effective at YIELD. -/
  | ccnt (e : Fin 1024) (f : BitVec 26)
  /-- HADD (R115): Adds lanes to the display histogram, effective at YIELD. -/
  | hadd (e : Fin 1024) (f : BitVec 26)
  /-- EMIT (R132): Emits VA to the corrected or radiometric stream with lane marks. -/
  | emit (e : Fin 1024) (f : BitVec 26)
  /-- LOOP (R138): Runs the following body a bounded number of times. -/
  | loop (e : Fin 1024) (f : BitVec 26)
  /-- SKIP (R138): Skips the following words when a predicate condition holds. -/
  | skip (e : Fin 1024) (f : BitVec 26)
  /-- HOOK (R139): Calls the extension at word 1,280, or does nothing with none in force. -/
  | hook (e : Fin 1024) (f : BitVec 26)
  /-- RET (R139): Returns from the extension to the word after HOOK. -/
  | ret (e : Fin 1024) (f : BitVec 26)
  /-- YIELD (R136): Ends the row; emits, cell and histogram effects take effect once the neighbours' reads are done. -/
  | yield (e : Fin 1024) (f : BitVec 26)
  /-- YIELD_WAIT_END (R136): A YIELD that waited completes when its neighbours finish their reads. -/
  | yieldWaitEnd (e : Fin 1024)
  /-- CMD_NOP (R247): Command NOP completes at once. Operands: the ring, its next descriptor and the command block -/
  | cmdNop (ring : Fin 262144) (x : DescIn) (b : CmdBlk)
  /-- START (R247): Command START takes the module from IDLE to LIVE at the next slate boundary. Operands: the ring, its next descriptor and the command block -/
  | start (ring : Fin 262144) (x : DescIn) (b : CmdBlk)
  /-- STOP (R35): Command STOP takes the module to IDLE at the end of the current slate, abandoning any take. Operands: the ring, its next descriptor and the command block -/
  | stop (ring : Fin 262144) (x : DescIn) (b : CmdBlk)
  /-- TAKE (R178): Command TAKE requests a take in the named mode, accepted or refused under R178 and R89. Operands: the ring, its next descriptor and the command block -/
  | take (ring : Fin 262144) (x : DescIn) (b : CmdBlk)
  /-- COMMIT (R165): Command COMMIT puts staged cards, bulk loads and regional gains into force two slates later. Operands: the ring, its next descriptor and the command block -/
  | commit (ring : Fin 262144) (x : DescIn) (b : CmdBlk)
  /-- ENTER_SAFE (R36): Command ENTER_SAFE sends the module to SAFE with HOLD_CAUSE 0x04. Operands: the ring, its next descriptor and the command block -/
  | enterSafe (ring : Fin 262144) (x : DescIn) (b : CmdBlk)
  /-- RESUME (R33): Command RESUME takes the module from SAFE to IDLE when the cause and temperature allow. Operands: the ring, its next descriptor and the command block -/
  | resume (ring : Fin 262144) (x : DescIn) (b : CmdBlk)
  /-- RESET_COMMAND (R412): Command RESET writes its completion and then asserts the COMMAND reset source. Operands: the ring, its next descriptor and the command block -/
  | resetCommand (ring : Fin 262144) (x : DescIn) (b : CmdBlk)
  /-- SHUTTER (R340): Command SHUTTER sends ACT_CMD for channel 0 or 1 and completes on the acknowledgement. Operands: the ring, its next descriptor and the command block -/
  | shutter (ring : Fin 262144) (x : DescIn) (b : CmdBlk)
  /-- VALVE (R340): Command VALVE sends ACT_CMD for channel 2 or 3. Operands: the ring, its next descriptor and the command block -/
  | valve (ring : Fin 262144) (x : DescIn) (b : CmdBlk)
  /-- RELAY (R340): Command RELAY sends ACT_CMD for channel 4. Operands: the ring, its next descriptor and the command block -/
  | relay (ring : Fin 262144) (x : DescIn) (b : CmdBlk)
  /-- SPARE (R340): Command SPARE sends ACT_CMD for channel 5. Operands: the ring, its next descriptor and the command block -/
  | spare (ring : Fin 262144) (x : DescIn) (b : CmdBlk)
  /-- HOUSEKEEPING (R306): Command HOUSEKEEPING sends HK_CMD with its action and completes on the acknowledgement. Operands: the ring, its next descriptor and the command block -/
  | housekeeping (ring : Fin 262144) (x : DescIn) (b : CmdBlk)
  /-- INDICATOR_SEND (R356): Command INDICATOR with SEND sends IND_DATA for dirty nodes, then IND_LATCH. Operands: the ring, its next descriptor and the command block, whose PARAM0 is the action -/
  | indicatorSend (ring : Fin 262144) (x : DescIn) (b : CmdBlk)
  /-- INDICATOR_SEND_ALL (R356): Command INDICATOR with SEND_ALL sends IND_DATA for every node up to LAST, then IND_LATCH. Operands: the ring, its next descriptor and the command block, whose PARAM0 is the action -/
  | indicatorSendAll (ring : Fin 262144) (x : DescIn) (b : CmdBlk)
  /-- TAKE_STGATE_WRITE (R193): A write to TAKE_STGATE_n sets the motion bits and restarts LIFE. Operands: the path, the register and the word -/
  | takeStgateWrite (p : Path) (n : Fin 6) (v : BitVec 32)
  /-- CARD_LOAD_ENTRIES (R159): An ENTRIES block of a card-load descriptor is checked and staged in the engine's ledger. Operands: the card-load ring -/
  | cardLoadEntries (ring : Fin 262144)
  /-- CARD_LOAD_BULK (R168): A BULK block writes slots 0 to 12,355 of its engine into card memory, moving it to SETTLING. Operands: the card-load ring and the slots that its payload read brings -/
  | cardLoadBulk (ring : Fin 262144) (k : Fin 12357)
  /-- LEDGER_WAIT_RESUME (R162): A card-load ring waiting for ledger room resumes once a commit or discard frees entries. Operands: the card-load ring -/
  | ledgerWaitResume (ring : Fin 262144)
  /-- BULK_LOAD_COMPLETE (R169): A bulk payload is fully written and its CRC is checked; the descriptor completes OK or BADREC. Operands: the card-load ring -/
  | bulkLoadComplete (ring : Fin 262144)
  /-- CAL_READ_CARDS (R172): CAL_RD_CMD with KIND CARDS starts a copy of card slots into CAL_RD_DATA. Operands: the path and the other fields of the word -/
  | calReadCards (p : Path) (v : BitVec 32)
  /-- CAL_READ_LEDGER (R172): CAL_RD_CMD with KIND LEDGER starts a report of an engine's ledger. Operands: the path and the other fields of the word -/
  | calReadLedger (p : Path) (v : BitVec 32)
  /-- CAL_READ_CRC (R172): CAL_RD_CMD with KIND CRC starts a CRC-32 of an engine's card slots. Operands: the path and the other fields of the word -/
  | calReadCrc (p : Path) (v : BitVec 32)
  /-- CAL_RGAIN_WRITE (R155): A write to CAL_RGAIN_n stages regional gain entries and sets RG_DIRTY. Operands: the path, the register and the word -/
  | calRgainWrite (p : Path) (n : Fin 96) (v : BitVec 32)
  /-- GROUP_RESET (R63): FPA_GRP_CTRL action RESET_GROUP is staged for the group's next decision point. Operands: the path and the other fields of the word -/
  | groupReset (p : Path) (v : BitVec 32)
  /-- GROUP_DISABLE (R63): FPA_GRP_CTRL action DISABLE is staged for the group. Operands: the path and the other fields of the word -/
  | groupDisable (p : Path) (v : BitVec 32)
  /-- GROUP_ENABLE (R63): FPA_GRP_CTRL action ENABLE is staged for the group. Operands: the path and the other fields of the word -/
  | groupEnable (p : Path) (v : BitVec 32)
  /-- FPA_MODE_WRITE (R57): A write to FPA_MODE is judged under R54 and staged with PENDING set. Operands: the path and the word -/
  | fpaModeWrite (p : Path) (v : BitVec 32)
  /-- FPA_INT_WRITE (R57): A write to FPA_INT is judged under R46 and staged with PENDING set. Operands: the path and the word -/
  | fpaIntWrite (p : Path) (v : BitVec 32)
  /-- LOAD_TIME (R80): SLATE_CMD.LOAD_TIME requests module time to be loaded from SLATE_TLOAD at the next boundary. Operands: the path and the other bits of the word -/
  | loadTime (p : Path) (v : BitVec 32)
  /-- STEP_TIME (R80): SLATE_CMD.STEP_TIME requests a step of module time by SLATE_TADJ at the next boundary. Operands: the path and the other bits of the word -/
  | stepTime (p : Path) (v : BitVec 32)
  /-- LOAD_NO (R80): SLATE_CMD.LOAD_NO requests SLATE_NO to be loaded from SLATE_NLOAD at the next boundary. Operands: the path and the other bits of the word -/
  | loadNo (p : Path) (v : BitVec 32)
  /-- HERD_CFG_WRITE (R93): A write to HERD_CFG takes effect at the next boundary, joining or leaving the herd. Operands: the path and the word -/
  | herdCfgWrite (p : Path) (v : BitVec 32)
  /-- RESTART (R106): PIPE_ENG_CTRL action RESTART is staged for a FAULTED engine. Operands: the path and the other fields of the word -/
  | restart (p : Path) (v : BitVec 32)
  /-- FORCE_FAULT (R106): PIPE_ENG_CTRL action FORCE_FAULT sends the engine to FAULTED with cause FORCED at once. Operands: the path and the other fields of the word -/
  | forceFault (p : Path) (v : BitVec 32)
  /-- ENGP_CHECK (R142): ENGP_CMD action CHECK copies the image and starts the loader tests. Operands: the path and the other bits of the word -/
  | engpCheck (p : Path) (v : BitVec 32)
  /-- ENGP_LOAD (R145): ENGP_CMD action LOAD tests the image and, if accepted, stages it for application. Operands: the path and the other bits of the word -/
  | engpLoad (p : Path) (v : BitVec 32)
  /-- ENGP_REMOVE (R145): ENGP_CMD action REMOVE stages the standard program alone for application. Operands: the path and the other bits of the word -/
  | engpRemove (p : Path) (v : BitVec 32)
  /-- ENGP_PEEK (R147): A write of ENGP_PEEK_CMD selects an engine for the next user-area copy. Operands: the path and the word -/
  | engpPeek (p : Path) (v : BitVec 32)
  /-- CELL_RT_DATA_WRITE (R202): A write of CELL_RT_DATA stores two staged radiometric entries and advances IDX by 2. Operands: the path and the word -/
  | cellRtDataWrite (p : Path) (v : BitVec 32)
  /-- COMMIT_HIGH (R202): CELL_RT_CMD COMMIT_HIGH checks the staged table and starts its commit for high gain. Operands: the path and the other bits of the word -/
  | commitHigh (p : Path) (v : BitVec 32)
  /-- COMMIT_LOW (R202): CELL_RT_CMD COMMIT_LOW checks the staged table and starts its commit for low gain. Operands: the path and the other bits of the word -/
  | commitLow (p : Path) (v : BitVec 32)
  /-- CLEAR_HIGH (R202): CELL_RT_CMD CLEAR_HIGH starts removing the high-gain copy. Operands: the path and the other bits of the word -/
  | clearHigh (p : Path) (v : BitVec 32)
  /-- CLEAR_LOW (R202): CELL_RT_CMD CLEAR_LOW starts removing the low-gain copy. Operands: the path and the other bits of the word -/
  | clearLow (p : Path) (v : BitVec 32)
  /-- MAP_APPLY (R204): CELL_MAP_CTRL.APPLY requests the staged cell map bank to come into force. Operands: the path and the other fields of the word -/
  | mapApply (p : Path) (v : BitVec 32)
  /-- CELL_ACK (R210): A write of CELL_ACK releases one cell or every cell at its next evaluation. Operands: the path and the word -/
  | cellAck (p : Path) (v : BitVec 32)
  /-- CONFIG_REQUEST (R224): A PCI Express configuration request is served or answered with Retry Status. Operands: the request -/
  | configRequest (q : CfgReq)
  /-- LINK_STATE_CHANGE (R226): The link goes up or down or changes speed or width, raising source 168. Operands: whether the link is up; its speed and width as RING_LINK encodes them -/
  | linkStateChange (up : Bool) (speed : Fin 5) (width : Fin 5)
  /-- UNSERVED_ACCESS (R225): A BAR access in an unserved form or to an unimplemented address is refused and logged in VIOL_LOG. Operands: write or read, BAR2 or BAR0, the offset, the requester -/
  | unservedAccess (write : Bool) (bar2 : Bool) (a : Nat) (req : Fin 65536)
  /-- REGISTER_WRITE (R20): A write to a register that has no row of its own, with RSV, W1C, W1S and reserved-encoding handling. Operands: the access and its offset -/
  | registerWrite (x : WriteForm) (a : Nat)
  /-- REGISTER_READ_CLEAR (R20): A read of a register with RC fields returns the value and clears those fields. Operands: the access and its offset -/
  | registerReadClear (x : ReadForm) (a : Nat)
  /-- MSIX_VECTOR_UNMASK (R257): A vector or the function is unmasked and pending messages are sent. Operands: what is unmasked -/
  | msixVectorUnmask (u : Unmask)
  /-- RING_READ (R231): RING_CMD action READ copies a ring context into RING_CTX. Operands: the path and the other bits of the word -/
  | ringRead (p : Path) (v : BitVec 32)
  /-- RING_WRITE (R231): RING_CMD action WRITE copies the RW fields of RING_CTX into a DISABLED ring. Operands: the path and the other bits of the word -/
  | ringWrite (p : Path) (v : BitVec 32)
  /-- RING_ENABLE (R232): RING_CMD action ENABLE checks the context and enables the ring. Operands: the path and the other bits of the word -/
  | ringEnable (p : Path) (v : BitVec 32)
  /-- RING_DISABLE (R233): RING_CMD action DISABLE completes descriptors in use and disables the ring. Operands: the path and the other bits of the word -/
  | ringDisable (p : Path) (v : BitVec 32)
  /-- RING_PAUSE (R233): RING_CMD action PAUSE pauses an ENABLED ring. Operands: the path and the other bits of the word -/
  | ringPause (p : Path) (v : BitVec 32)
  /-- RING_UNPAUSE (R231): RING_CMD action UNPAUSE resumes a PAUSED ring. Operands: the path and the other bits of the word -/
  | ringUnpause (p : Path) (v : BitVec 32)
  /-- RING_CLEAR_ERROR (R234): RING_CMD action CLEAR_ERROR takes a ring from ERROR to DISABLED. Operands: the path and the other bits of the word -/
  | ringClearError (p : Path) (v : BitVec 32)
  /-- RING_ACTION_DONE (R231): A ring action is applied, BUSY clears and RESULT is set. Operands: what the check bits of the context show -/
  | ringActionDone (ecc : Ecc)
  /-- DOORBELL_WRITE (R236): A doorbell write sets PIDX and PWRAP, or is dropped and may put the ring in ERROR. Operands: the requester, the ring, what the check bits of its context show, the low word -/
  | doorbellWrite (req : Fin 65536) (ring : Fin 262144) (ecc : Ecc) (v : BitVec 32)
  /-- DESCRIPTOR_FETCH_DONE (R238): A descriptor or host-to-device buffer read completes and is checked, or fails and puts the ring in ERROR. Operands: the ring, what the check bits of its context show, what the reads bring -/
  | descriptorFetchDone (ring : Fin 262144) (ecc : Ecc) (f : FetchIn)
  /-- BAND_WRITE_DONE (R242): The writes of a band or status block complete and the descriptor completes when full or at the frame's end. Operands: the ring -/
  | bandWriteDone (ring : Fin 262144)
  /-- BAND_WRITE_DEADLINE (R73): A band not fully written within 64 row slots of hand-over completes its descriptor TRUNCATED. Operands: the ring and the bytes of the piece that have been written -/
  | bandWriteDeadline (ring : Fin 262144) (k : Nat)
  /-- EVT_EN_WRITE (R256): A write to EVT_EN_n that enables a source with STAT set makes a message request at once. Operands: the path, the register and the word -/
  | evtEnWrite (p : Path) (n : Fin 8) (v : BitVec 32)
  /-- EVT_FORCE (R266): A write of EVT_FORCE raises the named source. Operands: the path and the word -/
  | evtForce (p : Path) (v : BitVec 32)
  /-- VIOL_CLEAR (R260): A write of EVT_VIOL_CNT.CLEAR sets HELD and OVER to 0. Operands: the path and the other bits of the word -/
  | violClear (p : Path) (v : BitVec 32)
  /-- MP_NOP (R272): A management port frame with OP NOP delivers the previous reply and does nothing. Operands: bits that the frame clocks, whether it starts before the status word is ready -/
  | mpNop (nbits : Nat) (early : Bool)
  /-- MP_READ (R272): A management port READ fetches COUNT words for the next frame's reply. Operands: bits that the frame clocks, whether it starts before the status word is ready, WADDR, COUNT -/
  | mpRead (nbits : Nat) (early : Bool) (w0 : Fin 262144) (count : Fin 1024)
  /-- MP_WRITE (R272): A management port WRITE writes COUNT quantities from WADDR onward. Operands: bits that the frame clocks, whether it starts before the status word is ready, WADDR, COUNT; the quantities, those that find the buffer full, and the writes still buffered when the frame ends -/
  | mpWrite (nbits : Nat) (early : Bool) (w0 : Fin 262144) (count : Fin 1024) (data : List (BitVec 32)) (full : List Nat) (kept : Fin 5)
  /-- MP_READ_MIRROR (R274): A management port READ_MIRROR returns value, generation and age of FLD mirrors. Operands: bits that the frame clocks, whether it starts before the status word is ready, WADDR, COUNT -/
  | mpReadMirror (nbits : Nat) (early : Bool) (w0 : Fin 262144) (count : Fin 1024)
  /-- MP_WRITE_CHECKED (R275): A management port WRITE_CHECKED compares GEN with a unit's state word and writes only on a match. Operands: bits that the frame clocks, whether it starts before the status word is ready, WADDR, COUNT, the check word; the quantities, those that find the buffer full, and the writes still buffered when the frame ends -/
  | mpWriteChecked (nbits : Nat) (early : Bool) (w0 : Fin 262144) (count : Fin 1024) (check : BitVec 32) (data : List (BitVec 32)) (full : List Nat) (kept : Fin 5)
  /-- MP_RECOVERY_FRAME (R285): A frame of 64 ones resets MGP_CFG and MGP_LEN and discards the pending reply. Operands: bits after the 64 ones, whether the frame starts before the status word is ready -/
  | mpRecoveryFrame (extra : Nat) (early : Bool)
  /-- COMPAT_NOP (R287): A forerunner-compatible frame with OP NOP. Operands: bits that the frame clocks, whether it starts before the status word is ready, ADDR -/
  | compatNop (nbits : Nat) (early : Bool) (w0 : Fin 65536)
  /-- COMPAT_READ (R287): A forerunner-compatible READ of consecutive words from ADDR. Operands: bits that the frame clocks, whether it starts before the status word is ready, ADDR -/
  | compatRead (nbits : Nat) (early : Bool) (w0 : Fin 65536)
  /-- COMPAT_WRITE (R287): A forerunner-compatible WRITE of the frame's data quantities. Operands: bits that the frame clocks, whether it starts before the status word is ready, ADDR; the quantities, those that find the buffer full, and the writes still buffered when the frame ends -/
  | compatWrite (nbits : Nat) (early : Bool) (w0 : Fin 65536) (data : List (BitVec 32)) (full : List Nat) (kept : Fin 5)
  /-- MP_FETCH_DONE (R277): A read word fetch completes, with all its side effects, in time for its slot or late with UNDR. Operand: how late, and how much of the reply has begun -/
  | mpFetchDone (x : MpFetch)
  /-- CROSSING_MESSAGE_SENT (R296): A crossing message ends after 3.2 µs and the end sends its next queued message by priority. Operands: the direction -/
  | crossingMessageSent (toField : Bool)
  /-- CROSSING_MESSAGE_INVALID (R294): A received crossing message with bad CRC, type or unused bits is dropped and counted. Operands: the direction and the 64 bits received -/
  | crossingMessageInvalid (toField : Bool) (w : BitVec 64)
  /-- ACK_TIMEOUT (R305): No ACK arrives within 2.0 ms, and the message is resent or the crossing goes to SYNCING. Operands: the TAG -/
  | ackTimeout (tag : Fin 256)
  /-- INHIBIT_CHANGE (R303): The coldest field thermal sensor crosses −45 °C or −43 °C and INHIBIT changes. Operands: the temperatures of the four sensors, in 1/64 degree -/
  | inhibitChange (t0 : Int) (t1 : Int) (t2 : Int) (t3 : Int)
  /-- MIRROR_SEND (R309): The field companion sends MIRROR for a register that has changed or is due at its 100 ms limit. Operands: the mirror, and whether its 100 ms limit has passed -/
  | mirrorSend (k : Fin 128) (limit : Bool)
  /-- XCTRL_REFRESH (R295): FLD_XCTRL.REFRESH queues MIRROR_REQ. Operands: the path and the other bits of the word -/
  | xctrlRefresh (p : Path) (v : BitVec 32)
  /-- XCTRL_ECHO (R295): FLD_XCTRL.ECHO queues ECHO_REQ. Operands: the path and the other bits of the word -/
  | xctrlEcho (p : Path) (v : BitVec 32)
  /-- MIRROR_WRITE (R308): A write to an RW mirror register queues REG_WR, or is discarded with a dailies REFUSAL. Operands: the path, the mirror and the word -/
  | mirrorWrite (p : Path) (k : Fin 128) (v : BitVec 32)
  /-- SHOT_REGISTER_WRITE (R345): A write of SHOT_n_s queues SHOT_WR; the register takes the value on ACK OK. Operands: the path, the channel, the step and the word -/
  | shotRegisterWrite (p : Path) (n : Fin 6) (k : Fin 32) (v : BitVec 32)
  /-- HK_CONVERSION_DONE (R310): A housekeeping conversion ends and its result goes to its destinations, a shot list or the shared-channel compare. Operands: converter HKB, or HKA; the result -/
  | hkConversionDone (b : Bool) (code : Fin 65536)
  /-- HK_OPEN_WIRE_WAIT_END (R313): The 50 µs open-wire settling wait ends and the test conversion starts. Operands: converter HKB, or HKA -/
  | hkOpenWireWaitEnd (b : Bool)
  /-- HK_CALIBRATION_DONE (R315): A converter self-calibration ends and HK_EVENT CAL_A or CAL_B is sent. Operands: converter HKB, or HKA -/
  | hkCalibrationDone (b : Bool)
  /-- PWM_PERIOD (R328): A 50 µs PWM period ends; regulation, WAIT tests and timed steps advance the shot lists. Operands: what the six channels give -/
  | pwmPeriod (ins : List PwmIn)
  /-- SHOT_REG (R327): Shot-list step REG regulates to ISET for its time. Operands: the channel -/
  | shotReg (n : Fin 6)
  /-- SHOT_HOLD (R327): Shot-list step HOLD regulates then triggers a resistance measurement. Operands: the channel -/
  | shotHold (n : Fin 6)
  /-- SHOT_WAIT (R327): Shot-list step WAIT keeps the target until the current meets its condition or times out. Operands: the channel -/
  | shotWait (n : Fin 6)
  /-- SHOT_INJECT (R327): Shot-list step INJECT requests an injected conversion, waiting for the result when WAITRES = 1. Operands: the channel -/
  | shotInject (n : Fin 6)
  /-- SHOT_LOOP (R327): Shot-list step LOOP repeats steps TARGET to itself COUNT times. Operands: the channel -/
  | shotLoop (n : Fin 6)
  /-- SHOT_END (R327): Shot-list step END switches off into DECAY or enters HOLDING. Operands: the channel -/
  | shotEnd (n : Fin 6)
  /-- OVERCURRENT (R322): A channel's current exceeds its trip for 10 µs and its sequence ends FAULT. Operands: the channel -/
  | overcurrent (n : Fin 6)
  /-- HS_FAULT (R322): A high-side switch exceeds 6.0 A or its output stays below half of VVEH and both channels stop with FAULT. Operands: the switch -/
  | hsFault (m : Fin 3)
  /-- DECAY_END (R326): The channel current falls below 50 mA, or 20 ms pass, the channel goes OFF, SHOT_STATUS is sent, and a held partner RUN may start. Operands: the channel -/
  | decayEnd (n : Fin 6)
  /-- RESISTANCE_MEASUREMENT (R335): Both injected results after a HOLD arrive and the coil resistance and θ are set, or discarded. Operands: the channel -/
  | resistanceMeasurement (n : Fin 6)
  /-- EMITTER_LINE_SLOT (R348): A 62.5 µs line slot of the emitter scan ends and the next line or scan starts. Operands: the samples of the twelve emitters of the line -/
  | emitterLineSlot (xs : List EmSample)
  /-- EMT_APPLY (R353): EMT_CTRL.APPLY brings the EMT_PAT pattern into force at the next scan start. Operands: the path and the other fields of the word -/
  | emtApply (p : Path) (v : BitVec 32)
  /-- IND_FRAME_LATCH_END (R354): An indicator frame's 80 µs latch period ends, IND_STATUS is sent and a queued frame may start. Operands: whether the words that return differ -/
  | indFrameLatchEnd (differs : Bool)
  /-- SENSOR_WINDOW (R365): A 250 µs sensor window ends and fast values, BROKEN states and hot levels are updated. Operands: the counts of the sensors in order, and of those beyond the list -/
  | sensorWindow (rest : SensCount) (xs : List SensCount)
  /-- POWER_MEASUREMENT (R377): Every 250 µs the Gaffer measures HOST_12V power and evaluates OVER. Operands: the power in mW -/
  | powerMeasurement (mw : Nat)
  /-- NVS_INIT_DONE (R384): The store has read keys, counters and FACT_TRIM, and CNT_VALID reads 1. Operands: errors of the reads -/
  | nvsInitDone (errs : List NvsErr)
  /-- NVS_READ (R385): NVS_CMD action READ copies bytes of a page into NVS_BUF. Operands: the path and the other fields of the word -/
  | nvsRead (p : Path) (v : BitVec 32)
  /-- NVS_WRITE (R385): NVS_CMD action WRITE programs NVS_BUF bytes into a page. Operands: the path and the other fields of the word -/
  | nvsWrite (p : Path) (v : BitVec 32)
  /-- REC_READ (R388): NVS_CMD action REC_READ selects and reads a two-copy record. Operands: the path and the other fields of the word -/
  | recRead (p : Path) (v : BitVec 32)
  /-- REC_WRITE (R389): NVS_CMD action REC_WRITE writes the other copy of a record and reads it back. Operands: the path and the other fields of the word -/
  | recWrite (p : Path) (v : BitVec 32)
  /-- UNLOCK (R393): NVS_CMD action UNLOCK compares NVS_PW with a region password. Operands: the path and the other fields of the word -/
  | unlock (p : Path) (v : BitVec 32)
  /-- LOCK (R393): NVS_CMD action LOCK closes both kinds of a region. Operands: the path and the other fields of the word -/
  | lock (p : Path) (v : BitVec 32)
  /-- SET_PW (R393): NVS_CMD action SET_PW writes a new password into the region's key record. Operands: the path and the other fields of the word -/
  | setPw (p : Path) (v : BitVec 32)
  /-- NVS_PAGE_OP_DONE (R398): A store page operation ends and the next waiting operation is taken by the serving order. Operands: errors of the reads, and the groups of a scrubbed page that read weak -/
  | nvsPageOpDone (errs : List NvsErr) (weak : List (Fin 16))
  /-- XIP_MISS (R406): A control core fetch misses the prefetch buffer and a line load is requested. Operands: the core and the line -/
  | xipMiss (core : Fin 4) (line : Fin 131072)
  /-- FLP_READ (R411): FLP_CMD action READ reads flash bytes into FLP_BUF. Operands: the path and the other fields of the word -/
  | flpRead (p : Path) (v : BitVec 32)
  /-- PROGRAM (R411): FLP_CMD action PROGRAM programs FLP_BUF bytes into the other slot. Operands: the path and the other fields of the word -/
  | program (p : Path) (v : BitVec 32)
  /-- ERASE4K (R411): FLP_CMD action ERASE4K erases a 4 KiB sector of the other slot. Operands: the path and the other fields of the word -/
  | erase4k (p : Path) (v : BitVec 32)
  /-- FLP_RESET (R412): A write of FLP_RESET with KEY 0xA55A asserts the REGISTER reset source; any other KEY is logged. Operands: the path and the word -/
  | flpReset (p : Path) (v : BitVec 32)
  /-- MP_RESERVED_OP (R272): A management port frame carrying a reserved OP, native or compatible, is discarded with ERR, logged in MGP_LOG as CMD and raises source 192. Operands: bits that the frame clocks, whether it starts before the status word is ready, OP less 5, WADDR -/
  | mpReservedOp (nbits : Nat) (early : Bool) (op : Fin 11) (w0 : Fin 262144)
  /-- LOW_WORD_READ (R19): A BAR0 read of the low word of a paired register latches the high word for the following high-word read on that path. Operands: the path and the offset -/
  | lowWordRead (p : Path) (a : Nat)
  /-- MIRROR_READ (R307): A BAR0 read of a mirror register returns the value and latches that mirror's GEN and AGE into FLD_MREAD. Operands: the path and the mirror -/
  | mirrorRead (p : Path) (k : Fin 128)
  /-- AUX_DOMAIN_UNSUPPLIED (R33): The aux domain loses every supply and the module enters OFF at once. -/
  | auxDomainUnsupplied
  /-- HOST_12V_APPLIED (R33): HOST_12V rises above its present threshold and the module enters RESET, unless R34 holds the main domain off. -/
  | host12vApplied
  /-- HOST_12V_LOST (R27): HOST_12V stays below its lost threshold for the deglitch time and the module enters AUX_ONLY with HOLD_CAUSE 0x10, or OFF. -/
  | host12vLost
  /-- VVEH_APPLIED (R27): VVEH rises above its present threshold and the field companion powers up in field SAFE with cause POWER_UP. -/
  | vvehApplied
  /-- VVEH_LOST (R27): VVEH stays below 11.0 V after the hold-up of R433 is spent and the field side powers down with every output off. -/
  | vvehLost
  /-- VVEH_LOW_DETECT (R299): VVEH stays below 14.0 V for 120 ms and the field companion enters field SAFE with cause VVEH_LOW. -/
  | vvehLowDetect
  /-- VVEH_LOW_CLEAR (R301): VVEH rises to 15.0 V and the VVEH_LOW condition ends. -/
  | vvehLowClear
  /-- PERST_ASSERT (R412): PERST# goes low and the PERST reset source is asserted. -/
  | perstAssert
  /-- PERST_RELEASE (R412): PERST# goes high and the PERST reset source ends 100 µs later; the release may count toward the R34 release condition. -/
  | perstRelease
  /-- HOT_RESET (R412): A Hot Reset or Link Disable is received and asserts the HOT reset source. -/
  | hotReset
  /-- FLASH_READY_TIMEOUT (R405): The flash still reports write in progress after 2.0 s and both slots fail verification. -/
  | flashReadyTimeout
  /-- WATCHDOG_EXPIRY (R412): A control core's 50 ms watchdog expires and the module enters SAFE with HOLD_CAUSE 0x03. -/
  | watchdogExpiry
  /-- SLATE_BOUNDARY (R71): The slate ends, from its own timer or an external edge, and staged changes, state transitions and per-slate latches take effect. -/
  | slateBoundary
  /-- EARLY_EDGE_RELEASE (R75): A latched EARLY edge ends the slate when L reaches TICKS ÷ 2. -/
  | earlyEdgeRelease
  /-- MISSED_EDGE_TIMEOUT (R75): No external edge arrives by L = 3 × TICKS ÷ 2; the slate ends MISSED and after three the module is unlocked. -/
  | missedEdgeTimeout
  /-- HELD_SLOT_TIMEOUT (R76): An unlocked module's held last blanking slot ends after NSLOTS × TICKS + TICKS ticks without an edge. -/
  | heldSlotTimeout
  /-- ELECTION_INITIATE (R85): A participant that has seen no suitable leader or three MISSED slates drives the 40 µs election start pulse. -/
  | electionInitiate
  /-- ELECTION_END (R85): At t1 + 90 µs the remaining participant becomes leader and the others unlocked followers. -/
  | electionEnd
  /-- HERD_MESSAGE_BAD_CRC (R88): A herd lane message with a bad CRC is dropped and counted. Operand: its 24 bytes, or none for bytes whose CRC is bad; a message of a reserved TYPE and a good CRC comes so too -/
  | herdMessageBadCrc (w : List (BitVec 8) := [])
  /-- HERD_LANE_LOSS (R88): Loss of signal on HERD_IN± for 10 µs clears LANE_UP. -/
  | herdLaneLoss
  /-- ROSTER_TIMEOUT (R88): A member unheard for 8 own slates is removed from HERD_ROSTER. -/
  | rosterTimeout
  /-- TAKE_REQ_TIMEOUT (R89): A take request unanswered for 4 own slates is treated as denied. -/
  | takeReqTimeout
  /-- WAIT_EXPIRED (R89): A queued AUTO request waits HERD_TAKE.WAIT leader slates and is denied WAIT_EXPIRED. -/
  | waitExpired
  /-- SCHEDULE_GRANT (R89): Every SCHED_PERIOD slates the leader issues a herd-schedule grant to the next member. -/
  | scheduleGrant
  /-- INTERVAL_TRIGGER (R175): INTERVAL seconds of module time pass and an automatic take trigger fires. -/
  | intervalTrigger
  /-- MIN_GAP_END (R176): The MIN_GAP hold on automatic triggers ends. -/
  | minGapEnd
  /-- TAKE_SHUTTER_TIMEOUT (R181): A take's close or open sequence has not ended 150 ms after its request and the take is abandoned with SHUTTER. -/
  | takeShutterTimeout
  /-- DEPOT_L_EXPIRY (R195): A recorded L becomes invalid after 1,800 s of module time. -/
  | depotLExpiry
  /-- STGATE_LIFE_EXPIRY (R193): LIFE slates pass after the last TAKE_STGATE write and the motion bits lapse. -/
  | stgateLifeExpiry
  /-- CAL_READ_DONE (R172): A card read completes within 20 µs, setting DONE and raising source 132. -/
  | calReadDone
  /-- ENGP_TEST_DONE (R142): The loader tests end within 4 ms and RESULT, ERR_WORD and ENGP_WORST are set. -/
  | engpTestDone
  /-- RT_CMD_DONE (R202): A radiometric table command ends within 1 ms with ACCEPTED or NOT_MONOTONE. -/
  | rtCmdDone
  /-- MAP_COPY_DONE (R204): The new bank in force has been copied into the staged bank and MAP_BUSY clears. -/
  | mapCopyDone
  /-- CELL_RECORD_DEQUEUE (R213): The ring writer takes the next cell record from the 4,096-entry queue and places or drops it. -/
  | cellRecordDequeue
  /-- DAILIES_DEQUEUE (R261): The queue hands its next entry to an ENABLED dailies ring. -/
  | dailiesDequeue
  /-- MP_BUFFERED_WRITE_ISSUE (R278): A buffered port write is issued to its register, or discarded with PWR if the domain is unpowered. -/
  | mpBufferedWriteIssue
  /-- HBEAT_H_SEND (R295): Every 1 ms outside SAFE the host end queues HBEAT_H. -/
  | hbeatHSend
  /-- SAFE_MESSAGE_SEND (R36): On entry into SAFE and every 1 ms in SAFE the host end queues the SAFE message. -/
  | safeMessageSend
  /-- HBEAT_F_SEND (R295): Every 1 ms while powered the field companion queues HBEAT_F. -/
  | hbeatFSend
  /-- BOOT_F_SEND (R295): 1 ms after field power-up the field companion sends BOOT_F. -/
  | bootFSend
  /-- HBEAT_H (R301): The field companion receives HBEAT_H, takes the relay request and GBASE and may leave field SAFE. -/
  | hbeatH
  /-- SLATE_MARK (R338): The field companion receives SLATE_MARK and takes the relay request. -/
  | slateMark
  /-- SAFE_MESSAGE (R299): The field companion receives SAFE and enters field SAFE with cause SAFE_MSG. -/
  | safeMessage
  /-- ACT_RUN (R324): ACT_CMD with ACTION RUN starts or holds a channel's shot list. -/
  | actRun
  /-- ACT_OFF (R324): ACT_CMD with ACTION OFF stops a sequence or hold and discards a held RUN. -/
  | actOff
  /-- SHOT_WR (R341): The field companion receives SHOT_WR and writes one step of a channel's shot list. -/
  | shotWr
  /-- REG_WR (R308): The field companion receives REG_WR and applies a mirrored register value or refuses it BADVAL. -/
  | regWr
  /-- HK_START (R306): HK_CMD action START begins housekeeping scans. -/
  | hkStart
  /-- HK_STOP (R306): HK_CMD action STOP ends scans after the scan in progress. -/
  | hkStop
  /-- HK_CAL_A (R315): HK_CMD action CAL_A requests a self-calibration of HKA. -/
  | hkCalA
  /-- HK_CAL_B (R315): HK_CMD action CAL_B requests a self-calibration of HKB. -/
  | hkCalB
  /-- HK_CAL_BOTH (R315): HK_CMD action CAL_BOTH requests a self-calibration of both converters. -/
  | hkCalBoth
  /-- HK_CLEAR_BUF (R306): HK_CMD action CLEAR_BUF empties the field-side result buffer. -/
  | hkClearBuf
  /-- IND_DATA (R357): The field companion receives IND_DATA and writes a node word into its table. -/
  | indData
  /-- IND_LATCH (R357): The field companion receives IND_LATCH and starts or queues a frame of table words 0 to LAST. -/
  | indLatch
  /-- MIRROR_REQ (R309): The field companion receives MIRROR_REQ and sends every implemented mirror within 10 ms. -/
  | mirrorReq
  /-- ECHO_REQ (R295): The field companion receives ECHO_REQ and returns the pattern in ECHO. -/
  | echoReq
  /-- SHOT_RD (R345): The field companion receives SHOT_RD and returns the step in SHOT_DATA. -/
  | shotRd
  /-- HBEAT_F (R302): The host end receives HBEAT_F with field mode, generation and FT. -/
  | hbeatF
  /-- ACK (R304): The host end receives ACK and completes the command or message of its TAG. -/
  | ack
  /-- MIRROR (R307): The host end receives MIRROR and updates the mirror's value, GEN and AGE. -/
  | mirror
  /-- HK_RESULT (R317): The host end receives HK_RESULT and turns it into a housekeeping ring record. -/
  | hkResult
  /-- HK_EVENT (R317): The host end receives HK_EVENT and turns it into a housekeeping ring record and events. -/
  | hkEvent
  /-- ACT_EVENT (R342): The host end receives ACT_EVENT and records it in the dailies and events. -/
  | actEvent
  /-- SHOT_STATUS (R342): The host end receives SHOT_STATUS, fills ACT_LAST_n and updates TAKE_STATUS.SHUTTER. -/
  | shotStatus
  /-- IND_STATUS (R358): The host end receives IND_STATUS and fills IND_LAST_STAT. -/
  | indStatus
  /-- FIELD_EVENT (R302): The host end receives FIELD_EVENT reporting a change of MODE, INHIBIT or PLAUS_FAULT. -/
  | fieldEvent
  /-- BOOT_F (R345): The host end receives BOOT_F and resets the SHOT, ACT_LAST and indicator registers for the fresh field side. -/
  | bootF
  /-- ECHO (R295): The host end receives ECHO and records the round trip in RTT. -/
  | echo
  /-- SHOT_DATA (R345): The host end receives SHOT_DATA and sets the SHOT register of its channel and step. -/
  | shotData
  /-- CROSSING_TIMEOUT (R297): 5.0 ms pass without a valid message and the crossing goes DOWN, setting FIELD_ABSENT. -/
  | crossingTimeout
  /-- ECHO_TIMEOUT (R319): No ECHO arrives within 2 ms and RTT reads 0xFFF. -/
  | echoTimeout
  /-- FIELD_HEARTBEAT_TIMEOUT (R299): The field companion receives no valid message for 5.0 ms and enters field SAFE with cause HEARTBEAT. -/
  | fieldHeartbeatTimeout
  /-- HK_SCAN_START (R311): The scan period expires and both converters start a scan, or the start is skipped. -/
  | hkScanStart
  /-- HK_AUTO_CAL_TIMER (R315): CAL_MIN minutes pass and a self-calibration is requested. -/
  | hkAutoCalTimer
  /-- COIL_MODEL_UPDATE (R334): Every 1 ms the winding temperature estimate updates; reaching LIMIT shortens the sequence. -/
  | coilModelUpdate
  /-- WARM_OK_TIMER (R370): The warm-up conditions have held for 2.0 s and WARM_OK reads 1. -/
  | warmOkTimer
  /-- NVS_READY (R384): 20 µs after AUX_3V3 power-up the store becomes readable and begins its initial reads. -/
  | nvsReady
  /-- SCRUB_TIMER (R397): Every 1.7578 s the scrub reads the next page and rewrites weak groups. -/
  | scrubTimer
  /-- XIP_LINE_LOADED (R406): A flash line read completes into the prefetch buffer and prefetch of the next line starts. -/
  | xipLineLoaded
  /-- FLASH_OP_DONE (R411): An FLP command ends, setting DONE and RESULT and raising source 248. -/
  | flashOpDone
  /-- FLASH_OP_TIMEOUT (R411): A program exceeds 5 ms or an erase 1.0 s and ends TIMEOUT. -/
  | flashOpTimeout
  /-- LANE_UP (R88): Signal returns on HERD_IN± and LANE_UP is set, raising source 23. -/
  | laneUp
  /-- HOURS (R394): Each 3,600 s with the main domain powered, the HOURS spread counter is incremented. -/
  | hours
  deriving DecidableEq, Repr

end Sys2Proof
end

