-- ==== Sys2Proof/Decode.lean ====
section
/-! DEFINITION. Commands from words. No row of the opcode table gives bits, so no word of the table spells a command. The
management port does carry bits (11_management_port.md R272, R287): what a frame spells is here too. -/

namespace Sys2Proof

/-- The command that a word spells by the table's bits: none, since no row gives bits. -/
def decodeTableWord (_nbits _w : Nat) : Option Instr := none

/-- The `n` bits of a word from bit `lo` on, as a number below 2^n. -/
def wordField {m : Nat} (q : BitVec m) (lo n : Nat) : Fin (2 ^ n) :=
  ⟨q.toNat / 2 ^ lo % 2 ^ n, Nat.mod_lt _ (Nat.two_pow_pos n)⟩

/-- A frame of `nbits` bits whose first 64 bits on MP_SDI are `sdi` is a recovery frame (R285). -/
def isRecovery (nbits : Nat) (sdi : BitVec 64) : Bool := decide (64 ≤ nbits) && sdi == BitVec.allOnes 64

/-- The command of a native frame at word length `w` whose first 64 bits on MP_SDI are `sdi`, the first bit the most
significant (R269). The command is the first quantity, right-aligned in its words (R271): OP in [31:28], WADDR in [27:10],
COUNT in [9:0] (R272). The quantities after it are `data`, the first of which is the check word of WRITE_CHECKED (R275).
64 ones are a recovery frame, whatever the mode and the word length (R285). -/
def portCommand (w nbits : Nat) (early : Bool) (sdi : BitVec 64) (data : List (BitVec 32)) (full : List Nat) (kept : Fin 5) :
    Instr :=
  let qb := (32 + w - 1) / w * w
  let q : BitVec 32 := (sdi >>> (64 - qb)).setWidth 32
  let op := (wordField q 28 4).val
  let w0 : Fin 262144 := wordField q 10 18
  let count : Fin 1024 := wordField q 0 10
  if isRecovery nbits sdi then .mpRecoveryFrame (nbits - 64) early
  else if op = 0 then .mpNop nbits early
  else if op = 1 then .mpRead nbits early w0 count
  else if op = 2 then .mpWrite nbits early w0 count data full kept
  else if op = 3 then .mpReadMirror nbits early w0 count
  else if op = 4 then .mpWriteChecked nbits early w0 count (data.headD 0) (data.drop 1) full kept
  else .mpReservedOp nbits early (Fin.ofNat 11 (op - 5)) w0

/-- The command of a compatibility frame whose first 64 bits on MP_SDI are `sdi`: the header is the first 24 of them, OP in
its [23:16], the word address in its [15:0] (R287). 64 ones are a recovery frame here too (R285). -/
def compatCommand (nbits : Nat) (early : Bool) (sdi : BitVec 64) (data : List (BitVec 32)) (full : List Nat) (kept : Fin 5) :
    Instr :=
  let h : BitVec 24 := (sdi >>> 40).setWidth 24
  let op := (wordField h 16 8).val
  let w0 : Fin 65536 := wordField h 0 16
  if isRecovery nbits sdi then .mpRecoveryFrame (nbits - 64) early
  else if op = 0 then .compatNop nbits early w0
  else if op = 1 then .compatRead nbits early w0
  else if op = 2 then .compatWrite nbits early w0 data full kept
  else .mpReservedOp nbits early 0 ⟨w0.val, by omega⟩

end Sys2Proof
end

