-- ==== Sys2Proof/Config.lean ====
section
/-! DEFINITION. What the spec leaves to the world or leaves open: constants with no body, so that a statement
holds whatever they are. -/

namespace Sys2Proof

/-- A free value: the n-th value that the module takes and that the spec does not state. DESIGN CHOICE, log 3 and 12. -/
opaque Config.freeNat : Nat → Nat

/-- A byte of data memory whose content the spec does not define for column programs: engine, address, slate number
(04_column_engines.md R98: the layout of the engine state area is not given; 07_takes.md R184: the work area of a
take). DESIGN CHOICE, log 14. -/
opaque Config.undefByte : Nat → Nat → Nat → Nat

/-- The temperature, in 1/128 degree, of a thermistor that reads a code: the thermistors' own curve is the
integrator's (13_actuators.md R334, 19_electrical_mechanical.md R435). DESIGN CHOICE, log 15. -/
opaque Config.thermistorTemp : Nat → Int

/-- What VCLAMP gives where its lower limit lies above its upper one: the value, the lower and the upper limit
(05_column_programs.md R132 clamps into a range and says nothing of an empty one). DESIGN CHOICE, log 13. -/
opaque Config.emptyClamp : BitVec 32 → BitVec 32 → BitVec 32 → BitVec 32

/-- Byte `i` of the 16 payload bytes of a herd lane message of a type with the values given: 03_slate_and_herd.md R88 lists
the values and R87 no places for them. DESIGN CHOICE, log 51. -/
opaque Config.herdPayload : Nat → List Nat → Nat → Nat

end Sys2Proof
end

