-- ==== Sys2Proof/Machine/RegMap.lean ====
section
/-! DEFINITION. The register map of BAR0 (18_register_index.md R420 to R424 and the register tables of the
chapters): for every register its address, its named fields, its reset value and which of its bits a write
sets, a write of 1 clears, or a read clears. Written from the spec's own tables. -/

namespace Sys2Proof.Machine

/-- A named bit field: the byte address of its register in BAR0, its high bit and its low bit. -/
structure Fld where
  addr : Nat
  hi : Nat
  lo : Nat
  deriving DecidableEq, Repr

/-- One row of the register map: `count` registers of one layout, `stride` bytes apart from `base`. The masks
mark the bits by access code (R20): `rw` set by a write, `w1c` cleared by writing 1, `rc` cleared by a read,
`wo` acting on a write and reading 0. -/
structure RegInfo where
  name : String
  base : Nat
  stride : Nat
  count : Nat
  reset : BitVec 32
  rw : BitVec 32
  w1c : BitVec 32
  rc : BitVec 32
  wo : BitVec 32
  deriving DecidableEq, Repr

/-- GLB_ID (18_register_index.md, R421). -/
def GLB_ID.addr : Nat := 0x00000
def GLB_ID.DEVICE : Fld := ⟨0x00000, 31, 16⟩
def GLB_ID.VENDOR : Fld := ⟨0x00000, 15, 0⟩
/-- GLB_VARIANT (18_register_index.md, R421). -/
def GLB_VARIANT.addr : Nat := 0x00004
def GLB_VARIANT.REV : Fld := ⟨0x00004, 31, 24⟩
def GLB_VARIANT.MISMATCH : Fld := ⟨0x00004, 8, 8⟩
def GLB_VARIANT.STRAP : Fld := ⟨0x00004, 7, 4⟩
def GLB_VARIANT.VARIANT : Fld := ⟨0x00004, 3, 0⟩
/-- GLB_SERIAL_LO (18_register_index.md, R422). -/
def GLB_SERIAL_LO.addr : Nat := 0x00008
def GLB_SERIAL_LO.SERIAL : Fld := ⟨0x00008, 31, 0⟩
/-- GLB_SERIAL_HI (18_register_index.md, R422). -/
def GLB_SERIAL_HI.addr : Nat := 0x0000C
def GLB_SERIAL_HI.SERIAL : Fld := ⟨0x0000C, 31, 0⟩
/-- GLB_MSTATE (01_architecture.md, R32). -/
def GLB_MSTATE.addr : Nat := 0x00010
def GLB_MSTATE.GEN : Fld := ⟨0x00010, 31, 24⟩
def GLB_MSTATE.HOLD_CAUSE : Fld := ⟨0x00010, 23, 16⟩
def GLB_MSTATE.WATCHING : Fld := ⟨0x00010, 10, 10⟩
def GLB_MSTATE.FIELD_ABSENT : Fld := ⟨0x00010, 9, 9⟩
def GLB_MSTATE.TAKE : Fld := ⟨0x00010, 8, 8⟩
def GLB_MSTATE.PREV : Fld := ⟨0x00010, 7, 4⟩
def GLB_MSTATE.STATE : Fld := ⟨0x00010, 3, 0⟩
/-- GLB_SCRATCH (18_register_index.md, R422). -/
def GLB_SCRATCH.addr : Nat := 0x00014
def GLB_SCRATCH.DATA : Fld := ⟨0x00014, 31, 0⟩
/-- SLATE_CFG (03_slate_and_herd.md, R92). -/
def SLATE_CFG.addr : Nat := 0x01000
def SLATE_CFG.OUT_SLOT : Fld := ⟨0x01000, 31, 20⟩
def SLATE_CFG.EVT_DIV : Fld := ⟨0x01000, 15, 8⟩
def SLATE_CFG.OUT_POL : Fld := ⟨0x01000, 3, 3⟩
def SLATE_CFG.OUT_EN : Fld := ⟨0x01000, 2, 2⟩
def SLATE_CFG.SRC : Fld := ⟨0x01000, 0, 0⟩
/-- SLATE_STATUS (03_slate_and_herd.md, R92). -/
def SLATE_STATUS.addr : Nat := 0x01004
def SLATE_STATUS.LOCK : Fld := ⟨0x01004, 31, 30⟩
def SLATE_STATUS.TIMED_BY : Fld := ⟨0x01004, 29, 28⟩
def SLATE_STATUS.MISSES : Fld := ⟨0x01004, 27, 24⟩
def SLATE_STATUS.LAST_SLOT : Fld := ⟨0x01004, 23, 8⟩
/-- SLATE_NO_LO (03_slate_and_herd.md, R92). -/
def SLATE_NO_LO.addr : Nat := 0x01008
def SLATE_NO_LO.VAL : Fld := ⟨0x01008, 31, 0⟩
/-- SLATE_NO_HI (03_slate_and_herd.md, R92). -/
def SLATE_NO_HI.addr : Nat := 0x0100C
def SLATE_NO_HI.VAL : Fld := ⟨0x0100C, 15, 0⟩
/-- SLATE_TIME_LO (03_slate_and_herd.md, R92). -/
def SLATE_TIME_LO.addr : Nat := 0x01010
def SLATE_TIME_LO.VAL : Fld := ⟨0x01010, 31, 0⟩
/-- SLATE_TIME_HI (03_slate_and_herd.md, R92). -/
def SLATE_TIME_HI.addr : Nat := 0x01014
def SLATE_TIME_HI.VAL : Fld := ⟨0x01014, 31, 0⟩
/-- SLATE_START_LO (03_slate_and_herd.md, R92). -/
def SLATE_START_LO.addr : Nat := 0x01018
def SLATE_START_LO.VAL : Fld := ⟨0x01018, 31, 0⟩
/-- SLATE_START_HI (03_slate_and_herd.md, R92). -/
def SLATE_START_HI.addr : Nat := 0x0101C
def SLATE_START_HI.VAL : Fld := ⟨0x0101C, 31, 0⟩
/-- SLATE_TLOAD_LO (03_slate_and_herd.md, R92). -/
def SLATE_TLOAD_LO.addr : Nat := 0x01020
def SLATE_TLOAD_LO.VAL : Fld := ⟨0x01020, 31, 0⟩
/-- SLATE_TLOAD_HI (03_slate_and_herd.md, R92). -/
def SLATE_TLOAD_HI.addr : Nat := 0x01024
def SLATE_TLOAD_HI.VAL : Fld := ⟨0x01024, 31, 0⟩
/-- SLATE_TADJ (03_slate_and_herd.md, R92). -/
def SLATE_TADJ.addr : Nat := 0x01028
def SLATE_TADJ.VAL : Fld := ⟨0x01028, 31, 0⟩
/-- SLATE_TRIM (03_slate_and_herd.md, R92). -/
def SLATE_TRIM.addr : Nat := 0x0102C
def SLATE_TRIM.PPB_100 : Fld := ⟨0x0102C, 15, 0⟩
/-- SLATE_CMD (03_slate_and_herd.md, R92). -/
def SLATE_CMD.addr : Nat := 0x01030
def SLATE_CMD.LOAD_NO : Fld := ⟨0x01030, 2, 2⟩
def SLATE_CMD.STEP_TIME : Fld := ⟨0x01030, 1, 1⟩
def SLATE_CMD.LOAD_TIME : Fld := ⟨0x01030, 0, 0⟩
/-- SLATE_NLOAD_LO (03_slate_and_herd.md, R92). -/
def SLATE_NLOAD_LO.addr : Nat := 0x01034
def SLATE_NLOAD_LO.VAL : Fld := ⟨0x01034, 31, 0⟩
/-- SLATE_NLOAD_HI (03_slate_and_herd.md, R92). -/
def SLATE_NLOAD_HI.addr : Nat := 0x01038
def SLATE_NLOAD_HI.VAL : Fld := ⟨0x01038, 15, 0⟩
/-- SLATE_EDGE_CNT (03_slate_and_herd.md, R92). -/
def SLATE_EDGE_CNT.addr : Nat := 0x0103C
def SLATE_EDGE_CNT.EARLY : Fld := ⟨0x0103C, 31, 24⟩
def SLATE_EDGE_CNT.MISSED : Fld := ⟨0x0103C, 23, 16⟩
def SLATE_EDGE_CNT.STRAY : Fld := ⟨0x0103C, 15, 8⟩
def SLATE_EDGE_CNT.INVALID : Fld := ⟨0x0103C, 7, 0⟩
/-- HERD_CFG (03_slate_and_herd.md, R92). -/
def HERD_CFG.addr : Nat := 0x01040
def HERD_CFG.HERD_ID : Fld := ⟨0x01040, 31, 22⟩
def HERD_CFG.MAX_BLIND : Fld := ⟨0x01040, 19, 16⟩
def HERD_CFG.TIME_FOLLOW : Fld := ⟨0x01040, 3, 3⟩
def HERD_CFG.SEAM_EN : Fld := ⟨0x01040, 2, 2⟩
def HERD_CFG.ENABLE : Fld := ⟨0x01040, 0, 0⟩
/-- HERD_STATUS (03_slate_and_herd.md, R92). -/
def HERD_STATUS.addr : Nat := 0x01044
def HERD_STATUS.POS : Fld := ⟨0x01044, 31, 28⟩
def HERD_STATUS.LEADER_POS : Fld := ⟨0x01044, 27, 24⟩
def HERD_STATUS.ROLE : Fld := ⟨0x01044, 23, 22⟩
def HERD_STATUS.DUP : Fld := ⟨0x01044, 21, 21⟩
def HERD_STATUS.RATE_MISMATCH : Fld := ⟨0x01044, 20, 20⟩
def HERD_STATUS.LANE_UP : Fld := ⟨0x01044, 19, 19⟩
def HERD_STATUS.ELECTING : Fld := ⟨0x01044, 18, 18⟩
def HERD_STATUS.BLIND : Fld := ⟨0x01044, 15, 8⟩
def HERD_STATUS.TAKE_PENDING : Fld := ⟨0x01044, 0, 0⟩
/-- HERD_ROSTER (03_slate_and_herd.md, R92). -/
def HERD_ROSTER.addr : Nat := 0x01048
def HERD_ROSTER.TAKING : Fld := ⟨0x01048, 31, 16⟩
def HERD_ROSTER.PRESENT : Fld := ⟨0x01048, 15, 0⟩
/-- HERD_TAKE (03_slate_and_herd.md, R92). -/
def HERD_TAKE.addr : Nat := 0x0104C
def HERD_TAKE.SCHED_PERIOD : Fld := ⟨0x0104C, 31, 16⟩
def HERD_TAKE.WAIT : Fld := ⟨0x0104C, 15, 0⟩
/-- HERD_LANE_ERR (03_slate_and_herd.md, R92). -/
def HERD_LANE_ERR.addr : Nat := 0x01050
def HERD_LANE_ERR.CRC : Fld := ⟨0x01050, 31, 16⟩
def HERD_LANE_ERR.LOS : Fld := ⟨0x01050, 15, 0⟩
/-- HERD_SEAM0 (03_slate_and_herd.md, R92). -/
def HERD_SEAM0.addr (n : Nat) : Nat := 0x01100 + 16 * n
def HERD_SEAM0.LEFT (n : Nat) : Fld := ⟨0x01100 + 16 * n, 31, 16⟩
def HERD_SEAM0.RIGHT (n : Nat) : Fld := ⟨0x01100 + 16 * n, 15, 0⟩
/-- HERD_SEAM1 (03_slate_and_herd.md, R92). -/
def HERD_SEAM1.addr (n : Nat) : Nat := 0x01104 + 16 * n
def HERD_SEAM1.TOP (n : Nat) : Fld := ⟨0x01104 + 16 * n, 31, 16⟩
def HERD_SEAM1.BOTTOM (n : Nat) : Fld := ⟨0x01104 + 16 * n, 15, 0⟩
/-- HERD_SEAM2 (03_slate_and_herd.md, R92). -/
def HERD_SEAM2.addr (n : Nat) : Nat := 0x01108 + 16 * n
def HERD_SEAM2.SLATE (n : Nat) : Fld := ⟨0x01108 + 16 * n, 31, 0⟩
/-- HERD_SEAM3 (03_slate_and_herd.md, R92). -/
def HERD_SEAM3.addr (n : Nat) : Nat := 0x0110C + 16 * n
/-- FPA_MODE (02_focal_plane.md, R68). -/
def FPA_MODE.addr : Nat := 0x02000
def FPA_MODE.STRIPE_POS : Fld := ⟨0x02000, 19, 16⟩
def FPA_MODE.STRIPE_H : Fld := ⟨0x02000, 15, 14⟩
def FPA_MODE.RATE : Fld := ⟨0x02000, 11, 8⟩
def FPA_MODE.GAIN : Fld := ⟨0x02000, 4, 4⟩
def FPA_MODE.STRIPE : Fld := ⟨0x02000, 0, 0⟩
/-- FPA_INT (02_focal_plane.md, R68). -/
def FPA_INT.addr : Nat := 0x02004
def FPA_INT.STEPS : Fld := ⟨0x02004, 7, 0⟩
/-- FPA_STATUS (02_focal_plane.md, R68). -/
def FPA_STATUS.addr : Nat := 0x02008
def FPA_STATUS.INT_STEPS : Fld := ⟨0x02008, 31, 24⟩
def FPA_STATUS.READING : Fld := ⟨0x02008, 21, 21⟩
def FPA_STATUS.PENDING : Fld := ⟨0x02008, 20, 20⟩
def FPA_STATUS.HELD_BY_TAKE : Fld := ⟨0x02008, 19, 19⟩
def FPA_STATUS.RATE_LIMITED : Fld := ⟨0x02008, 18, 18⟩
def FPA_STATUS.STRIPE_POS : Fld := ⟨0x02008, 15, 12⟩
def FPA_STATUS.STRIPE_H : Fld := ⟨0x02008, 11, 10⟩
def FPA_STATUS.STRIPE : Fld := ⟨0x02008, 9, 9⟩
def FPA_STATUS.GAIN : Fld := ⟨0x02008, 8, 8⟩
def FPA_STATUS.RATE : Fld := ⟨0x02008, 7, 4⟩
/-- FPA_SLOT (02_focal_plane.md, R68). -/
def FPA_SLOT.addr : Nat := 0x0200C
def FPA_SLOT.TICKS : Fld := ⟨0x0200C, 31, 16⟩
def FPA_SLOT.NSLOTS : Fld := ⟨0x0200C, 11, 0⟩
/-- FPA_PLAUS (02_focal_plane.md, R68). -/
def FPA_PLAUS.addr : Nat := 0x02010
def FPA_PLAUS.REF_WIN : Fld := ⟨0x02010, 23, 16⟩
def FPA_PLAUS.AB_WIN : Fld := ⟨0x02010, 15, 8⟩
def FPA_PLAUS.COUNT : Fld := ⟨0x02010, 3, 0⟩
/-- FPA_GRP_CTRL (02_focal_plane.md, R68). -/
def FPA_GRP_CTRL.addr : Nat := 0x02014
def FPA_GRP_CTRL.ACTION : Fld := ⟨0x02014, 9, 8⟩
def FPA_GRP_CTRL.GROUP : Fld := ⟨0x02014, 6, 0⟩
/-- FPA_FAULT_LOG (02_focal_plane.md, R68). -/
def FPA_FAULT_LOG.addr : Nat := 0x02018
def FPA_FAULT_LOG.CAUSE : Fld := ⟨0x02018, 27, 24⟩
def FPA_FAULT_LOG.SLATE : Fld := ⟨0x02018, 23, 8⟩
def FPA_FAULT_LOG.GROUP : Fld := ⟨0x02018, 6, 0⟩
/-- FPA_INCOMPLETE (02_focal_plane.md, R68). -/
def FPA_INCOMPLETE.addr : Nat := 0x0201C
def FPA_INCOMPLETE.COUNT : Fld := ⟨0x0201C, 31, 0⟩
/-- FPA_SAT_SLATE (02_focal_plane.md, R68). -/
def FPA_SAT_SLATE.addr : Nat := 0x02020
def FPA_SAT_SLATE.COUNT : Fld := ⟨0x02020, 23, 0⟩
/-- FPA_BIAS (02_focal_plane.md, R68). -/
def FPA_BIAS.addr : Nat := 0x02024
def FPA_BIAS.CODE : Fld := ⟨0x02024, 7, 0⟩
/-- FPA_GRP_STATE (02_focal_plane.md, R68). -/
def FPA_GRP_STATE.addr (n : Nat) : Nat := 0x02100 + 4 * n
def FPA_GRP_STATE.GRPS (n : Nat) : Fld := ⟨0x02100 + 4 * n, 31, 0⟩
/-- FPA_GREF (02_focal_plane.md, R68). -/
def FPA_GREF.addr (n : Nat) : Nat := 0x02200 + 4 * n
def FPA_GREF.HI_EXP (n : Nat) : Fld := ⟨0x02200 + 4 * n, 29, 16⟩
def FPA_GREF.LO_EXP (n : Nat) : Fld := ⟨0x02200 + 4 * n, 13, 0⟩
/-- FPA_GCAL (02_focal_plane.md, R68). -/
def FPA_GCAL.addr (n : Nat) : Nat := 0x02400 + 4 * n
def FPA_GCAL.GRATIO (n : Nat) : Fld := ⟨0x02400 + 4 * n, 31, 16⟩
def FPA_GCAL.AB_DELTA (n : Nat) : Fld := ⟨0x02400 + 4 * n, 7, 0⟩
/-- CAL_STATUS (06_calibration_cards.md, R174). -/
def CAL_STATUS.addr : Nat := 0x04000
def CAL_STATUS.COMMIT_GEN : Fld := ⟨0x04000, 31, 24⟩
def CAL_STATUS.COMMIT_WAIT : Fld := ⟨0x04000, 23, 23⟩
def CAL_STATUS.HELD_BY_TAKE : Fld := ⟨0x04000, 22, 22⟩
def CAL_STATUS.RG_DIRTY : Fld := ⟨0x04000, 21, 21⟩
def CAL_STATUS.SEED_COUNT : Fld := ⟨0x04000, 20, 10⟩
def CAL_STATUS.LEDGER_FULL : Fld := ⟨0x04000, 0, 0⟩
/-- CAL_LEDGER_CFG (06_calibration_cards.md, R174). -/
def CAL_LEDGER_CFG.addr : Nat := 0x04004
def CAL_LEDGER_CFG.SCENE_MAX : Fld := ⟨0x04004, 10, 0⟩
/-- CAL_DISCARD (06_calibration_cards.md, R174). -/
def CAL_DISCARD.addr : Nat := 0x04008
def CAL_DISCARD.DISCARDED : Fld := ⟨0x04008, 31, 16⟩
def CAL_DISCARD.SCENE_DROPPED : Fld := ⟨0x04008, 15, 0⟩
/-- CAL_LAST_COMMIT (06_calibration_cards.md, R174). -/
def CAL_LAST_COMMIT.addr : Nat := 0x0400C
def CAL_LAST_COMMIT.SLATE : Fld := ⟨0x0400C, 31, 16⟩
def CAL_LAST_COMMIT.BULK : Fld := ⟨0x0400C, 10, 0⟩
/-- CAL_ANCHOR (06_calibration_cards.md, R174). -/
def CAL_ANCHOR.addr (n : Nat) : Nat := 0x04010 + 4 * n
def CAL_ANCHOR.RSPAN (n : Nat) : Fld := ⟨0x04010 + 4 * n, 31, 16⟩
def CAL_ANCHOR.TEMP (n : Nat) : Fld := ⟨0x04010 + 4 * n, 15, 0⟩
/-- CAL_RD_CMD (06_calibration_cards.md, R174). -/
def CAL_RD_CMD.addr : Nat := 0x04020
def CAL_RD_CMD.KIND : Fld := ⟨0x04020, 31, 30⟩
def CAL_RD_CMD.ENGINE : Fld := ⟨0x04020, 29, 20⟩
def CAL_RD_CMD.SLOT : Fld := ⟨0x04020, 19, 6⟩
def CAL_RD_CMD.COUNT : Fld := ⟨0x04020, 5, 0⟩
/-- CAL_RD_STATUS (06_calibration_cards.md, R174). -/
def CAL_RD_STATUS.addr : Nat := 0x04024
def CAL_RD_STATUS.BUSY : Fld := ⟨0x04024, 31, 31⟩
def CAL_RD_STATUS.DONE : Fld := ⟨0x04024, 30, 30⟩
def CAL_RD_STATUS.ERR : Fld := ⟨0x04024, 29, 29⟩
/-- CAL_RD_DBE_0 (06_calibration_cards.md, R174). -/
def CAL_RD_DBE_0.addr : Nat := 0x04028
def CAL_RD_DBE_0.DBE : Fld := ⟨0x04028, 31, 0⟩
/-- CAL_RD_DBE_1 (06_calibration_cards.md, R174). -/
def CAL_RD_DBE_1.addr : Nat := 0x0402C
def CAL_RD_DBE_1.DBE : Fld := ⟨0x0402C, 31, 0⟩
/-- CAL_RD_DATA (06_calibration_cards.md, R174). -/
def CAL_RD_DATA.addr (n : Nat) : Nat := 0x04100 + 4 * n
def CAL_RD_DATA.DATA (n : Nat) : Fld := ⟨0x04100 + 4 * n, 31, 0⟩
/-- CAL_RGAIN (06_calibration_cards.md, R174). -/
def CAL_RGAIN.addr (n : Nat) : Nat := 0x04400 + 4 * n
def CAL_RGAIN.ENTRY_HI (n : Nat) : Fld := ⟨0x04400 + 4 * n, 31, 16⟩
def CAL_RGAIN.ENTRY_LO (n : Nat) : Fld := ⟨0x04400 + 4 * n, 15, 0⟩
/-- CAL_RGAIN_IF (06_calibration_cards.md, R174). -/
def CAL_RGAIN_IF.addr (n : Nat) : Nat := 0x04600 + 4 * n
def CAL_RGAIN_IF.ENTRY_HI (n : Nat) : Fld := ⟨0x04600 + 4 * n, 31, 16⟩
def CAL_RGAIN_IF.ENTRY_LO (n : Nat) : Fld := ⟨0x04600 + 4 * n, 15, 0⟩
/-- PIPE_CTRL (04_column_engines.md, R124). -/
def PIPE_CTRL.addr : Nat := 0x04800
def PIPE_CTRL.ST_EN : Fld := ⟨0x04800, 6, 6⟩
def PIPE_CTRL.DRIFT_EN : Fld := ⟨0x04800, 5, 5⟩
def PIPE_CTRL.RAD_EN : Fld := ⟨0x04800, 2, 2⟩
def PIPE_CTRL.RAW_EN : Fld := ⟨0x04800, 1, 1⟩
def PIPE_CTRL.CORR_EN : Fld := ⟨0x04800, 0, 0⟩
/-- PIPE_CLK (04_column_engines.md, R124). -/
def PIPE_CLK.addr : Nat := 0x04804
def PIPE_CLK.MIN_ROW : Fld := ⟨0x04804, 27, 16⟩
def PIPE_CLK.AUTO : Fld := ⟨0x04804, 7, 7⟩
def PIPE_CLK.DIV : Fld := ⟨0x04804, 3, 0⟩
/-- PIPE_STATUS (04_column_engines.md, R124). -/
def PIPE_STATUS.addr : Nat := 0x04808
def PIPE_STATUS.AVAIL : Fld := ⟨0x04808, 31, 18⟩
def PIPE_STATUS.BUDGET_SHORT : Fld := ⟨0x04808, 17, 17⟩
def PIPE_STATUS.SEED : Fld := ⟨0x04808, 16, 16⟩
def PIPE_STATUS.DIV : Fld := ⟨0x04808, 15, 12⟩
def PIPE_STATUS.FAULTED : Fld := ⟨0x04808, 10, 0⟩
/-- PIPE_LEVEL (04_column_engines.md, R124). -/
def PIPE_LEVEL.addr : Nat := 0x0480C
def PIPE_LEVEL.LEVEL : Fld := ⟨0x0480C, 15, 0⟩
/-- PIPE_HIST (04_column_engines.md, R124). -/
def PIPE_HIST.addr : Nat := 0x04810
def PIPE_HIST.LO : Fld := ⟨0x04810, 31, 16⟩
def PIPE_HIST.SHIFT : Fld := ⟨0x04810, 3, 0⟩
/-- PIPE_ST (04_column_engines.md, R124). -/
def PIPE_ST.addr : Nat := 0x04814
def PIPE_ST.MAX : Fld := ⟨0x04814, 31, 24⟩
def PIPE_ST.DEAD : Fld := ⟨0x04814, 15, 0⟩
/-- PIPE_ENG_CTRL (04_column_engines.md, R124). -/
def PIPE_ENG_CTRL.addr : Nat := 0x04818
def PIPE_ENG_CTRL.ACTION : Fld := ⟨0x04818, 13, 12⟩
def PIPE_ENG_CTRL.ENGINE : Fld := ⟨0x04818, 9, 0⟩
/-- PIPE_FAULT_LOG (04_column_engines.md, R124). -/
def PIPE_FAULT_LOG.addr : Nat := 0x0481C
def PIPE_FAULT_LOG.CAUSE : Fld := ⟨0x0481C, 31, 28⟩
def PIPE_FAULT_LOG.SLATE : Fld := ⟨0x0481C, 27, 12⟩
def PIPE_FAULT_LOG.ENGINE : Fld := ⟨0x0481C, 9, 0⟩
/-- PIPE_LATE_CNT (04_column_engines.md, R124). -/
def PIPE_LATE_CNT.addr : Nat := 0x04820
def PIPE_LATE_CNT.COUNT : Fld := ⟨0x04820, 31, 0⟩
/-- PIPE_ECC_CNT (04_column_engines.md, R124). -/
def PIPE_ECC_CNT.addr : Nat := 0x04824
def PIPE_ECC_CNT.CARD_DBE : Fld := ⟨0x04824, 31, 24⟩
def PIPE_ECC_CNT.CARD_SBE : Fld := ⟨0x04824, 23, 12⟩
def PIPE_ECC_CNT.MEM_SBE : Fld := ⟨0x04824, 11, 0⟩
/-- TAKE_CFG (07_takes.md, R200). -/
def TAKE_CFG.addr : Nat := 0x04C00
def TAKE_CFG.INTERVAL : Fld := ⟨0x04C00, 31, 16⟩
def TAKE_CFG.MIN_GAP : Fld := ⟨0x04C00, 15, 8⟩
def TAKE_CFG.SETTLE : Fld := ⟨0x04C00, 7, 4⟩
def TAKE_CFG.OUT : Fld := ⟨0x04C00, 3, 3⟩
def TAKE_CFG.MAP_EN : Fld := ⟨0x04C00, 2, 2⟩
/-- TAKE_LIM (07_takes.md, R200). -/
def TAKE_LIM.addr : Nat := 0x04C04
def TAKE_LIM.MAP_DELTA : Fld := ⟨0x04C04, 31, 24⟩
def TAKE_LIM.JUMP : Fld := ⟨0x04C04, 23, 16⟩
def TAKE_LIM.RG_STEP : Fld := ⟨0x04C04, 15, 8⟩
def TAKE_LIM.GS_TOL : Fld := ⟨0x04C04, 7, 0⟩
/-- TAKE_LIM2 (07_takes.md, R200). -/
def TAKE_LIM2.addr : Nat := 0x04C08
def TAKE_LIM2.SPREAD : Fld := ⟨0x04C08, 31, 16⟩
def TAKE_LIM2.DRIFT : Fld := ⟨0x04C08, 15, 8⟩
/-- TAKE_EMIT (07_takes.md, R200). -/
def TAKE_EMIT.addr : Nat := 0x04C0C
def TAKE_EMIT.FIELD : Fld := ⟨0x04C0C, 4, 4⟩
def TAKE_EMIT.DSEL : Fld := ⟨0x04C0C, 1, 0⟩
/-- TAKE_ST (07_takes.md, R200). -/
def TAKE_ST.addr : Nat := 0x04C10
def TAKE_ST.DIV : Fld := ⟨0x04C10, 31, 28⟩
def TAKE_ST.COMMIT : Fld := ⟨0x04C10, 27, 16⟩
def TAKE_ST.HOLDOFF : Fld := ⟨0x04C10, 15, 8⟩
def TAKE_ST.STEP : Fld := ⟨0x04C10, 7, 0⟩
/-- TAKE_ST_LIFE (07_takes.md, R200). -/
def TAKE_ST_LIFE.addr : Nat := 0x04C14
def TAKE_ST_LIFE.LIFE : Fld := ⟨0x04C14, 15, 0⟩
/-- TAKE_STATUS (07_takes.md, R200). -/
def TAKE_STATUS.addr : Nat := 0x04C18
def TAKE_STATUS.PHASE : Fld := ⟨0x04C18, 31, 28⟩
def TAKE_STATUS.SHUTTER : Fld := ⟨0x04C18, 27, 26⟩
def TAKE_STATUS.MODE : Fld := ⟨0x04C18, 25, 23⟩
def TAKE_STATUS.GATE_LIVE : Fld := ⟨0x04C18, 22, 22⟩
def TAKE_STATUS.ELAPSED : Fld := ⟨0x04C18, 15, 0⟩
/-- TAKE_LAST (07_takes.md, R200). -/
def TAKE_LAST.addr : Nat := 0x04C1C
def TAKE_LAST.OUTCOME : Fld := ⟨0x04C1C, 31, 28⟩
def TAKE_LAST.CAUSE : Fld := ⟨0x04C1C, 27, 24⟩
def TAKE_LAST.MODE : Fld := ⟨0x04C1C, 23, 21⟩
def TAKE_LAST.TRIGGER : Fld := ⟨0x04C1C, 20, 19⟩
def TAKE_LAST.SLATE : Fld := ⟨0x04C1C, 15, 0⟩
/-- TAKE_COUNT (07_takes.md, R200). -/
def TAKE_COUNT.addr : Nat := 0x04C20
def TAKE_COUNT.COMMITTED : Fld := ⟨0x04C20, 31, 16⟩
def TAKE_COUNT.ABANDONED : Fld := ⟨0x04C20, 15, 0⟩
/-- TAKE_DEPOT (07_takes.md, R200). -/
def TAKE_DEPOT.addr : Nat := 0x04C24
def TAKE_DEPOT.LO_VALID : Fld := ⟨0x04C24, 31, 31⟩
def TAKE_DEPOT.GAINS : Fld := ⟨0x04C24, 30, 30⟩
def TAKE_DEPOT.REF : Fld := ⟨0x04C24, 29, 29⟩
def TAKE_DEPOT.LO_AGE : Fld := ⟨0x04C24, 15, 0⟩
/-- TAKE_STGATE (07_takes.md, R200). -/
def TAKE_STGATE.addr (n : Nat) : Nat := 0x04C40 + 4 * n
def TAKE_STGATE.MOTION (n : Nat) : Fld := ⟨0x04C40 + 4 * n, 31, 0⟩
/-- TAKE_EREF (07_takes.md, R200). -/
def TAKE_EREF.addr (n : Nat) : Nat := 0x04D00 + 4 * n
def TAKE_EREF.EREF_HI (n : Nat) : Fld := ⟨0x04D00 + 4 * n, 31, 16⟩
def TAKE_EREF.EREF_LO (n : Nat) : Fld := ⟨0x04D00 + 4 * n, 15, 0⟩
/-- TAKE_RESP (07_takes.md, R200). -/
def TAKE_RESP.addr (n : Nat) : Nat := 0x04E80 + 4 * n
def TAKE_RESP.RESP_HI (n : Nat) : Fld := ⟨0x04E80 + 4 * n, 31, 16⟩
def TAKE_RESP.RESP_LO (n : Nat) : Fld := ⟨0x04E80 + 4 * n, 15, 0⟩
/-- CELL_CFG (08_cell_watch.md, R220). -/
def CELL_CFG.addr : Nat := 0x05000
def CELL_CFG.SUM_DIV : Fld := ⟨0x05000, 31, 24⟩
def CELL_CFG.DEF_RING : Fld := ⟨0x05000, 17, 0⟩
/-- CELL_SUM_RING (08_cell_watch.md, R220). -/
def CELL_SUM_RING.addr : Nat := 0x05004
def CELL_SUM_RING.RING : Fld := ⟨0x05004, 17, 0⟩
/-- CELL_RELAY (08_cell_watch.md, R220). -/
def CELL_RELAY.addr : Nat := 0x05008
def CELL_RELAY.REQ : Fld := ⟨0x05008, 2, 2⟩
def CELL_RELAY.TEST_ALARM : Fld := ⟨0x05008, 1, 1⟩
def CELL_RELAY.BLIND_ALARM : Fld := ⟨0x05008, 0, 0⟩
/-- CELL_STATUS (08_cell_watch.md, R220). -/
def CELL_STATUS.addr : Nat := 0x0500C
def CELL_STATUS.WATCHING : Fld := ⟨0x0500C, 31, 31⟩
def CELL_STATUS.RT_HIGH : Fld := ⟨0x0500C, 30, 30⟩
def CELL_STATUS.RT_LOW : Fld := ⟨0x0500C, 29, 29⟩
def CELL_STATUS.MAP_BUSY : Fld := ⟨0x0500C, 28, 28⟩
def CELL_STATUS.SKIPPED : Fld := ⟨0x0500C, 18, 0⟩
/-- CELL_ALARMS (08_cell_watch.md, R220). -/
def CELL_ALARMS.addr : Nat := 0x05010
def CELL_ALARMS.COUNT : Fld := ⟨0x05010, 18, 0⟩
/-- CELL_WARNS (08_cell_watch.md, R220). -/
def CELL_WARNS.addr : Nat := 0x05014
def CELL_WARNS.COUNT : Fld := ⟨0x05014, 18, 0⟩
/-- CELL_DROP (08_cell_watch.md, R220). -/
def CELL_DROP.addr : Nat := 0x05018
def CELL_DROP.DROPPED : Fld := ⟨0x05018, 31, 16⟩
def CELL_DROP.MISROUTED : Fld := ⟨0x05018, 15, 0⟩
/-- CELL_ACK (08_cell_watch.md, R220). -/
def CELL_ACK.addr : Nat := 0x0501C
def CELL_ACK.ALL : Fld := ⟨0x0501C, 18, 18⟩
def CELL_ACK.CELL : Fld := ⟨0x0501C, 17, 0⟩
/-- CELL_MAP_CTRL (08_cell_watch.md, R220). -/
def CELL_MAP_CTRL.addr : Nat := 0x05020
def CELL_MAP_CTRL.APPLY : Fld := ⟨0x05020, 10, 10⟩
def CELL_MAP_CTRL.BASE : Fld := ⟨0x05020, 8, 0⟩
/-- CELL_RT_IDX (08_cell_watch.md, R220). -/
def CELL_RT_IDX.addr : Nat := 0x05024
def CELL_RT_IDX.IDX : Fld := ⟨0x05024, 11, 0⟩
/-- CELL_RT_DATA (08_cell_watch.md, R220). -/
def CELL_RT_DATA.addr : Nat := 0x05028
def CELL_RT_DATA.ENTRY_HI : Fld := ⟨0x05028, 31, 16⟩
def CELL_RT_DATA.ENTRY_LO : Fld := ⟨0x05028, 15, 0⟩
/-- CELL_RT_CMD (08_cell_watch.md, R220). -/
def CELL_RT_CMD.addr : Nat := 0x0502C
def CELL_RT_CMD.ACTION : Fld := ⟨0x0502C, 2, 0⟩
/-- CELL_RT_STATUS (08_cell_watch.md, R220). -/
def CELL_RT_STATUS.addr : Nat := 0x05030
def CELL_RT_STATUS.RESULT : Fld := ⟨0x05030, 31, 28⟩
def CELL_RT_STATUS.ERR_IDX : Fld := ⟨0x05030, 27, 16⟩
def CELL_RT_STATUS.BUSY : Fld := ⟨0x05030, 0, 0⟩
/-- CELL_ZONE0 (08_cell_watch.md, R220). -/
def CELL_ZONE0.addr (n : Nat) : Nat := 0x05400 + 16 * n
def CELL_ZONE0.ALARM (n : Nat) : Fld := ⟨0x05400 + 16 * n, 31, 16⟩
def CELL_ZONE0.WARN (n : Nat) : Fld := ⟨0x05400 + 16 * n, 15, 0⟩
/-- CELL_ZONE1 (08_cell_watch.md, R220). -/
def CELL_ZONE1.addr (n : Nat) : Nat := 0x05404 + 16 * n
def CELL_ZONE1.RISE_LIM (n : Nat) : Fld := ⟨0x05404 + 16 * n, 31, 16⟩
def CELL_ZONE1.RWIN (n : Nat) : Fld := ⟨0x05404 + 16 * n, 4, 0⟩
/-- CELL_ZONE2 (08_cell_watch.md, R220). -/
def CELL_ZONE2.addr (n : Nat) : Nat := 0x05408 + 16 * n
def CELL_ZONE2.PERSIST (n : Nat) : Fld := ⟨0x05408 + 16 * n, 31, 24⟩
def CELL_ZONE2.CLEAR (n : Nat) : Fld := ⟨0x05408 + 16 * n, 23, 16⟩
def CELL_ZONE2.AREA (n : Nat) : Fld := ⟨0x05408 + 16 * n, 13, 8⟩
def CELL_ZONE2.RISE_ALARM (n : Nat) : Fld := ⟨0x05408 + 16 * n, 4, 4⟩
def CELL_ZONE2.RELAY (n : Nat) : Fld := ⟨0x05408 + 16 * n, 3, 3⟩
def CELL_ZONE2.SUMMARY (n : Nat) : Fld := ⟨0x05408 + 16 * n, 2, 2⟩
def CELL_ZONE2.ENABLE (n : Nat) : Fld := ⟨0x05408 + 16 * n, 0, 0⟩
/-- CELL_MAPW (08_cell_watch.md, R220). -/
def CELL_MAPW.addr (n : Nat) : Nat := 0x05800 + 4 * n
def CELL_MAPW.ENTRY (n : Nat) : Fld := ⟨0x05800 + 4 * n, 31, 0⟩
/-- RING_SEL (09_host_rings.md, R253). -/
def RING_SEL.addr : Nat := 0x06000
def RING_SEL.RING : Fld := ⟨0x06000, 17, 0⟩
/-- RING_CMD (09_host_rings.md, R253). -/
def RING_CMD.addr : Nat := 0x06004
def RING_CMD.ACTION : Fld := ⟨0x06004, 2, 0⟩
/-- RING_STATUS (09_host_rings.md, R253). -/
def RING_STATUS.addr : Nat := 0x06008
def RING_STATUS.BUSY : Fld := ⟨0x06008, 31, 31⟩
def RING_STATUS.RESULT : Fld := ⟨0x06008, 27, 24⟩
def RING_STATUS.RING : Fld := ⟨0x06008, 17, 0⟩
/-- RING_CNT (09_host_rings.md, R253). -/
def RING_CNT.addr : Nat := 0x0600C
def RING_CNT.DROPPED : Fld := ⟨0x0600C, 31, 16⟩
def RING_CNT.OVERFLOW : Fld := ⟨0x0600C, 15, 0⟩
/-- RING_INFO (09_host_rings.md, R253). -/
def RING_INFO.addr : Nat := 0x06010
def RING_INFO.ACTIVE : Fld := ⟨0x06010, 18, 0⟩
/-- RING_LINK (09_host_rings.md, R253). -/
def RING_LINK.addr : Nat := 0x06014
def RING_LINK.D3HOT : Fld := ⟨0x06014, 11, 11⟩
def RING_LINK.BME : Fld := ⟨0x06014, 10, 10⟩
def RING_LINK.LINK_UP : Fld := ⟨0x06014, 9, 9⟩
def RING_LINK.WIDTH : Fld := ⟨0x06014, 6, 4⟩
def RING_LINK.SPEED : Fld := ⟨0x06014, 3, 0⟩
/-- RING_CTX (09_host_rings.md, R253). -/
def RING_CTX.addr (n : Nat) : Nat := 0x06020 + 4 * n
def RING_CTX.WORD (n : Nat) : Fld := ⟨0x06020 + 4 * n, 31, 0⟩
/-- EVT_STAT (10_events_errors.md, R266). -/
def EVT_STAT.addr (n : Nat) : Nat := 0x07000 + 4 * n
def EVT_STAT.STAT (n : Nat) : Fld := ⟨0x07000 + 4 * n, 31, 0⟩
/-- EVT_EN (10_events_errors.md, R266). -/
def EVT_EN.addr (n : Nat) : Nat := 0x07020 + 4 * n
def EVT_EN.EN (n : Nat) : Fld := ⟨0x07020 + 4 * n, 31, 0⟩
/-- EVT_SUMMARY (10_events_errors.md, R266). -/
def EVT_SUMMARY.addr : Nat := 0x07040
def EVT_SUMMARY.ANY : Fld := ⟨0x07040, 31, 31⟩
def EVT_SUMMARY.LOWEST : Fld := ⟨0x07040, 7, 0⟩
/-- EVT_FORCE (10_events_errors.md, R266). -/
def EVT_FORCE.addr : Nat := 0x07044
def EVT_FORCE.SOURCE : Fld := ⟨0x07044, 7, 0⟩
/-- EVT_DAILIES (10_events_errors.md, R266). -/
def EVT_DAILIES.addr : Nat := 0x07048
def EVT_DAILIES.LOST : Fld := ⟨0x07048, 31, 16⟩
def EVT_DAILIES.QUEUED : Fld := ⟨0x07048, 9, 0⟩
/-- EVT_VIOL_CNT (10_events_errors.md, R266). -/
def EVT_VIOL_CNT.addr : Nat := 0x0704C
def EVT_VIOL_CNT.TOTAL : Fld := ⟨0x0704C, 31, 16⟩
def EVT_VIOL_CNT.OVER : Fld := ⟨0x0704C, 15, 15⟩
def EVT_VIOL_CNT.HELD : Fld := ⟨0x0704C, 12, 8⟩
def EVT_VIOL_CNT.CLEAR : Fld := ⟨0x0704C, 4, 4⟩
def EVT_VIOL_CNT.NEXT : Fld := ⟨0x0704C, 3, 0⟩
/-- EVT_DAILIES_SEQ (10_events_errors.md, R266). -/
def EVT_DAILIES_SEQ.addr : Nat := 0x07050
def EVT_DAILIES_SEQ.SEQ : Fld := ⟨0x07050, 31, 0⟩
/-- EVT_VEC (10_events_errors.md, R266). -/
def EVT_VEC.addr (n : Nat) : Nat := 0x07100 + 4 * n
def EVT_VEC.VEC3 (n : Nat) : Fld := ⟨0x07100 + 4 * n, 31, 24⟩
def EVT_VEC.VEC2 (n : Nat) : Fld := ⟨0x07100 + 4 * n, 23, 16⟩
def EVT_VEC.VEC1 (n : Nat) : Fld := ⟨0x07100 + 4 * n, 15, 8⟩
def EVT_VEC.VEC0 (n : Nat) : Fld := ⟨0x07100 + 4 * n, 7, 0⟩
/-- EVT_VIOL0 (10_events_errors.md, R266). -/
def EVT_VIOL0.addr (n : Nat) : Nat := 0x07200 + 16 * n
def EVT_VIOL0.ENTRY (n : Nat) : Fld := ⟨0x07200 + 16 * n, 31, 0⟩
/-- EVT_VIOL1 (10_events_errors.md, R266). -/
def EVT_VIOL1.addr (n : Nat) : Nat := 0x07204 + 16 * n
def EVT_VIOL1.ENTRY (n : Nat) : Fld := ⟨0x07204 + 16 * n, 31, 0⟩
/-- EVT_VIOL2 (10_events_errors.md, R266). -/
def EVT_VIOL2.addr (n : Nat) : Nat := 0x07208 + 16 * n
def EVT_VIOL2.ENTRY (n : Nat) : Fld := ⟨0x07208 + 16 * n, 31, 0⟩
/-- EVT_VIOL3 (10_events_errors.md, R266). -/
def EVT_VIOL3.addr (n : Nat) : Nat := 0x0720C + 16 * n
def EVT_VIOL3.ENTRY (n : Nat) : Fld := ⟨0x0720C + 16 * n, 31, 0⟩
/-- GAF_STATUS (15_thermal_power.md, R380). -/
def GAF_STATUS.addr : Nat := 0x08000
def GAF_STATUS.PWR_HELD : Fld := ⟨0x08000, 31, 31⟩
def GAF_STATUS.PAUSING : Fld := ⟨0x08000, 30, 30⟩
def GAF_STATUS.GRAD : Fld := ⟨0x08000, 29, 29⟩
def GAF_STATUS.OVER : Fld := ⟨0x08000, 28, 28⟩
def GAF_STATUS.COLD_NV : Fld := ⟨0x08000, 27, 27⟩
def GAF_STATUS.WARM_OK : Fld := ⟨0x08000, 26, 26⟩
def GAF_STATUS.HOT : Fld := ⟨0x08000, 25, 23⟩
def GAF_STATUS.BROKEN : Fld := ⟨0x08000, 15, 8⟩
def GAF_STATUS.IGNORED : Fld := ⟨0x08000, 4, 0⟩
/-- GAF_LOOP (15_thermal_power.md, R380). -/
def GAF_LOOP.addr : Nat := 0x08004
def GAF_LOOP.ALLOWED : Fld := ⟨0x08004, 31, 28⟩
def GAF_LOOP.PAUSE : Fld := ⟨0x08004, 23, 20⟩
def GAF_LOOP.LAST_STEP : Fld := ⟨0x08004, 15, 0⟩
/-- GAF_PLIM (15_thermal_power.md, R380). -/
def GAF_PLIM.addr : Nat := 0x08008
def GAF_PLIM.LIMIT : Fld := ⟨0x08008, 7, 0⟩
/-- GAF_GRAD (15_thermal_power.md, R380). -/
def GAF_GRAD.addr : Nat := 0x0800C
def GAF_GRAD.FLOOR : Fld := ⟨0x0800C, 15, 12⟩
def GAF_GRAD.EN : Fld := ⟨0x0800C, 8, 8⟩
def GAF_GRAD.LIMIT : Fld := ⟨0x0800C, 7, 0⟩
/-- GAF_WARM (15_thermal_power.md, R380). -/
def GAF_WARM.addr : Nat := 0x08010
def GAF_WARM.POWER : Fld := ⟨0x08010, 7, 0⟩
/-- GAF_PWR (15_thermal_power.md, R380). -/
def GAF_PWR.addr : Nat := 0x08014
def GAF_PWR.PWR : Fld := ⟨0x08014, 31, 16⟩
def GAF_PWR.EPP : Fld := ⟨0x08014, 15, 0⟩
/-- GAF_HOT (15_thermal_power.md, R380). -/
def GAF_HOT.addr : Nat := 0x08018
def GAF_HOT.SENSOR : Fld := ⟨0x08018, 31, 24⟩
def GAF_HOT.TEMP : Fld := ⟨0x08018, 15, 0⟩
/-- GAF_COLD (15_thermal_power.md, R380). -/
def GAF_COLD.addr : Nat := 0x0801C
def GAF_COLD.SENSOR : Fld := ⟨0x0801C, 31, 24⟩
def GAF_COLD.TEMP : Fld := ⟨0x0801C, 15, 0⟩
/-- GAF_SPREAD (15_thermal_power.md, R380). -/
def GAF_SPREAD.addr : Nat := 0x08020
def GAF_SPREAD.SPREAD : Fld := ⟨0x08020, 15, 0⟩
/-- GAF_T (15_thermal_power.md, R380). -/
def GAF_T.addr (n : Nat) : Nat := 0x08100 + 4 * n
def GAF_T.TEMP_HI (n : Nat) : Fld := ⟨0x08100 + 4 * n, 31, 16⟩
def GAF_T.TEMP_LO (n : Nat) : Fld := ⟨0x08100 + 4 * n, 15, 0⟩
/-- GAF_BROKEN (15_thermal_power.md, R380). -/
def GAF_BROKEN.addr (n : Nat) : Nat := 0x08300 + 4 * n
def GAF_BROKEN.BROKEN (n : Nat) : Fld := ⟨0x08300 + 4 * n, 31, 0⟩
/-- GAF_IGN (15_thermal_power.md, R380). -/
def GAF_IGN.addr (n : Nat) : Nat := 0x08320 + 4 * n
def GAF_IGN.IGN (n : Nat) : Fld := ⟨0x08320 + 4 * n, 31, 0⟩
/-- NVS_CMD (16_nonvolatile_store.md, R403). -/
def NVS_CMD.addr : Nat := 0x09000
def NVS_CMD.REC : Fld := ⟨0x09000, 23, 16⟩
def NVS_CMD.KIND : Fld := ⟨0x09000, 12, 12⟩
def NVS_CMD.REGION : Fld := ⟨0x09000, 11, 10⟩
def NVS_CMD.ACTION : Fld := ⟨0x09000, 3, 0⟩
/-- NVS_ADDR (16_nonvolatile_store.md, R403). -/
def NVS_ADDR.addr : Nat := 0x09004
def NVS_ADDR.PAGE : Fld := ⟨0x09004, 28, 18⟩
def NVS_ADDR.OFFSET : Fld := ⟨0x09004, 17, 11⟩
def NVS_ADDR.LEN : Fld := ⟨0x09004, 10, 0⟩
/-- NVS_STATUS (16_nonvolatile_store.md, R403). -/
def NVS_STATUS.addr : Nat := 0x09008
def NVS_STATUS.BUSY : Fld := ⟨0x09008, 31, 31⟩
def NVS_STATUS.DONE : Fld := ⟨0x09008, 30, 30⟩
def NVS_STATUS.READY : Fld := ⟨0x09008, 29, 29⟩
def NVS_STATUS.CNT_VALID : Fld := ⟨0x09008, 28, 28⟩
def NVS_STATUS.RESULT : Fld := ⟨0x09008, 27, 24⟩
def NVS_STATUS.PEND : Fld := ⟨0x09008, 4, 0⟩
/-- NVS_REC (16_nonvolatile_store.md, R403). -/
def NVS_REC.addr : Nat := 0x0900C
def NVS_REC.VALID : Fld := ⟨0x0900C, 31, 31⟩
def NVS_REC.AMBIG : Fld := ⟨0x0900C, 30, 30⟩
def NVS_REC.COPY : Fld := ⟨0x0900C, 29, 29⟩
def NVS_REC.OTHER_INVALID : Fld := ⟨0x0900C, 28, 28⟩
def NVS_REC.ID : Fld := ⟨0x0900C, 23, 16⟩
def NVS_REC.LEN : Fld := ⟨0x0900C, 10, 0⟩
/-- NVS_REC_SEQ (16_nonvolatile_store.md, R403). -/
def NVS_REC_SEQ.addr : Nat := 0x09010
def NVS_REC_SEQ.SEQ : Fld := ⟨0x09010, 31, 0⟩
/-- NVS_PW_LO (16_nonvolatile_store.md, R403). -/
def NVS_PW_LO.addr : Nat := 0x09014
def NVS_PW_LO.PW : Fld := ⟨0x09014, 31, 0⟩
/-- NVS_PW_HI (16_nonvolatile_store.md, R403). -/
def NVS_PW_HI.addr : Nat := 0x09018
def NVS_PW_HI.PW : Fld := ⟨0x09018, 31, 0⟩
/-- NVS_ACCESS (16_nonvolatile_store.md, R403). -/
def NVS_ACCESS.addr : Nat := 0x0901C
def NVS_ACCESS.OPERATOR : Fld := ⟨0x0901C, 23, 16⟩
def NVS_ACCESS.INTEGRATOR : Fld := ⟨0x0901C, 15, 8⟩
def NVS_ACCESS.FACTORY : Fld := ⟨0x0901C, 7, 0⟩
/-- NVS_SCRUB (16_nonvolatile_store.md, R403). -/
def NVS_SCRUB.addr : Nat := 0x09020
def NVS_SCRUB.REWRITTEN : Fld := ⟨0x09020, 31, 16⟩
def NVS_SCRUB.NEXT : Fld := ⟨0x09020, 10, 0⟩
/-- NVS_ERR (16_nonvolatile_store.md, R403). -/
def NVS_ERR.addr : Nat := 0x09024
def NVS_ERR.SBE : Fld := ⟨0x09024, 31, 20⟩
def NVS_ERR.UNCORR : Fld := ⟨0x09024, 19, 12⟩
def NVS_ERR.PAGE : Fld := ⟨0x09024, 10, 0⟩
/-- NVS_CNT (16_nonvolatile_store.md, R403). -/
def NVS_CNT.addr (n : Nat) : Nat := 0x09040 + 4 * n
def NVS_CNT.COUNT (n : Nat) : Fld := ⟨0x09040 + 4 * n, 31, 0⟩
/-- NVS_BUF (16_nonvolatile_store.md, R403). -/
def NVS_BUF.addr (n : Nat) : Nat := 0x09800 + 4 * n
def NVS_BUF.DATA (n : Nat) : Fld := ⟨0x09800 + 4 * n, 31, 0⟩
/-- FLP_CFG (17_flash_and_boot.md, R419). -/
def FLP_CFG.addr : Nat := 0x0A000
def FLP_CFG.CONT : Fld := ⟨0x0A000, 8, 8⟩
def FLP_CFG.ADDR4 : Fld := ⟨0x0A000, 4, 4⟩
def FLP_CFG.CLK : Fld := ⟨0x0A000, 3, 2⟩
def FLP_CFG.MODE : Fld := ⟨0x0A000, 0, 0⟩
/-- FLP_STATUS (17_flash_and_boot.md, R419). -/
def FLP_STATUS.addr : Nat := 0x0A004
def FLP_STATUS.BUSY : Fld := ⟨0x0A004, 31, 31⟩
def FLP_STATUS.DONE : Fld := ⟨0x0A004, 30, 30⟩
def FLP_STATUS.RESULT : Fld := ⟨0x0A004, 27, 24⟩
def FLP_STATUS.FLASH_BUSY : Fld := ⟨0x0A004, 0, 0⟩
/-- FLP_BOOT (17_flash_and_boot.md, R419). -/
def FLP_BOOT.addr : Nat := 0x0A008
def FLP_BOOT.RST_CAUSE : Fld := ⟨0x0A008, 31, 28⟩
def FLP_BOOT.SLOT : Fld := ⟨0x0A008, 27, 27⟩
def FLP_BOOT.FALLBACK : Fld := ⟨0x0A008, 26, 26⟩
def FLP_BOOT.BOOTED : Fld := ⟨0x0A008, 25, 25⟩
def FLP_BOOT.KEY : Fld := ⟨0x0A008, 24, 24⟩
def FLP_BOOT.VER_A : Fld := ⟨0x0A008, 23, 20⟩
def FLP_BOOT.VER_B : Fld := ⟨0x0A008, 19, 16⟩
/-- FLP_SFDP (17_flash_and_boot.md, R419). -/
def FLP_SFDP.addr : Nat := 0x0A00C
def FLP_SFDP.VALID : Fld := ⟨0x0A00C, 31, 31⟩
def FLP_SFDP.ADDR : Fld := ⟨0x0A00C, 30, 29⟩
def FLP_SFDP.ERASE4K : Fld := ⟨0x0A00C, 28, 28⟩
def FLP_SFDP.EOP : Fld := ⟨0x0A00C, 27, 20⟩
def FLP_SFDP.DENSITY : Fld := ⟨0x0A00C, 15, 0⟩
/-- FLP_CMD (17_flash_and_boot.md, R419). -/
def FLP_CMD.addr : Nat := 0x0A010
def FLP_CMD.LEN : Fld := ⟨0x0A010, 16, 8⟩
def FLP_CMD.ACTION : Fld := ⟨0x0A010, 3, 0⟩
/-- FLP_ADDR (17_flash_and_boot.md, R419). -/
def FLP_ADDR.addr : Nat := 0x0A014
def FLP_ADDR.ADDR : Fld := ⟨0x0A014, 22, 0⟩
/-- FLP_RESET (17_flash_and_boot.md, R419). -/
def FLP_RESET.addr : Nat := 0x0A018
def FLP_RESET.KEY : Fld := ⟨0x0A018, 31, 16⟩
def FLP_RESET.GO : Fld := ⟨0x0A018, 0, 0⟩
/-- FLP_FWVER (17_flash_and_boot.md, R419). -/
def FLP_FWVER.addr : Nat := 0x0A01C
def FLP_FWVER.VERSION : Fld := ⟨0x0A01C, 31, 0⟩
/-- FLP_BUF (17_flash_and_boot.md, R419). -/
def FLP_BUF.addr (n : Nat) : Nat := 0x0A100 + 4 * n
def FLP_BUF.DATA (n : Nat) : Fld := ⟨0x0A100 + 4 * n, 31, 0⟩
/-- MGP_CFG (11_management_port.md, R291). -/
def MGP_CFG.addr : Nat := 0x0B000
def MGP_CFG.COMPAT : Fld := ⟨0x0B000, 8, 8⟩
def MGP_CFG.W : Fld := ⟨0x0B000, 5, 0⟩
/-- MGP_LEN (11_management_port.md, R291). -/
def MGP_LEN.addr : Nat := 0x0B004
def MGP_LEN.LEN : Fld := ⟨0x0B004, 12, 0⟩
/-- MGP_STATUS (11_management_port.md, R291). -/
def MGP_STATUS.addr : Nat := 0x0B008
def MGP_STATUS.COMPAT_IF : Fld := ⟨0x0B008, 31, 31⟩
def MGP_STATUS.W_IF : Fld := ⟨0x0B008, 30, 25⟩
def MGP_STATUS.RECOVERED : Fld := ⟨0x0B008, 8, 8⟩
def MGP_STATUS.LEN_ERR : Fld := ⟨0x0B008, 7, 7⟩
def MGP_STATUS.PARTIAL : Fld := ⟨0x0B008, 6, 6⟩
def MGP_STATUS.STALE : Fld := ⟨0x0B008, 5, 5⟩
def MGP_STATUS.ERR : Fld := ⟨0x0B008, 4, 4⟩
def MGP_STATUS.PWR : Fld := ⟨0x0B008, 3, 3⟩
def MGP_STATUS.EDGE : Fld := ⟨0x0B008, 2, 2⟩
def MGP_STATUS.UNDR : Fld := ⟨0x0B008, 1, 1⟩
def MGP_STATUS.ACTIVE : Fld := ⟨0x0B008, 0, 0⟩
/-- MGP_LOG (11_management_port.md, R291). -/
def MGP_LOG.addr : Nat := 0x0B00C
def MGP_LOG.VALID : Fld := ⟨0x0B00C, 31, 31⟩
def MGP_LOG.KIND : Fld := ⟨0x0B00C, 30, 28⟩
def MGP_LOG.WADDR : Fld := ⟨0x0B00C, 17, 0⟩
/-- MGP_CNT (11_management_port.md, R291). -/
def MGP_CNT.addr : Nat := 0x0B010
def MGP_CNT.UNDR : Fld := ⟨0x0B010, 31, 24⟩
def MGP_CNT.EDGE : Fld := ⟨0x0B010, 23, 16⟩
def MGP_CNT.PWR : Fld := ⟨0x0B010, 15, 8⟩
def MGP_CNT.ERR : Fld := ⟨0x0B010, 7, 0⟩
/-- MGP_ATTN (11_management_port.md, R291). -/
def MGP_ATTN.addr : Nat := 0x0B014
def MGP_ATTN.PORT : Fld := ⟨0x0B014, 4, 4⟩
def MGP_ATTN.MSTATE : Fld := ⟨0x0B014, 3, 3⟩
def MGP_ATTN.WATCH : Fld := ⟨0x0B014, 2, 2⟩
def MGP_ATTN.RELAY : Fld := ⟨0x0B014, 1, 1⟩
def MGP_ATTN.AMAP : Fld := ⟨0x0B014, 0, 0⟩
/-- MGP_ATTN_EN (11_management_port.md, R291). -/
def MGP_ATTN_EN.addr : Nat := 0x0B018
def MGP_ATTN_EN.EN : Fld := ⟨0x0B018, 4, 0⟩
/-- EMT_CTRL (14_emitters_indicators.md, R361). -/
def EMT_CTRL.addr : Nat := 0x0C000
def EMT_CTRL.APPLY : Fld := ⟨0x0C000, 2, 2⟩
def EMT_CTRL.PATTERN : Fld := ⟨0x0C000, 1, 1⟩
def EMT_CTRL.ENABLE : Fld := ⟨0x0C000, 0, 0⟩
/-- EMT_STATUS (14_emitters_indicators.md, R361). -/
def EMT_STATUS.addr : Nat := 0x0C004
def EMT_STATUS.OWNER : Fld := ⟨0x0C004, 31, 30⟩
def EMT_STATUS.PENDING : Fld := ⟨0x0C004, 29, 29⟩
def EMT_STATUS.FAULTS : Fld := ⟨0x0C004, 23, 16⟩
def EMT_STATUS.SCANS : Fld := ⟨0x0C004, 15, 0⟩
/-- EMT_FLT_LOG (14_emitters_indicators.md, R361). -/
def EMT_FLT_LOG.addr : Nat := 0x0C008
def EMT_FLT_LOG.KIND : Fld := ⟨0x0C008, 31, 28⟩
def EMT_FLT_LOG.SLATE : Fld := ⟨0x0C008, 27, 12⟩
def EMT_FLT_LOG.EMITTER : Fld := ⟨0x0C008, 7, 0⟩
/-- EMT_FLT_CNT (14_emitters_indicators.md, R361). -/
def EMT_FLT_CNT.addr : Nat := 0x0C00C
def EMT_FLT_CNT.SETS : Fld := ⟨0x0C00C, 31, 16⟩
def EMT_FLT_CNT.FAILS : Fld := ⟨0x0C00C, 15, 0⟩
/-- EMT_PAT (14_emitters_indicators.md, R361). -/
def EMT_PAT.addr (n : Nat) : Nat := 0x0C100 + 4 * n
def EMT_PAT.CODE_HI (n : Nat) : Fld := ⟨0x0C100 + 4 * n, 27, 16⟩
def EMT_PAT.CODE_LO (n : Nat) : Fld := ⟨0x0C100 + 4 * n, 11, 0⟩
/-- EMT_FLT (14_emitters_indicators.md, R361). -/
def EMT_FLT.addr (n : Nat) : Nat := 0x0C300 + 4 * n
def EMT_FLT.EMS (n : Nat) : Fld := ⟨0x0C300 + 4 * n, 31, 0⟩
/-- EMT_TFLT (14_emitters_indicators.md, R361). -/
def EMT_TFLT.addr (n : Nat) : Nat := 0x0C340 + 4 * n
def EMT_TFLT.TFLT (n : Nat) : Fld := ⟨0x0C340 + 4 * n, 31, 0⟩
/-- FLD_XCTRL (12_field_side.md, R319). -/
def FLD_XCTRL.addr : Nat := 0x0D000
def FLD_XCTRL.REFRESH : Fld := ⟨0x0D000, 1, 1⟩
def FLD_XCTRL.ECHO : Fld := ⟨0x0D000, 0, 0⟩
/-- FLD_XSTATE (12_field_side.md, R319). -/
def FLD_XSTATE.addr : Nat := 0x0D004
def FLD_XSTATE.GEN : Fld := ⟨0x0D004, 31, 24⟩
def FLD_XSTATE.RTT : Fld := ⟨0x0D004, 23, 12⟩
def FLD_XSTATE.WR_PEND : Fld := ⟨0x0D004, 11, 7⟩
def FLD_XSTATE.STATE : Fld := ⟨0x0D004, 1, 0⟩
/-- FLD_XERR (12_field_side.md, R319). -/
def FLD_XERR.addr : Nat := 0x0D008
def FLD_XERR.CRC : Fld := ⟨0x0D008, 31, 24⟩
def FLD_XERR.LOST : Fld := ⟨0x0D008, 23, 16⟩
def FLD_XERR.TYPE : Fld := ⟨0x0D008, 15, 8⟩
def FLD_XERR.REJECT : Fld := ⟨0x0D008, 7, 0⟩
/-- FLD_MREAD (12_field_side.md, R319). -/
def FLD_MREAD.addr : Nat := 0x0D00C
def FLD_MREAD.GEN : Fld := ⟨0x0D00C, 31, 24⟩
def FLD_MREAD.AGE : Fld := ⟨0x0D00C, 23, 0⟩
/-- FLD_FSTATE (12_field_side.md, R319). -/
def FLD_FSTATE.addr : Nat := 0x0D100
def FLD_FSTATE.GEN : Fld := ⟨0x0D100, 31, 24⟩
def FLD_FSTATE.SAFE_CAUSE : Fld := ⟨0x0D100, 23, 20⟩
def FLD_FSTATE.PLAUS_FAULT : Fld := ⟨0x0D100, 3, 3⟩
def FLD_FSTATE.INHIBIT : Fld := ⟨0x0D100, 2, 2⟩
def FLD_FSTATE.MODE : Fld := ⟨0x0D100, 1, 0⟩
/-- FLD_FID (12_field_side.md, R319). -/
def FLD_FID.addr : Nat := 0x0D104
def FLD_FID.REV : Fld := ⟨0x0D104, 31, 24⟩
/-- FLD_FCFG (12_field_side.md, R319). -/
def FLD_FCFG.addr : Nat := 0x0D108
def FLD_FCFG.MIR_MIN : Fld := ⟨0x0D108, 7, 0⟩
/-- HK_CFG (12_field_side.md, R319). -/
def HK_CFG.addr : Nat := 0x0D140
def HK_CFG.RUN : Fld := ⟨0x0D140, 31, 31⟩
def HK_CFG.LP : Fld := ⟨0x0D140, 30, 30⟩
def HK_CFG.DEST : Fld := ⟨0x0D140, 29, 28⟩
def HK_CFG.CAL_MIN : Fld := ⟨0x0D140, 27, 24⟩
def HK_CFG.SHARED : Fld := ⟨0x0D140, 20, 16⟩
def HK_CFG.PERIOD : Fld := ⟨0x0D140, 11, 0⟩
/-- HK_MASK (12_field_side.md, R319). -/
def HK_MASK.addr : Nat := 0x0D144
def HK_MASK.MASK : Fld := ⟨0x0D144, 23, 0⟩
/-- HK_ASSIGN (12_field_side.md, R319). -/
def HK_ASSIGN.addr : Nat := 0x0D148
def HK_ASSIGN.CONV : Fld := ⟨0x0D148, 23, 0⟩
/-- HK_PLAUS (12_field_side.md, R319). -/
def HK_PLAUS.addr : Nat := 0x0D14C
def HK_PLAUS.COUNT : Fld := ⟨0x0D14C, 31, 28⟩
def HK_PLAUS.WIN : Fld := ⟨0x0D14C, 15, 0⟩
/-- HK_OW (12_field_side.md, R319). -/
def HK_OW.addr : Nat := 0x0D150
def HK_OW.TEST_DIV : Fld := ⟨0x0D150, 31, 24⟩
def HK_OW.MODES : Fld := ⟨0x0D150, 11, 0⟩
/-- HK_STAT (12_field_side.md, R319). -/
def HK_STAT.addr : Nat := 0x0D154
def HK_STAT.SKIP : Fld := ⟨0x0D154, 31, 24⟩
def HK_STAT.OVR : Fld := ⟨0x0D154, 23, 16⟩
def HK_STAT.PFAIL : Fld := ⟨0x0D154, 15, 8⟩
def HK_STAT.CAL_A : Fld := ⟨0x0D154, 7, 7⟩
def HK_STAT.CAL_B : Fld := ⟨0x0D154, 6, 6⟩
def HK_STAT.OPEN : Fld := ⟨0x0D154, 5, 0⟩
/-- HK_SHARED (12_field_side.md, R319). -/
def HK_SHARED.addr : Nat := 0x0D158
def HK_SHARED.B : Fld := ⟨0x0D158, 31, 16⟩
def HK_SHARED.A : Fld := ⟨0x0D158, 15, 0⟩
/-- HK_RES (12_field_side.md, R319). -/
def HK_RES.addr (n : Nat) : Nat := 0x0D180 + 4 * n
def HK_RES.VALID (n : Nat) : Fld := ⟨0x0D180 + 4 * n, 31, 31⟩
def HK_RES.OPEN (n : Nat) : Fld := ⟨0x0D180 + 4 * n, 30, 30⟩
def HK_RES.PLAUS (n : Nat) : Fld := ⟨0x0D180 + 4 * n, 29, 29⟩
def HK_RES.INJ (n : Nat) : Fld := ⟨0x0D180 + 4 * n, 28, 28⟩
def HK_RES.LATE (n : Nat) : Fld := ⟨0x0D180 + 4 * n, 27, 27⟩
def HK_RES.VALUE (n : Nat) : Fld := ⟨0x0D180 + 4 * n, 15, 0⟩
/-- ACT_STATE (13_actuators.md, R344). -/
def ACT_STATE.addr (n : Nat) : Nat := 0x0D200 + 24 * n
def ACT_STATE.GEN (n : Nat) : Fld := ⟨0x0D200 + 24 * n, 31, 24⟩
def ACT_STATE.CAUSE (n : Nat) : Fld := ⟨0x0D200 + 24 * n, 23, 20⟩
def ACT_STATE.STEP (n : Nat) : Fld := ⟨0x0D200 + 24 * n, 19, 15⟩
def ACT_STATE.REQ (n : Nat) : Fld := ⟨0x0D200 + 24 * n, 14, 12⟩
def ACT_STATE.HELD (n : Nat) : Fld := ⟨0x0D200 + 24 * n, 11, 11⟩
def ACT_STATE.STATE (n : Nat) : Fld := ⟨0x0D200 + 24 * n, 2, 0⟩
/-- ACT_CFG (13_actuators.md, R344). -/
def ACT_CFG.addr (n : Nat) : Nat := 0x0D204 + 24 * n
def ACT_CFG.FOLLOW (n : Nat) : Fld := ⟨0x0D204 + 24 * n, 4, 4⟩
def ACT_CFG.FAIL (n : Nat) : Fld := ⟨0x0D204 + 24 * n, 3, 3⟩
def ACT_CFG.PAR (n : Nat) : Fld := ⟨0x0D204 + 24 * n, 2, 2⟩
def ACT_CFG.POLICY (n : Nat) : Fld := ⟨0x0D204 + 24 * n, 1, 1⟩
/-- ACT_COILP (13_actuators.md, R344). -/
def ACT_COILP.addr (n : Nat) : Nat := 0x0D208 + 24 * n
def ACT_COILP.R21 (n : Nat) : Fld := ⟨0x0D208 + 24 * n, 31, 16⟩
def ACT_COILP.RTH (n : Nat) : Fld := ⟨0x0D208 + 24 * n, 15, 8⟩
def ACT_COILP.TAU (n : Nat) : Fld := ⟨0x0D208 + 24 * n, 7, 0⟩
/-- ACT_COILT (13_actuators.md, R344). -/
def ACT_COILT.addr (n : Nat) : Nat := 0x0D20C + 24 * n
def ACT_COILT.LIMIT (n : Nat) : Fld := ⟨0x0D20C + 24 * n, 31, 24⟩
def ACT_COILT.AMB (n : Nat) : Fld := ⟨0x0D20C + 24 * n, 18, 16⟩
/-- ACT_MEAS (13_actuators.md, R344). -/
def ACT_MEAS.addr (n : Nat) : Nat := 0x0D210 + 24 * n
def ACT_MEAS.RMEAS (n : Nat) : Fld := ⟨0x0D210 + 24 * n, 31, 16⟩
def ACT_MEAS.TEMP (n : Nat) : Fld := ⟨0x0D210 + 24 * n, 15, 8⟩
def ACT_MEAS.PEAK (n : Nat) : Fld := ⟨0x0D210 + 24 * n, 7, 0⟩
/-- ACT_INJ (13_actuators.md, R344). -/
def ACT_INJ.addr (n : Nat) : Nat := 0x0D214 + 24 * n
def ACT_INJ.VALID (n : Nat) : Fld := ⟨0x0D214 + 24 * n, 31, 31⟩
def ACT_INJ.PLAUS (n : Nat) : Fld := ⟨0x0D214 + 24 * n, 30, 30⟩
def ACT_INJ.LATE (n : Nat) : Fld := ⟨0x0D214 + 24 * n, 29, 29⟩
def ACT_INJ.CH (n : Nat) : Fld := ⟨0x0D214 + 24 * n, 28, 24⟩
def ACT_INJ.VALUE (n : Nat) : Fld := ⟨0x0D214 + 24 * n, 15, 0⟩
/-- HS_CFG (13_actuators.md, R344). -/
def HS_CFG.addr (n : Nat) : Nat := 0x0D290 + 8 * n
def HS_CFG.ILIM (n : Nat) : Fld := ⟨0x0D290 + 8 * n, 15, 4⟩
def HS_CFG.MODE (n : Nat) : Fld := ⟨0x0D290 + 8 * n, 0, 0⟩
/-- HS_STAT (13_actuators.md, R344). -/
def HS_STAT.addr (n : Nat) : Nat := 0x0D294 + 8 * n
def HS_STAT.ON (n : Nat) : Fld := ⟨0x0D294 + 8 * n, 31, 31⟩
def HS_STAT.FAULT (n : Nat) : Fld := ⟨0x0D294 + 8 * n, 30, 30⟩
def HS_STAT.CLIP (n : Nat) : Fld := ⟨0x0D294 + 8 * n, 29, 29⟩
def HS_STAT.GRANT (n : Nat) : Fld := ⟨0x0D294 + 8 * n, 11, 0⟩
/-- IND_CFG (14_emitters_indicators.md, R362). -/
def IND_CFG.addr : Nat := 0x0D2C0
def IND_CFG.SAFE_WORD : Fld := ⟨0x0D2C0, 31, 16⟩
def IND_CFG.SAFE_SEND : Fld := ⟨0x0D2C0, 0, 0⟩
/-- IND_FSTAT (14_emitters_indicators.md, R362). -/
def IND_FSTAT.addr : Nat := 0x0D2C4
def IND_FSTAT.STATE : Fld := ⟨0x0D2C4, 31, 30⟩
def IND_FSTAT.FAULT : Fld := ⟨0x0D2C4, 29, 29⟩
def IND_FSTAT.QUEUED : Fld := ⟨0x0D2C4, 28, 28⟩
def IND_FSTAT.LAST : Fld := ⟨0x0D2C4, 27, 22⟩
/-- SHOT (13_actuators.md, R345). -/
def SHOT.addr (n s : Nat) : Nat := 0x0D400 + 128 * n + 4 * s
def SHOT.STEP (n s : Nat) : Fld := ⟨0x0D400 + 128 * n + 4 * s, 23, 0⟩
/-- ACT_LAST (13_actuators.md, R345). -/
def ACT_LAST.addr (n : Nat) : Nat := 0x0D800 + 4 * n
def ACT_LAST.OUTCOME (n : Nat) : Fld := ⟨0x0D800 + 4 * n, 31, 29⟩
def ACT_LAST.STEP (n : Nat) : Fld := ⟨0x0D800 + 4 * n, 28, 24⟩
def ACT_LAST.GEN (n : Nat) : Fld := ⟨0x0D800 + 4 * n, 23, 16⟩
def ACT_LAST.VALID (n : Nat) : Fld := ⟨0x0D800 + 4 * n, 15, 15⟩
def ACT_LAST.PEAK (n : Nat) : Fld := ⟨0x0D800 + 4 * n, 5, 0⟩
/-- IND_NODE (14_emitters_indicators.md, R363). -/
def IND_NODE.addr (n : Nat) : Nat := 0x0E000 + 4 * n
def IND_NODE.DIRTY (n : Nat) : Fld := ⟨0x0E000 + 4 * n, 16, 16⟩
def IND_NODE.WORD (n : Nat) : Fld := ⟨0x0E000 + 4 * n, 15, 0⟩
/-- IND_LAST (14_emitters_indicators.md, R363). -/
def IND_LAST.addr : Nat := 0x0E100
def IND_LAST.LAST : Fld := ⟨0x0E100, 5, 0⟩
/-- IND_LAST_STAT (14_emitters_indicators.md, R363). -/
def IND_LAST_STAT.addr : Nat := 0x0E104
def IND_LAST_STAT.RESULT : Fld := ⟨0x0E104, 31, 30⟩
def IND_LAST_STAT.WORDS : Fld := ⟨0x0E104, 29, 24⟩
def IND_LAST_STAT.GEN : Fld := ⟨0x0E104, 23, 16⟩
def IND_LAST_STAT.VALID : Fld := ⟨0x0E104, 15, 15⟩
/-- ENG_STATE (04_column_engines.md, R125). -/
def ENG_STATE.addr (n : Nat) : Nat := 0x10000 + 64 * n
def ENG_STATE.GEN (n : Nat) : Fld := ⟨0x10000 + 64 * n, 31, 24⟩
def ENG_STATE.CAUSE (n : Nat) : Fld := ⟨0x10000 + 64 * n, 23, 20⟩
def ENG_STATE.SEED (n : Nat) : Fld := ⟨0x10000 + 64 * n, 3, 3⟩
def ENG_STATE.STATE (n : Nat) : Fld := ⟨0x10000 + 64 * n, 2, 0⟩
/-- ENG_STAT (04_column_engines.md, R125). -/
def ENG_STAT.addr (n : Nat) : Nat := 0x10004 + 64 * n
def ENG_STAT.LATE (n : Nat) : Fld := ⟨0x10004 + 64 * n, 31, 16⟩
def ENG_STAT.CLOSE_MISS (n : Nat) : Fld := ⟨0x10004 + 64 * n, 15, 8⟩
def ENG_STAT.SBE (n : Nat) : Fld := ⟨0x10004 + 64 * n, 7, 0⟩
/-- ENGP_IMG (05_column_programs.md, R148). -/
def ENGP_IMG.addr (n : Nat) : Nat := 0x20000 + 4 * n
def ENGP_IMG.WORD (n : Nat) : Fld := ⟨0x20000 + 4 * n, 31, 0⟩
/-- ENGP_HDR (05_column_programs.md, R148). -/
def ENGP_HDR.addr : Nat := 0x21000
def ENGP_HDR.CCLR : Fld := ⟨0x21000, 31, 31⟩
def ENGP_HDR.BUDGET : Fld := ⟨0x21000, 24, 16⟩
def ENGP_HDR.LEN : Fld := ⟨0x21000, 9, 0⟩
/-- ENGP_CMD (05_column_programs.md, R148). -/
def ENGP_CMD.addr : Nat := 0x21F00
def ENGP_CMD.ACTION : Fld := ⟨0x21F00, 1, 0⟩
/-- ENGP_STATUS (05_column_programs.md, R148). -/
def ENGP_STATUS.addr : Nat := 0x21F04
def ENGP_STATUS.GEN : Fld := ⟨0x21F04, 31, 24⟩
def ENGP_STATUS.RESULT : Fld := ⟨0x21F04, 23, 20⟩
def ENGP_STATUS.ERR_WORD : Fld := ⟨0x21F04, 19, 10⟩
def ENGP_STATUS.BUSY : Fld := ⟨0x21F04, 9, 9⟩
def ENGP_STATUS.PENDING : Fld := ⟨0x21F04, 8, 8⟩
def ENGP_STATUS.HELD_BY_TAKE : Fld := ⟨0x21F04, 7, 7⟩
def ENGP_STATUS.PEEK_DONE : Fld := ⟨0x21F04, 6, 6⟩
def ENGP_STATUS.EXT : Fld := ⟨0x21F04, 5, 5⟩
/-- ENGP_WORST (05_column_programs.md, R148). -/
def ENGP_WORST.addr : Nat := 0x21F08
def ENGP_WORST.WORST : Fld := ⟨0x21F08, 15, 0⟩
/-- ENGP_INFORCE (05_column_programs.md, R148). -/
def ENGP_INFORCE.addr : Nat := 0x21F0C
def ENGP_INFORCE.EXT_BUDGET : Fld := ⟨0x21F0C, 24, 16⟩
def ENGP_INFORCE.TOTAL : Fld := ⟨0x21F0C, 9, 0⟩
/-- ENGP_CRC (05_column_programs.md, R148). -/
def ENGP_CRC.addr : Nat := 0x21F10
def ENGP_CRC.CRC : Fld := ⟨0x21F10, 31, 0⟩
/-- ENGP_PEEK_CMD (05_column_programs.md, R148). -/
def ENGP_PEEK_CMD.addr : Nat := 0x21F14
def ENGP_PEEK_CMD.ENGINE : Fld := ⟨0x21F14, 9, 0⟩
/-- ENGP_PEEK (05_column_programs.md, R148). -/
def ENGP_PEEK.addr (n : Nat) : Nat := 0x22000 + 4 * n
def ENGP_PEEK.DATA (n : Nat) : Fld := ⟨0x22000 + 4 * n, 31, 0⟩
/-- AMAP_BIT (08_cell_watch.md, R221). -/
def AMAP_BIT.addr (n : Nat) : Nat := 0x30000 + 4 * n
def AMAP_BIT.ALARM (n : Nat) : Fld := ⟨0x30000 + 4 * n, 31, 0⟩
/-- AMAP_INFO (08_cell_watch.md, R221). -/
def AMAP_INFO.addr : Nat := 0x38000
def AMAP_INFO.VALID : Fld := ⟨0x38000, 31, 31⟩
def AMAP_INFO.WATCHING : Fld := ⟨0x38000, 30, 30⟩
def AMAP_INFO.RELAY_REQ : Fld := ⟨0x38000, 29, 29⟩
def AMAP_INFO.ALARMS : Fld := ⟨0x38000, 18, 0⟩
/-- AMAP_SLATE (08_cell_watch.md, R221). -/
def AMAP_SLATE.addr : Nat := 0x38004
def AMAP_SLATE.SLATE : Fld := ⟨0x38004, 31, 0⟩
/-- MSIX_LO (18_register_index.md, R420 R222). -/
def MSIX_LO.addr (n : Nat) : Nat := 0x80000 + 16 * n
def MSIX_LO.ADDR (n : Nat) : Fld := ⟨0x80000 + 16 * n, 31, 2⟩
/-- MSIX_HI (18_register_index.md, R420 R222). -/
def MSIX_HI.addr (n : Nat) : Nat := 0x80004 + 16 * n
def MSIX_HI.ADDR (n : Nat) : Fld := ⟨0x80004 + 16 * n, 31, 0⟩
/-- MSIX_DATA (18_register_index.md, R420 R222). -/
def MSIX_DATA.addr (n : Nat) : Nat := 0x80008 + 16 * n
def MSIX_DATA.DATA (n : Nat) : Fld := ⟨0x80008 + 16 * n, 31, 0⟩
/-- MSIX_CTRL (18_register_index.md, R420 R222). PRESUMED, log 4. -/
def MSIX_CTRL.addr (n : Nat) : Nat := 0x8000C + 16 * n
def MSIX_CTRL.MASK (n : Nat) : Fld := ⟨0x8000C + 16 * n, 0, 0⟩
/-- MSIX_PBA (18_register_index.md, R420 R222). -/
def MSIX_PBA.addr (n : Nat) : Nat := 0x81000 + 4 * n
def MSIX_PBA.PEND (n : Nat) : Fld := ⟨0x81000 + 4 * n, 31, 0⟩

/-- The register map, part 1 (18_register_index.md R424). -/
def regInfos1 : List RegInfo := [
  ⟨"GLB_ID", 0x00000, 4, 1, 0x00001D7E, 0x00000000, 0x00000000, 0x00000000, 0x00000000⟩,
  ⟨"GLB_VARIANT", 0x00004, 4, 1, 0x01000000, 0x00000000, 0x00000000, 0x00000000, 0x00000000⟩,
  ⟨"GLB_SERIAL_LO", 0x00008, 4, 1, 0x00000000, 0x00000000, 0x00000000, 0x00000000, 0x00000000⟩,
  ⟨"GLB_SERIAL_HI", 0x0000C, 4, 1, 0x00000000, 0x00000000, 0x00000000, 0x00000000, 0x00000000⟩,
  ⟨"GLB_MSTATE", 0x00010, 4, 1, 0x00000277, 0x00000000, 0x00000000, 0x00000000, 0x00000000⟩,
  ⟨"GLB_SCRATCH", 0x00014, 4, 1, 0x00000000, 0xFFFFFFFF, 0x00000000, 0x00000000, 0x00000000⟩,
  ⟨"SLATE_CFG", 0x01000, 4, 1, 0x00000000, 0xFFF0FF0D, 0x00000000, 0x00000000, 0x00000000⟩,
  ⟨"SLATE_STATUS", 0x01004, 4, 1, 0x00000000, 0x00000000, 0x00000000, 0x00000000, 0x00000000⟩,
  ⟨"SLATE_NO_LO", 0x01008, 4, 1, 0x00000000, 0x00000000, 0x00000000, 0x00000000, 0x00000000⟩,
  ⟨"SLATE_NO_HI", 0x0100C, 4, 1, 0x00000000, 0x00000000, 0x00000000, 0x00000000, 0x00000000⟩,
  ⟨"SLATE_TIME_LO", 0x01010, 4, 1, 0x00000000, 0x00000000, 0x00000000, 0x00000000, 0x00000000⟩,
  ⟨"SLATE_TIME_HI", 0x01014, 4, 1, 0x00000000, 0x00000000, 0x00000000, 0x00000000, 0x00000000⟩,
  ⟨"SLATE_START_LO", 0x01018, 4, 1, 0x00000000, 0x00000000, 0x00000000, 0x00000000, 0x00000000⟩,
  ⟨"SLATE_START_HI", 0x0101C, 4, 1, 0x00000000, 0x00000000, 0x00000000, 0x00000000, 0x00000000⟩,
  ⟨"SLATE_TLOAD_LO", 0x01020, 4, 1, 0x00000000, 0xFFFFFFFF, 0x00000000, 0x00000000, 0x00000000⟩,
  ⟨"SLATE_TLOAD_HI", 0x01024, 4, 1, 0x00000000, 0xFFFFFFFF, 0x00000000, 0x00000000, 0x00000000⟩,
  ⟨"SLATE_TADJ", 0x01028, 4, 1, 0x00000000, 0xFFFFFFFF, 0x00000000, 0x00000000, 0x00000000⟩,
  ⟨"SLATE_TRIM", 0x0102C, 4, 1, 0x00000000, 0x0000FFFF, 0x00000000, 0x00000000, 0x00000000⟩,
  ⟨"SLATE_CMD", 0x01030, 4, 1, 0x00000000, 0x00000000, 0x00000000, 0x00000000, 0x00000007⟩,
  ⟨"SLATE_NLOAD_LO", 0x01034, 4, 1, 0x00000000, 0xFFFFFFFF, 0x00000000, 0x00000000, 0x00000000⟩,
  ⟨"SLATE_NLOAD_HI", 0x01038, 4, 1, 0x00000000, 0x0000FFFF, 0x00000000, 0x00000000, 0x00000000⟩,
  ⟨"SLATE_EDGE_CNT", 0x0103C, 4, 1, 0x00000000, 0x00000000, 0x00000000, 0xFFFFFFFF, 0x00000000⟩,
  ⟨"HERD_CFG", 0x01040, 4, 1, 0x00010000, 0xFFCF000D, 0x00000000, 0x00000000, 0x00000000⟩,
  ⟨"HERD_STATUS", 0x01044, 4, 1, 0x00000000, 0x00000000, 0x00000000, 0x00000000, 0x00000000⟩,
  ⟨"HERD_ROSTER", 0x01048, 4, 1, 0x00000000, 0x00000000, 0x00000000, 0x00000000, 0x00000000⟩,
  ⟨"HERD_TAKE", 0x0104C, 4, 1, 0x00000258, 0xFFFFFFFF, 0x00000000, 0x00000000, 0x00000000⟩,
  ⟨"HERD_LANE_ERR", 0x01050, 4, 1, 0x00000000, 0x00000000, 0x00000000, 0xFFFFFFFF, 0x00000000⟩,
  ⟨"HERD_SEAM0", 0x01100, 16, 16, 0xFFFFFFFF, 0x00000000, 0x00000000, 0x00000000, 0x00000000⟩,
  ⟨"HERD_SEAM1", 0x01104, 16, 16, 0xFFFFFFFF, 0x00000000, 0x00000000, 0x00000000, 0x00000000⟩,
  ⟨"HERD_SEAM2", 0x01108, 16, 16, 0x00000000, 0x00000000, 0x00000000, 0x00000000, 0x00000000⟩]
/-- The register map, part 2 (18_register_index.md R424). -/
def regInfos2 : List RegInfo := [
  ⟨"HERD_SEAM3", 0x0110C, 16, 16, 0x00000000, 0x00000000, 0x00000000, 0x00000000, 0x00000000⟩,
  ⟨"FPA_MODE", 0x02000, 4, 1, 0x0000C300, 0x000FCF11, 0x00000000, 0x00000000, 0x00000000⟩,
  ⟨"FPA_INT", 0x02004, 4, 1, 0x00000060, 0x000000FF, 0x00000000, 0x00000000, 0x00000000⟩,
  ⟨"FPA_STATUS", 0x02008, 4, 1, 0x60000C30, 0x00000000, 0x00000000, 0x00000000, 0x00000000⟩,
  ⟨"FPA_SLOT", 0x0200C, 4, 1, 0x10B20C30, 0x00000000, 0x00000000, 0x00000000, 0x00000000⟩,
  ⟨"FPA_PLAUS", 0x02010, 4, 1, 0x00181003, 0x00FFFF0F, 0x00000000, 0x00000000, 0x00000000⟩,
  ⟨"FPA_GRP_CTRL", 0x02014, 4, 1, 0x00000000, 0x00000000, 0x00000000, 0x00000000, 0x0000037F⟩,
  ⟨"FPA_FAULT_LOG", 0x02018, 4, 1, 0x00000000, 0x00000000, 0x00000000, 0x00000000, 0x00000000⟩,
  ⟨"FPA_INCOMPLETE", 0x0201C, 4, 1, 0x00000000, 0x00000000, 0x00000000, 0xFFFFFFFF, 0x00000000⟩,
  ⟨"FPA_SAT_SLATE", 0x02020, 4, 1, 0x00000000, 0x00000000, 0x00000000, 0x00000000, 0x00000000⟩,
  ⟨"FPA_BIAS", 0x02024, 4, 1, 0x00000000, 0x00000000, 0x00000000, 0x00000000, 0x00000000⟩,
  ⟨"FPA_GRP_STATE", 0x02100, 4, 8, 0x00000000, 0x00000000, 0x00000000, 0x00000000, 0x00000000⟩,
  ⟨"FPA_GREF", 0x02200, 4, 128, 0x00000000, 0x00000000, 0x00000000, 0x00000000, 0x00000000⟩,
  ⟨"FPA_GCAL", 0x02400, 4, 128, 0x00000000, 0x00000000, 0x00000000, 0x00000000, 0x00000000⟩,
  ⟨"CAL_STATUS", 0x04000, 4, 1, 0x00000000, 0x00000000, 0x00000000, 0x00000000, 0x00000000⟩,
  ⟨"CAL_LEDGER_CFG", 0x04004, 4, 1, 0x00000100, 0x000007FF, 0x00000000, 0x00000000, 0x00000000⟩,
  ⟨"CAL_DISCARD", 0x04008, 4, 1, 0x00000000, 0x00000000, 0x00000000, 0xFFFFFFFF, 0x00000000⟩,
  ⟨"CAL_LAST_COMMIT", 0x0400C, 4, 1, 0x00000000, 0x00000000, 0x00000000, 0x00000000, 0x00000000⟩,
  ⟨"CAL_ANCHOR", 0x04010, 4, 4, 0x00000000, 0x00000000, 0x00000000, 0x00000000, 0x00000000⟩,
  ⟨"CAL_RD_CMD", 0x04020, 4, 1, 0x00000000, 0x00000000, 0x00000000, 0x00000000, 0xFFFFFFFF⟩,
  ⟨"CAL_RD_STATUS", 0x04024, 4, 1, 0x00000000, 0x00000000, 0x60000000, 0x00000000, 0x00000000⟩,
  ⟨"CAL_RD_DBE_0", 0x04028, 4, 1, 0x00000000, 0x00000000, 0x00000000, 0x00000000, 0x00000000⟩,
  ⟨"CAL_RD_DBE_1", 0x0402C, 4, 1, 0x00000000, 0x00000000, 0x00000000, 0x00000000, 0x00000000⟩,
  ⟨"CAL_RD_DATA", 0x04100, 4, 128, 0x00000000, 0x00000000, 0x00000000, 0x00000000, 0x00000000⟩,
  ⟨"CAL_RGAIN", 0x04400, 4, 96, 0x40004000, 0xFFFFFFFF, 0x00000000, 0x00000000, 0x00000000⟩,
  ⟨"CAL_RGAIN_IF", 0x04600, 4, 96, 0x40004000, 0x00000000, 0x00000000, 0x00000000, 0x00000000⟩,
  ⟨"PIPE_CTRL", 0x04800, 4, 1, 0x00000021, 0x00000067, 0x00000000, 0x00000000, 0x00000000⟩,
  ⟨"PIPE_CLK", 0x04804, 4, 1, 0x0250008A, 0x0FFF008F, 0x00000000, 0x00000000, 0x00000000⟩,
  ⟨"PIPE_STATUS", 0x04808, 4, 1, 0x0D18F000, 0x00000000, 0x00000000, 0x00000000, 0x00000000⟩,
  ⟨"PIPE_LEVEL", 0x0480C, 4, 1, 0x00002000, 0x0000FFFF, 0x00000000, 0x00000000, 0x00000000⟩]
/-- The register map, part 3 (18_register_index.md R424). -/
def regInfos3 : List RegInfo := [
  ⟨"PIPE_HIST", 0x04810, 4, 1, 0x00000008, 0xFFFF000F, 0x00000000, 0x00000000, 0x00000000⟩,
  ⟨"PIPE_ST", 0x04814, 4, 1, 0x04000010, 0xFF00FFFF, 0x00000000, 0x00000000, 0x00000000⟩,
  ⟨"PIPE_ENG_CTRL", 0x04818, 4, 1, 0x00000000, 0x00000000, 0x00000000, 0x00000000, 0x000033FF⟩,
  ⟨"PIPE_FAULT_LOG", 0x0481C, 4, 1, 0x00000000, 0x00000000, 0x00000000, 0x00000000, 0x00000000⟩,
  ⟨"PIPE_LATE_CNT", 0x04820, 4, 1, 0x00000000, 0x00000000, 0x00000000, 0xFFFFFFFF, 0x00000000⟩,
  ⟨"PIPE_ECC_CNT", 0x04824, 4, 1, 0x00000000, 0x00000000, 0x00000000, 0xFFFFFFFF, 0x00000000⟩,
  ⟨"TAKE_CFG", 0x04C00, 4, 1, 0x012C1E24, 0xFFFFFFFC, 0x00000000, 0x00000000, 0x00000000⟩,
  ⟨"TAKE_LIM", 0x04C04, 4, 1, 0x20281440, 0xFFFFFFFF, 0x00000000, 0x00000000, 0x00000000⟩,
  ⟨"TAKE_LIM2", 0x04C08, 4, 1, 0x00C82000, 0xFFFFFF00, 0x00000000, 0x00000000, 0x00000000⟩,
  ⟨"TAKE_EMIT", 0x04C0C, 4, 1, 0x00000002, 0x00000003, 0x00000000, 0x00000000, 0x00000000⟩,
  ⟨"TAKE_ST", 0x04C10, 4, 1, 0x403C1008, 0xFFFFFFFF, 0x00000000, 0x00000000, 0x00000000⟩,
  ⟨"TAKE_ST_LIFE", 0x04C14, 4, 1, 0x00000078, 0x0000FFFF, 0x00000000, 0x00000000, 0x00000000⟩,
  ⟨"TAKE_STATUS", 0x04C18, 4, 1, 0x0C000000, 0x00000000, 0x00000000, 0x00000000, 0x00000000⟩,
  ⟨"TAKE_LAST", 0x04C1C, 4, 1, 0x00000000, 0x00000000, 0x00000000, 0x00000000, 0x00000000⟩,
  ⟨"TAKE_COUNT", 0x04C20, 4, 1, 0x00000000, 0x00000000, 0x00000000, 0x00000000, 0x00000000⟩,
  ⟨"TAKE_DEPOT", 0x04C24, 4, 1, 0x00000000, 0x00000000, 0x00000000, 0x00000000, 0x00000000⟩,
  ⟨"TAKE_STGATE", 0x04C40, 4, 6, 0x00000000, 0xFFFFFFFF, 0x00000000, 0x00000000, 0x00000000⟩,
  ⟨"TAKE_EREF", 0x04D00, 4, 96, 0x00000000, 0x00000000, 0x00000000, 0x00000000, 0x00000000⟩,
  ⟨"TAKE_RESP", 0x04E80, 4, 96, 0x00000000, 0x00000000, 0x00000000, 0x00000000, 0x00000000⟩,
  ⟨"CELL_CFG", 0x05000, 4, 1, 0x00000000, 0xFF03FFFF, 0x00000000, 0x00000000, 0x00000000⟩,
  ⟨"CELL_SUM_RING", 0x05004, 4, 1, 0x00000000, 0x0003FFFF, 0x00000000, 0x00000000, 0x00000000⟩,
  ⟨"CELL_RELAY", 0x05008, 4, 1, 0x00000005, 0x00000003, 0x00000000, 0x00000000, 0x00000000⟩,
  ⟨"CELL_STATUS", 0x0500C, 4, 1, 0x00000000, 0x00000000, 0x00000000, 0x00000000, 0x00000000⟩,
  ⟨"CELL_ALARMS", 0x05010, 4, 1, 0x00000000, 0x00000000, 0x00000000, 0x00000000, 0x00000000⟩,
  ⟨"CELL_WARNS", 0x05014, 4, 1, 0x00000000, 0x00000000, 0x00000000, 0x00000000, 0x00000000⟩,
  ⟨"CELL_DROP", 0x05018, 4, 1, 0x00000000, 0x00000000, 0x00000000, 0xFFFFFFFF, 0x00000000⟩,
  ⟨"CELL_ACK", 0x0501C, 4, 1, 0x00000000, 0x00000000, 0x00000000, 0x00000000, 0x0007FFFF⟩,
  ⟨"CELL_MAP_CTRL", 0x05020, 4, 1, 0x00000000, 0x000001FF, 0x00000000, 0x00000000, 0x00000400⟩,
  ⟨"CELL_RT_IDX", 0x05024, 4, 1, 0x00000000, 0x00000FFF, 0x00000000, 0x00000000, 0x00000000⟩,
  ⟨"CELL_RT_DATA", 0x05028, 4, 1, 0x00000000, 0x00000000, 0x00000000, 0x00000000, 0xFFFFFFFF⟩]
/-- The register map, part 4 (18_register_index.md R424). -/
def regInfos4 : List RegInfo := [
  ⟨"CELL_RT_CMD", 0x0502C, 4, 1, 0x00000000, 0x00000000, 0x00000000, 0x00000000, 0x00000007⟩,
  ⟨"CELL_RT_STATUS", 0x05030, 4, 1, 0x00000000, 0x00000000, 0x00000000, 0x00000000, 0x00000000⟩,
  ⟨"CELL_ZONE0", 0x05400, 16, 64, 0xFFFFFFFF, 0xFFFFFFFF, 0x00000000, 0x00000000, 0x00000000⟩,
  ⟨"CELL_ZONE1", 0x05404, 16, 64, 0x00000007, 0xFFFF001F, 0x00000000, 0x00000000, 0x00000000⟩,
  ⟨"CELL_ZONE2", 0x05408, 16, 64, 0x031E0100, 0xFFFF3F1D, 0x00000000, 0x00000000, 0x00000000⟩,
  ⟨"CELL_MAPW", 0x05800, 4, 512, 0x00000000, 0xFFFFFFFF, 0x00000000, 0x00000000, 0x00000000⟩,
  ⟨"RING_SEL", 0x06000, 4, 1, 0x00000000, 0x0003FFFF, 0x00000000, 0x00000000, 0x00000000⟩,
  ⟨"RING_CMD", 0x06004, 4, 1, 0x00000000, 0x00000000, 0x00000000, 0x00000000, 0x00000007⟩,
  ⟨"RING_STATUS", 0x06008, 4, 1, 0x00000000, 0x00000000, 0x00000000, 0x00000000, 0x00000000⟩,
  ⟨"RING_CNT", 0x0600C, 4, 1, 0x00000000, 0x00000000, 0x00000000, 0xFFFFFFFF, 0x00000000⟩,
  ⟨"RING_INFO", 0x06010, 4, 1, 0x00000000, 0x00000000, 0x00000000, 0x00000000, 0x00000000⟩,
  ⟨"RING_LINK", 0x06014, 4, 1, 0x00000000, 0x00000000, 0x00000000, 0x00000000, 0x00000000⟩,
  ⟨"RING_CTX", 0x06020, 4, 8, 0x00000000, 0xFFFFFFFF, 0x00000000, 0x00000000, 0x00000000⟩,
  ⟨"EVT_STAT", 0x07000, 4, 8, 0x00000000, 0x00000000, 0xFFFFFFFF, 0x00000000, 0x00000000⟩,
  ⟨"EVT_EN", 0x07020, 4, 8, 0x00000000, 0xFFFFFFFF, 0x00000000, 0x00000000, 0x00000000⟩,
  ⟨"EVT_SUMMARY", 0x07040, 4, 1, 0x00000000, 0x00000000, 0x00000000, 0x00000000, 0x00000000⟩,
  ⟨"EVT_FORCE", 0x07044, 4, 1, 0x00000000, 0x00000000, 0x00000000, 0x00000000, 0x000000FF⟩,
  ⟨"EVT_DAILIES", 0x07048, 4, 1, 0x00000000, 0x00000000, 0x00000000, 0xFFFF0000, 0x00000000⟩,
  ⟨"EVT_VIOL_CNT", 0x0704C, 4, 1, 0x00000000, 0x00000000, 0x00008000, 0xFFFF0000, 0x00000010⟩,
  ⟨"EVT_DAILIES_SEQ", 0x07050, 4, 1, 0x00000000, 0x00000000, 0x00000000, 0x00000000, 0x00000000⟩,
  ⟨"EVT_VEC", 0x07100, 4, 64, 0x00000000, 0xFFFFFFFF, 0x00000000, 0x00000000, 0x00000000⟩,
  ⟨"EVT_VIOL0", 0x07200, 16, 16, 0x00000000, 0x00000000, 0x00000000, 0x00000000, 0x00000000⟩,
  ⟨"EVT_VIOL1", 0x07204, 16, 16, 0x00000000, 0x00000000, 0x00000000, 0x00000000, 0x00000000⟩,
  ⟨"EVT_VIOL2", 0x07208, 16, 16, 0x00000000, 0x00000000, 0x00000000, 0x00000000, 0x00000000⟩,
  ⟨"EVT_VIOL3", 0x0720C, 16, 16, 0x00000000, 0x00000000, 0x00000000, 0x00000000, 0x00000000⟩,
  ⟨"GAF_STATUS", 0x08000, 4, 1, 0x00000000, 0x00000000, 0x00000000, 0x00000000, 0x00000000⟩,
  ⟨"GAF_LOOP", 0x08004, 4, 1, 0x00000000, 0x00000000, 0x00000000, 0x00000000, 0x00000000⟩,
  ⟨"GAF_PLIM", 0x08008, 4, 1, 0x00000046, 0x000000FF, 0x00000000, 0x00000000, 0x00000000⟩,
  ⟨"GAF_GRAD", 0x0800C, 4, 1, 0x0000311E, 0x0000F1FF, 0x00000000, 0x00000000, 0x00000000⟩,
  ⟨"GAF_WARM", 0x08010, 4, 1, 0x0000003C, 0x000000FF, 0x00000000, 0x00000000, 0x00000000⟩]
/-- The register map, part 5 (18_register_index.md R424). -/
def regInfos5 : List RegInfo := [
  ⟨"GAF_PWR", 0x08014, 4, 1, 0x0000FFFF, 0x00000000, 0x00000000, 0x00000000, 0x00000000⟩,
  ⟨"GAF_HOT", 0x08018, 4, 1, 0x00000000, 0x00000000, 0x00000000, 0x00000000, 0x00000000⟩,
  ⟨"GAF_COLD", 0x0801C, 4, 1, 0x00000000, 0x00000000, 0x00000000, 0x00000000, 0x00000000⟩,
  ⟨"GAF_SPREAD", 0x08020, 4, 1, 0x00000000, 0x00000000, 0x00000000, 0x00000000, 0x00000000⟩,
  ⟨"GAF_T", 0x08100, 4, 100, 0x00000000, 0x00000000, 0x00000000, 0x00000000, 0x00000000⟩,
  ⟨"GAF_BROKEN", 0x08300, 4, 7, 0x00000000, 0x00000000, 0x00000000, 0x00000000, 0x00000000⟩,
  ⟨"GAF_IGN", 0x08320, 4, 7, 0x00000000, 0xFFFFFFFF, 0x00000000, 0x00000000, 0x00000000⟩,
  ⟨"NVS_CMD", 0x09000, 4, 1, 0x00000000, 0x00000000, 0x00000000, 0x00000000, 0x00FF1C0F⟩,
  ⟨"NVS_ADDR", 0x09004, 4, 1, 0x00000080, 0x1FFFFFFF, 0x00000000, 0x00000000, 0x00000000⟩,
  ⟨"NVS_STATUS", 0x09008, 4, 1, 0x00000000, 0x00000000, 0x40000000, 0x00000000, 0x00000000⟩,
  ⟨"NVS_REC", 0x0900C, 4, 1, 0x00000000, 0x00000000, 0x00000000, 0x00000000, 0x00000000⟩,
  ⟨"NVS_REC_SEQ", 0x09010, 4, 1, 0x00000000, 0x00000000, 0x00000000, 0x00000000, 0x00000000⟩,
  ⟨"NVS_PW_LO", 0x09014, 4, 1, 0x00000000, 0x00000000, 0x00000000, 0x00000000, 0xFFFFFFFF⟩,
  ⟨"NVS_PW_HI", 0x09018, 4, 1, 0x00000000, 0x00000000, 0x00000000, 0x00000000, 0xFFFFFFFF⟩,
  ⟨"NVS_ACCESS", 0x0901C, 4, 1, 0x00080808, 0x00000000, 0x00000000, 0x00000000, 0x00000000⟩,
  ⟨"NVS_SCRUB", 0x09020, 4, 1, 0x00000000, 0x00000000, 0x00000000, 0xFFFF0000, 0x00000000⟩,
  ⟨"NVS_ERR", 0x09024, 4, 1, 0x00000000, 0x00000000, 0x00000000, 0xFFFFF000, 0x00000000⟩,
  ⟨"NVS_CNT", 0x09040, 4, 16, 0x00000000, 0x00000000, 0x00000000, 0x00000000, 0x00000000⟩,
  ⟨"NVS_BUF", 0x09800, 4, 512, 0x00000000, 0xFFFFFFFF, 0x00000000, 0x00000000, 0x00000000⟩,
  ⟨"FLP_CFG", 0x0A000, 4, 1, 0x00000100, 0x0000011D, 0x00000000, 0x00000000, 0x00000000⟩,
  ⟨"FLP_STATUS", 0x0A004, 4, 1, 0x00000000, 0x00000000, 0x40000000, 0x00000000, 0x00000000⟩,
  ⟨"FLP_BOOT", 0x0A008, 4, 1, 0x10000000, 0x00000000, 0x00000000, 0x00000000, 0x00000000⟩,
  ⟨"FLP_SFDP", 0x0A00C, 4, 1, 0x02000040, 0x00000000, 0x00000000, 0x00000000, 0x00000000⟩,
  ⟨"FLP_CMD", 0x0A010, 4, 1, 0x00000000, 0x00000000, 0x00000000, 0x00000000, 0x0001FF0F⟩,
  ⟨"FLP_ADDR", 0x0A014, 4, 1, 0x00000000, 0x007FFFFF, 0x00000000, 0x00000000, 0x00000000⟩,
  ⟨"FLP_RESET", 0x0A018, 4, 1, 0x00000000, 0x00000000, 0x00000000, 0x00000000, 0xFFFF0001⟩,
  ⟨"FLP_FWVER", 0x0A01C, 4, 1, 0x00000000, 0x00000000, 0x00000000, 0x00000000, 0x00000000⟩,
  ⟨"FLP_BUF", 0x0A100, 4, 64, 0x00000000, 0xFFFFFFFF, 0x00000000, 0x00000000, 0x00000000⟩,
  ⟨"MGP_CFG", 0x0B000, 4, 1, 0x00000020, 0x0000013F, 0x00000000, 0x00000000, 0x00000000⟩,
  ⟨"MGP_LEN", 0x0B004, 4, 1, 0x00000038, 0x00001FFF, 0x00000000, 0x00000000, 0x00000000⟩]
/-- The register map, part 6 (18_register_index.md R424). -/
def regInfos6 : List RegInfo := [
  ⟨"MGP_STATUS", 0x0B008, 4, 1, 0x40000000, 0x00000000, 0x000001FE, 0x00000000, 0x00000000⟩,
  ⟨"MGP_LOG", 0x0B00C, 4, 1, 0x00000000, 0x00000000, 0x80000000, 0x00000000, 0x00000000⟩,
  ⟨"MGP_CNT", 0x0B010, 4, 1, 0x00000000, 0x00000000, 0x00000000, 0xFFFFFFFF, 0x00000000⟩,
  ⟨"MGP_ATTN", 0x0B014, 4, 1, 0x00000000, 0x00000000, 0x0000001F, 0x00000000, 0x00000000⟩,
  ⟨"MGP_ATTN_EN", 0x0B018, 4, 1, 0x0000000F, 0x0000001F, 0x00000000, 0x00000000, 0x00000000⟩,
  ⟨"EMT_CTRL", 0x0C000, 4, 1, 0x00000001, 0x00000003, 0x00000000, 0x00000000, 0x00000004⟩,
  ⟨"EMT_STATUS", 0x0C004, 4, 1, 0x00000000, 0x00000000, 0x00000000, 0x00000000, 0x00000000⟩,
  ⟨"EMT_FLT_LOG", 0x0C008, 4, 1, 0x00000000, 0x00000000, 0x00000000, 0x00000000, 0x00000000⟩,
  ⟨"EMT_FLT_CNT", 0x0C00C, 4, 1, 0x00000000, 0x00000000, 0x00000000, 0xFFFFFFFF, 0x00000000⟩,
  ⟨"EMT_PAT", 0x0C100, 4, 96, 0x00000000, 0x0FFF0FFF, 0x00000000, 0x00000000, 0x00000000⟩,
  ⟨"EMT_FLT", 0x0C300, 4, 12, 0x00000000, 0x00000000, 0x00000000, 0x00000000, 0x00000000⟩,
  ⟨"EMT_TFLT", 0x0C340, 4, 6, 0x00000000, 0x00000000, 0x00000000, 0x00000000, 0x00000000⟩,
  ⟨"FLD_XCTRL", 0x0D000, 4, 1, 0x00000000, 0x00000000, 0x00000000, 0x00000000, 0x00000003⟩,
  ⟨"FLD_XSTATE", 0x0D004, 4, 1, 0x00FFF000, 0x00000000, 0x00000000, 0x00000000, 0x00000000⟩,
  ⟨"FLD_XERR", 0x0D008, 4, 1, 0x00000000, 0x00000000, 0x00000000, 0xFFFFFFFF, 0x00000000⟩,
  ⟨"FLD_MREAD", 0x0D00C, 4, 1, 0x00FFFFFF, 0x00000000, 0x00000000, 0x00000000, 0x00000000⟩,
  ⟨"FLD_FSTATE", 0x0D100, 4, 1, 0x00100000, 0x00000000, 0x00000000, 0x00000000, 0x00000000⟩,
  ⟨"FLD_FID", 0x0D104, 4, 1, 0x00000000, 0x00000000, 0x00000000, 0x00000000, 0x00000000⟩,
  ⟨"FLD_FCFG", 0x0D108, 4, 1, 0x0000000A, 0x000000FF, 0x00000000, 0x00000000, 0x00000000⟩,
  ⟨"HK_CFG", 0x0D140, 4, 1, 0x8F170064, 0x7F1F0FFF, 0x00000000, 0x00000000, 0x00000000⟩,
  ⟨"HK_MASK", 0x0D144, 4, 1, 0x0087FFFF, 0x00FFFFFF, 0x00000000, 0x00000000, 0x00000000⟩,
  ⟨"HK_ASSIGN", 0x0D148, 4, 1, 0x00AAAAAA, 0x00FFFFFF, 0x00000000, 0x00000000, 0x00000000⟩,
  ⟨"HK_PLAUS", 0x0D14C, 4, 1, 0x30000040, 0xF000FFFF, 0x00000000, 0x00000000, 0x00000000⟩,
  ⟨"HK_OW", 0x0D150, 4, 1, 0x64000555, 0xFF000FFF, 0x00000000, 0x00000000, 0x00000000⟩,
  ⟨"HK_STAT", 0x0D154, 4, 1, 0x00000000, 0x00000000, 0x00000000, 0x00000000, 0x00000000⟩,
  ⟨"HK_SHARED", 0x0D158, 4, 1, 0x00000000, 0x00000000, 0x00000000, 0x00000000, 0x00000000⟩,
  ⟨"HK_RES", 0x0D180, 4, 24, 0x00000000, 0x00000000, 0x00000000, 0x00000000, 0x00000000⟩,
  ⟨"ACT_STATE", 0x0D200, 24, 6, 0x00000000, 0x00000000, 0x00000000, 0x00000000, 0x00000000⟩,
  ⟨"ACT_CFG", 0x0D204, 24, 6, 0x00000000, 0x0000001E, 0x00000000, 0x00000000, 0x00000000⟩,
  ⟨"ACT_COILP", 0x0D208, 24, 6, 0x00000000, 0xFFFFFFFF, 0x00000000, 0x00000000, 0x00000000⟩]
/-- The register map, part 7 (18_register_index.md R424). -/
def regInfos7 : List RegInfo := [
  ⟨"ACT_COILT", 0x0D20C, 24, 6, 0x9B060000, 0xFF070000, 0x00000000, 0x00000000, 0x00000000⟩,
  ⟨"ACT_MEAS", 0x0D210, 24, 6, 0xFFFF0000, 0x00000000, 0x00000000, 0x00000000, 0x00000000⟩,
  ⟨"ACT_INJ", 0x0D214, 24, 6, 0x00000000, 0x00000000, 0x00000000, 0x00000000, 0x00000000⟩,
  ⟨"HS_CFG", 0x0D290, 8, 3, 0x0000FA00, 0x0000FFF1, 0x00000000, 0x00000000, 0x00000000⟩,
  ⟨"HS_STAT", 0x0D294, 8, 3, 0x00000000, 0x00000000, 0x00000000, 0x00000000, 0x00000000⟩,
  ⟨"IND_CFG", 0x0D2C0, 4, 1, 0x31FF0001, 0xFFFF0001, 0x00000000, 0x00000000, 0x00000000⟩,
  ⟨"IND_FSTAT", 0x0D2C4, 4, 1, 0x0FC00000, 0x00000000, 0x00000000, 0x00000000, 0x00000000⟩,
  ⟨"SHOT", 0x0D400, 4, 32, 0x00000000, 0x00FFFFFF, 0x00000000, 0x00000000, 0x00000000⟩,
  ⟨"SHOT", 0x0D480, 4, 32, 0x00000000, 0x00FFFFFF, 0x00000000, 0x00000000, 0x00000000⟩,
  ⟨"SHOT", 0x0D500, 4, 32, 0x00000000, 0x00FFFFFF, 0x00000000, 0x00000000, 0x00000000⟩,
  ⟨"SHOT", 0x0D580, 4, 32, 0x00000000, 0x00FFFFFF, 0x00000000, 0x00000000, 0x00000000⟩,
  ⟨"SHOT", 0x0D600, 4, 32, 0x00000000, 0x00FFFFFF, 0x00000000, 0x00000000, 0x00000000⟩,
  ⟨"SHOT", 0x0D680, 4, 32, 0x00000000, 0x00FFFFFF, 0x00000000, 0x00000000, 0x00000000⟩,
  ⟨"ACT_LAST", 0x0D800, 4, 6, 0x00000000, 0x00000000, 0x00000000, 0x00000000, 0x00000000⟩,
  ⟨"IND_NODE", 0x0E000, 4, 64, 0x00010000, 0x0000FFFF, 0x00000000, 0x00000000, 0x00000000⟩,
  ⟨"IND_LAST", 0x0E100, 4, 1, 0x00000000, 0x0000003F, 0x00000000, 0x00000000, 0x00000000⟩,
  ⟨"IND_LAST_STAT", 0x0E104, 4, 1, 0x00000000, 0x00000000, 0x00000000, 0x00000000, 0x00000000⟩,
  ⟨"ENG_STATE", 0x10000, 64, 1024, 0x00000000, 0x00000000, 0x00000000, 0x00000000, 0x00000000⟩,
  ⟨"ENG_STAT", 0x10004, 64, 1024, 0x00000000, 0x00000000, 0x00000000, 0xFFFFFFFF, 0x00000000⟩,
  ⟨"ENGP_IMG", 0x20000, 4, 768, 0x00000000, 0xFFFFFFFF, 0x00000000, 0x00000000, 0x00000000⟩,
  ⟨"ENGP_HDR", 0x21000, 4, 1, 0x00000000, 0x81FF03FF, 0x00000000, 0x00000000, 0x00000000⟩,
  ⟨"ENGP_CMD", 0x21F00, 4, 1, 0x00000000, 0x00000000, 0x00000000, 0x00000000, 0x00000003⟩,
  ⟨"ENGP_STATUS", 0x21F04, 4, 1, 0x00000000, 0x00000000, 0x00000040, 0x00000000, 0x00000000⟩,
  ⟨"ENGP_WORST", 0x21F08, 4, 1, 0x0000FFFF, 0x00000000, 0x00000000, 0x00000000, 0x00000000⟩,
  ⟨"ENGP_INFORCE", 0x21F0C, 4, 1, 0x000000D0, 0x00000000, 0x00000000, 0x00000000, 0x00000000⟩,
  ⟨"ENGP_CRC", 0x21F10, 4, 1, 0x00000000, 0x00000000, 0x00000000, 0x00000000, 0x00000000⟩,
  ⟨"ENGP_PEEK_CMD", 0x21F14, 4, 1, 0x00000000, 0x00000000, 0x00000000, 0x00000000, 0x000003FF⟩,
  ⟨"ENGP_PEEK", 0x22000, 4, 64, 0x00000000, 0x00000000, 0x00000000, 0x00000000, 0x00000000⟩,
  ⟨"AMAP_BIT", 0x30000, 4, 8192, 0x00000000, 0x00000000, 0x00000000, 0x00000000, 0x00000000⟩,
  ⟨"AMAP_INFO", 0x38000, 4, 1, 0x00000000, 0x00000000, 0x00000000, 0x00000000, 0x00000000⟩]
/-- The register map, part 8 (18_register_index.md R424). -/
def regInfos8 : List RegInfo := [
  ⟨"AMAP_SLATE", 0x38004, 4, 1, 0x00000000, 0x00000000, 0x00000000, 0x00000000, 0x00000000⟩,
  ⟨"MSIX_LO", 0x80000, 16, 256, 0x00000000, 0xFFFFFFFC, 0x00000000, 0x00000000, 0x00000000⟩,
  ⟨"MSIX_HI", 0x80004, 16, 256, 0x00000000, 0xFFFFFFFF, 0x00000000, 0x00000000, 0x00000000⟩,
  ⟨"MSIX_DATA", 0x80008, 16, 256, 0x00000000, 0xFFFFFFFF, 0x00000000, 0x00000000, 0x00000000⟩,
  ⟨"MSIX_CTRL", 0x8000C, 16, 256, 0x00000001, 0x00000001, 0x00000000, 0x00000000, 0x00000000⟩,
  ⟨"MSIX_PBA", 0x81000, 4, 8, 0x00000000, 0x00000000, 0x00000000, 0x00000000, 0x00000000⟩]
/-- Every register of BAR0 (R424). -/
def regInfos : List RegInfo :=
  regInfos1 ++ regInfos2 ++ regInfos3 ++ regInfos4 ++ regInfos5 ++ regInfos6 ++ regInfos7 ++ regInfos8

/-- The row that holds a byte address, if the address is that of a register. -/
def RegInfo.covers (r : RegInfo) (a : Nat) : Bool :=
  decide (r.base ≤ a) && decide (a < r.base + r.stride * r.count) && decide ((a - r.base) % r.stride = 0)

/-- The register map's row for a byte address; `none` for an unimplemented address (R420). PRESUMED, log 4. -/
def regInfo (a : Nat) : Option RegInfo := regInfos.find? (fun r => r.covers a)

end Sys2Proof.Machine
end

