-- ==== Sys2Proof/Machine/Bits.lean ====
section
/-! DEFINITION. Bit fields, signed and saturating arithmetic, and the three CRCs (00_scope.md R11 to R17). -/

namespace Sys2Proof.Machine

/-- Bits `hi` down to `lo` of a number. -/
def bitsN (x hi lo : Nat) : Nat := (x >>> lo) % 2 ^ (hi + 1 - lo)

/-- One bit of a number. -/
def bitN (x i : Nat) : Bool := x.testBit i

/-- 1 for true. -/
def b2n (b : Bool) : Nat := if b then 1 else 0

/-- Bits `hi` down to `lo` of a register. -/
def getBits (w : BitVec 32) (hi lo : Nat) : Nat := bitsN w.toNat hi lo

/-- The mask of bits `hi` down to `lo`. -/
def maskBits (hi lo : Nat) : BitVec 32 := BitVec.ofNat 32 ((2 ^ (hi + 1 - lo) - 1) <<< lo)

/-- Replace bits `hi` down to `lo` of a register; `v` is taken modulo the field's size. -/
def setBits (w : BitVec 32) (hi lo v : Nat) : BitVec 32 :=
  (w &&& ~~~ maskBits hi lo) ||| BitVec.ofNat 32 ((v % 2 ^ (hi + 1 - lo)) <<< lo)

/-- The signed value of an `n`-bit two's complement field (R14). -/
def sx (n x : Nat) : Int :=
  let y := x % 2 ^ n
  if y < 2 ^ (n - 1) then (y : Int) else (y : Int) - (2 ^ n : Nat)

/-- The `n`-bit two's complement encoding of a signed value (R14). -/
def ux (n : Nat) (i : Int) : Nat := (i % (2 ^ n : Nat)).toNat

/-- sat(x, lo, hi): clamp x into lo to hi. -/
def sat (x lo hi : Int) : Int := if x < lo then lo else if hi < x then hi else x

/-- Clamp a natural number from above. -/
def satN (x hi : Nat) : Nat := if hi < x then hi else x

/-- Integer division that truncates toward zero (00_scope.md, Pseudocode). -/
def tdiv (a b : Int) : Int := a.tdiv b

/-- Arithmetic shift right by `n`. -/
def asr (a : Int) (n : Nat) : Int := a / ((2 ^ n : Nat) : Int)

/-- The absolute difference of two numbers. -/
def absDiff (a b : Nat) : Nat := if a < b then b - a else a - b

/-- One reflected CRC-32 step over the bits of one byte. -/
def crc32Bits (c : BitVec 32) : Nat → BitVec 32
  | 0 => c
  | n + 1 => crc32Bits (if c.getLsbD 0 then (c >>> 1) ^^^ 0xEDB88320#32 else c >>> 1) n

/-- The CRC-32 register after a byte. -/
def crc32Step (c : BitVec 32) (b : BitVec 8) : BitVec 32 := crc32Bits (c ^^^ b.setWidth 32) 8

/-- CRC-32 of IEEE 802.3 over bytes in order (R17). -/
def crc32 (bs : List (BitVec 8)) : BitVec 32 := (bs.foldl crc32Step 0xFFFFFFFF#32) ^^^ 0xFFFFFFFF#32

/-- One CRC-16 bit step, polynomial 0x1021, not reflected. -/
def crc16Bits (c : BitVec 16) : Nat → BitVec 16
  | 0 => c
  | n + 1 => crc16Bits (if c.getLsbD 15 then (c <<< 1) ^^^ 0x1021#16 else c <<< 1) n

/-- CRC-16 of R87: polynomial 0x1021, initial value 0xFFFF, not reflected, no final exclusive-or (R17). -/
def crc16 (bs : List (BitVec 8)) : BitVec 16 :=
  bs.foldl (fun c b => crc16Bits (c ^^^ (b.setWidth 16).shiftLeft 8) 8) 0xFFFF#16

/-- One CRC-8 bit step, polynomial 0x2F, not reflected. -/
def crc8Bits (c : BitVec 8) : Nat → BitVec 8
  | 0 => c
  | n + 1 => crc8Bits (if c.getLsbD 7 then (c <<< 1) ^^^ 0x2F#8 else c <<< 1) n

/-- CRC-8 of R293: polynomial 0x2F, initial value 0xFF, most significant bit first, no final inversion. -/
def crc8 (bs : List (BitVec 8)) : BitVec 8 := bs.foldl (fun c b => crc8Bits (c ^^^ b) 8) 0xFF#8

/-- The bits of a set of numbers, as one number. -/
def bitsOf : List Nat → Nat
  | [] => 0
  | i :: r => 2 ^ i ||| bitsOf r

/-- The numbers below `n` whose bit is set in `x`, rising. -/
def onesBelow (n x : Nat) : List Nat := (List.range n).filter (fun i => x.testBit i)

/-- The number of one bits below bit `n`. -/
def popcount (n x : Nat) : Nat := (onesBelow n x).length

end Sys2Proof.Machine
end

