-- ==== Sys2Proof/Machine/Maps.lean ====
section
/-! DEFINITION. Sparse stores: lists of (key, value) pairs in one canonical form. Keys rise strictly and no
entry equals what an unlisted key reads as (`d k`), so that equal contents are equal data. Registers, memories
and the tables of units are held in this form. -/

namespace Sys2Proof.Machine

/-- The value listed under a key, if any. -/
def mfind {α : Type} : List (Nat × α) → Nat → Option α
  | [], _ => none
  | (k, v) :: r, a => if k = a then some v else mfind r a

/-- What key `a` reads as: the listed value, else the default `d a`. -/
def mget {α : Type} (d : Nat → α) (m : List (Nat × α)) (a : Nat) : α :=
  (mfind m a).getD (d a)

/-- List value `v` under key `a`, keeping the keys rising. -/
def mput {α : Type} : List (Nat × α) → Nat → α → List (Nat × α)
  | [], a, v => [(a, v)]
  | (k, w) :: r, a, v =>
    if a < k then (a, v) :: (k, w) :: r
    else if a = k then (a, v) :: r
    else (k, w) :: mput r a v

/-- Take key `a` off the list. -/
def mdrop {α : Type} (m : List (Nat × α)) (a : Nat) : List (Nat × α) := m.filter (fun x => x.1 != a)

/-- Write `v` at key `a`; a value equal to the default is not listed. -/
def mset {α : Type} [DecidableEq α] (d : Nat → α) (m : List (Nat × α)) (a : Nat) (v : α) : List (Nat × α) :=
  if v = d a then mdrop m a else mput m a v

/-- Change the value at one key. -/
def mmod {α : Type} [DecidableEq α] (d : Nat → α) (m : List (Nat × α)) (a : Nat) (f : α → α) :
    List (Nat × α) :=
  mset d m a (f (mget d m a))

/-- Write consecutive keys from `a`. -/
def msetList {α : Type} [DecidableEq α] (d : Nat → α) : List (Nat × α) → Nat → List α → List (Nat × α)
  | m, _, [] => m
  | m, a, v :: vs => msetList d (mset d m a v) (a + 1) vs

/-- The values of `n` consecutive keys from `a`. -/
def mgetList {α : Type} (d : Nat → α) (m : List (Nat × α)) (a : Nat) : Nat → List α
  | 0 => []
  | n + 1 => mget d m a :: mgetList d m (a + 1) n

/-- The store that holds `f k` for `n` consecutive keys from `a` and the default elsewhere. -/
def mbuildFrom {α : Type} [DecidableEq α] (d : Nat → α) (f : Nat → α) (a : Nat) : Nat → List (Nat × α)
  | 0 => []
  | n + 1 => if f a = d a then mbuildFrom d f (a + 1) n else (a, f a) :: mbuildFrom d f (a + 1) n

/-- The store that holds `f k` for each key below `n`. -/
def mbuild {α : Type} [DecidableEq α] (d : Nat → α) (n : Nat) (f : Nat → α) : List (Nat × α) :=
  mbuildFrom d f 0 n

/-- Change every key from `a` on, `n` of them; `m` is consumed from its front. -/
def mmapFrom {α : Type} [DecidableEq α] (d : Nat → α) (f : Nat → α → α) (m : List (Nat × α)) (a : Nat) :
    Nat → List (Nat × α)
  | 0 => m
  | n + 1 =>
    let v := f a (mget d (m.take 1) a)
    let rest := mmapFrom d f (if (mfind (m.take 1) a).isSome then m.drop 1 else m) (a + 1) n
    if v = d a then rest else (a, v) :: rest


/-- The canonical form, from a lower bound on the next key: keys rise strictly and no entry is a default. -/
def mwfFrom {α : Type} [DecidableEq α] (d : Nat → α) : Nat → List (Nat × α) → Bool
  | _, [] => true
  | b, (k, v) :: r => decide (b ≤ k) && decide (v ≠ d k) && mwfFrom d (k + 1) r

/-- The canonical form of a store. -/
def mwf {α : Type} [DecidableEq α] (d : Nat → α) (m : List (Nat × α)) : Bool := mwfFrom d 0 m

/-- Change every key below `n`: in one pass over a canonical store, key by key over any other. -/
def mmapAll {α : Type} [DecidableEq α] (d : Nat → α) (n : Nat) (f : Nat → α → α) (m : List (Nat × α)) :
    List (Nat × α) :=
  if mwf d m then mmapFrom d f m 0 n else mbuild d n (fun k => f k (mget d m k))

/-- The listed keys whose value has property `p`. -/
def mwhere {α : Type} [DecidableEq α] (d : Nat → α) (p : α → Bool) (m : List (Nat × α)) : List Nat :=
  if mwf d m then (m.filter (fun x => p x.2)).map (·.1) else (m.map (·.1)).filter (fun k => p (mget d m k))

/-! ### Byte memories -/

/-- What an unlisted byte reads as: the memory's fill byte. -/
def fillByte (b : BitVec 8) : Nat → BitVec 8 := fun _ => b

/-- One byte of a memory whose unlisted bytes read as `fill`. DESIGN CHOICE, log 7. -/
def rdByte (fill : BitVec 8) (m : List Host.Cell) (a : Nat) : BitVec 8 := mget (fillByte fill) m a

/-- Write one byte. -/
def wrByte (fill : BitVec 8) (m : List Host.Cell) (a : Nat) (v : BitVec 8) : List Host.Cell :=
  mset (fillByte fill) m a v

/-- `n` bytes from address `a`. -/
def rdBytes (fill : BitVec 8) (m : List Host.Cell) (a n : Nat) : List (BitVec 8) :=
  mgetList (fillByte fill) m a n

/-- Write bytes from address `a`. -/
def wrBytes (fill : BitVec 8) (m : List Host.Cell) (a : Nat) (bs : List (BitVec 8)) : List Host.Cell :=
  msetList (fillByte fill) m a bs

/-- The little-endian value of a list of bytes (00_scope.md R14). -/
def leNat : List (BitVec 8) → Nat
  | [] => 0
  | b :: r => b.toNat + 256 * leNat r

/-- The `n` little-endian bytes of a value (R14). -/
def leBytes : Nat → Nat → List (BitVec 8)
  | 0, _ => []
  | n + 1, x => BitVec.ofNat 8 x :: leBytes n (x / 256)

/-- The `n`-byte little-endian value at address `a`. -/
def rdLE (fill : BitVec 8) (m : List Host.Cell) (a n : Nat) : Nat := leNat (rdBytes fill m a n)

/-- Write an `n`-byte little-endian value at address `a`. -/
def wrLE (fill : BitVec 8) (m : List Host.Cell) (a n x : Nat) : List Host.Cell :=
  wrBytes fill m a (leBytes n x)

/-- The canonical form of a byte memory. -/
def Memory.wf (fill : BitVec 8) (m : List Host.Cell) : Bool := mwf (fillByte fill) m

end Sys2Proof.Machine
end

