-- ==== Sys2Proof/Machine/Regs.lean ====
section
/-! DEFINITION. Reset values of every register (00_scope.md R23 and the register tables), with those that
depend on the instance, and the power domain of an address (18_register_index.md R420). -/

namespace Sys2Proof.Machine

/-- The shot list of channel `n` at field power-up (13_actuators.md R330); steps after END hold 0. -/
def shotPowerUp (n : Nat) : List Nat :=
  if n ≤ 1 then [0x1005DC, 0x325845, 0x15E5DC, 0x2451F4, 0x600000]
  else if n ≤ 3 then [0x1003E8, 0x312C4A, 0x18A3E8, 0x25412C, 0x680000]
  else if n = 4 then [0x1000C8, 0x304B45, 0x1850C8, 0x24A050, 0x680000]
  else [0x600000]

/-- Whether a BAR0 byte address lies in the aux domain (R420). -/
def auxAddr (a : Nat) : Bool :=
  decide (a < 0x1000) || (decide (0x8000 ≤ a) && decide (a < 0xA000)) ||
  (decide (0xB000 ≤ a) && decide (a < 0xC000)) || (decide (0x30000 ≤ a) && decide (a < 0x39000))

/-- The reset value of the register at a BAR0 byte address (R23): the table's value, or the value its row gives
for the instance. Computed registers (GLB_ID, GLB_VARIANT, HERD_STATUS.POS) take their straps when read. DESIGN CHOICE, log 5. -/
def regReset (a : Nat) : BitVec 32 :=
  match regInfo a with
  | none => 0
  | some r =>
    let n := (a - r.base) / r.stride
    if r.base = 0x4010 then
      -- CAL_ANCHOR_n (06_calibration_cards.md R174)
      if n = 0 then 0x2222FB00#32 else if n = 1 then 0x22220280#32 else if n = 2 then 0x22220A00#32
      else 0x00001180#32
    else if r.base = 0x7100 then
      -- EVT_VEC_n: vector of source s is s (10_events_errors.md R266)
      BitVec.ofNat 32 ((4 * n) + (4 * n + 1) * 256 + (4 * n + 2) * 65536 + (4 * n + 3) * 16777216)
    else if r.base = 0xD204 then
      -- ACT_CFG_n (13_actuators.md R344): POLICY 0 on LS0 and LS1, 1 elsewhere; FOLLOW 1 on LS4
      r.reset ||| BitVec.ofNat 32 ((if n ≤ 1 then 0 else 2) + (if n = 4 then 16 else 0))
    else if r.base = 0xD208 then
      -- ACT_COILP_n (R344)
      if n ≤ 1 then 0x04B05028#32 else if n ≤ 3 then 0x09603C3C#32 else if n = 4 then 0x3A98961E#32 else 0#32
    else if r.base = 0xD290 then
      -- HS_CFG_m (R344): MODE 0 on HS0, 1 on HS1 and HS2
      r.reset ||| (if n = 0 then 0#32 else 1#32)
    else if 0xD400 ≤ r.base ∧ r.base < 0xD800 then
      -- SHOT_n_s (13_actuators.md R345): as R330
      BitVec.ofNat 32 ((shotPowerUp ((a - 0xD400) / 128)).getD (((a - 0xD400) % 128) / 4) 0)
    else r.reset

end Sys2Proof.Machine
end

