-- ==== Sys2Proof/Machine/State.lean ====
section
/-! DEFINITION. The state of the module as plain data. A register of BAR0 is held under its byte address in
`Dev.main` or `Dev.aux` (unlisted: its reset value); what the spec gives the machine beside its registers has a
typed home below. `Store` holds what survives the loss of every supply. -/

namespace Sys2Proof.Machine

/-- Why a command stopped the model: for no reason. Every command that the table lists has an effect in every state,
be it that the module drops it, so no meaning ends in a fault and the type has no constructor. Safe: no run ends here. -/
inductive Fault where
  deriving DecidableEq, Repr

/-- A command that the model does not take. -/
inductive Refusal where
  /-- The command has no meaning in the model yet: raised by the refused arms of `exec` alone. Safe. -/
  | notModelled (mnemonic : String)
  deriving DecidableEq, Repr

/-! ### Outputs and records -/

/-- A herd lane message (03_slate_and_herd.md R87), its payload as numbers in the order of R88. -/
structure HerdMsg where
  typ : Nat
  origin : Nat
  dest : Nat
  bcast : Bool
  seq : Nat
  payload : List Nat
  deriving DecidableEq, Repr

/-- What the module sends to the world outside it, in order. -/
inductive Out where
  /-- A posted write to host memory: address and bytes (09_host_rings.md). -/
  | hostWrite (addr : Nat) (bytes : List (BitVec 8))
  /-- An MSI-X message of a vector, with its address and data (10_events_errors.md R257). -/
  | msix (vector : Nat) (addr : Nat) (data : BitVec 32)
  /-- A herd lane message sent or forwarded (R88). -/
  | herd (m : HerdMsg)
  /-- A herd lane message of a reserved type, forwarded unchanged: its 24 bytes (R88). -/
  | herdRaw (bytes : List (BitVec 8))
  /-- CLAPPER driven low for this many microseconds (R83 to R85). -/
  | clapper (us : Nat)
  /-- The SLATE_OUT pulse; the flag is the active level (R77). -/
  | slateOut (activeHigh : Bool)
  /-- The reply shifted out on MP_SDO during a frame, most significant bit first, up to the quantities and bits that the
  frame clocks; MP_SDO carries 0 after it (11_management_port.md R276). -/
  | mpReply (nbits bits : Nat)
  /-- A memory read request on the link: address and length in bytes (R238). -/
  | hostRead (addr len : Nat)
  /-- A Completion with Unsupported Request status (R225). -/
  | unsupported
  /-- A Completion with Configuration Request Retry Status (R224). -/
  | retry
  /-- The value that a configuration read returns (R223). -/
  | cfgData (v : Nat)
  /-- The drive of an emitter line in its slot: for each sink the current in µA and its width from 2.0 µs on, in 62.5 ns
  steps, 968 for the whole drive window (14_emitters_indicators.md R348, R349). -/
  | emitterLine (line : Nat) (sinks : List (Nat × Nat))
  /-- All emitter lines and sinks are off (R347). -/
  | emittersOff
  /-- An indicator chain bit group on IND_OUT (14_emitters_indicators.md). -/
  | indFrame (words : List (BitVec 16))
  /-- A command sent to the flash: SPI mode, clock in MHz, opcode, address bytes, address, dummy clocks, data
  (17_flash_and_boot.md R404). -/
  | flashCmd (mode mhz op alen addr dummy : Nat) (data : List (BitVec 8))
  deriving DecidableEq, Repr

/-- A dailies entry (10_events_errors.md R262). -/
structure Daily where
  kind : Nat
  source : Nat
  seq : Nat
  slate : Nat
  timeLo : Nat
  payload : List Nat
  deriving DecidableEq, Repr

/-! ### Time and slates -/

/-- The slate timer, the slate number and module time (03_slate_and_herd.md R70 to R81). -/
structure Slate where
  /-- Timer running (R70). -/
  running : Bool := false
  /-- Elapsed 400 MHz ticks (2.5 ns) since the model's start; the model's own time base. DESIGN CHOICE, log 3. -/
  tick : Nat := 0
  /-- Row slots that have ended, over all slates (R71). -/
  slots : Nat := 0
  /-- Row slot of the slate. -/
  slot : Nat := 0
  /-- Ticks since the start of the row slot. -/
  slotTick : Nat := 0
  /-- SLATE_NO, 48 bits (R78). -/
  no : Nat := 0
  /-- Module time in units of 1/40,000,000 ns (R79); whole nanoseconds are its quotient by 40,000,000. -/
  mt : Nat := 0
  /-- SLATE_START, module time at slot 0 (R81). -/
  start : Nat := 0
  /-- The trim in force, signed 0.01 ppm (R79). -/
  trim : Int := 0
  /-- SLATE_CFG.SRC in force (R74). -/
  src : Nat := 0
  /-- Requested LOAD_TIME, STEP_TIME, LOAD_NO (R80). -/
  loadTime : Bool := false
  stepTime : Bool := false
  loadNo : Bool := false
  /-- The end of the slate is due: an edge, a timeout or the own timer ended the last blanking slot. -/
  endDue : Bool := false
  /-- An external edge has acted in this slate (R75). -/
  edgeUsed : Bool := false
  /-- An EARLY edge is latched (R75). -/
  early : Bool := false
  /-- The last blanking slot is held for an external edge (R76). -/
  held : Bool := false
  /-- An unlocked module saw an external edge and will hold its last blanking slot (R76). -/
  relock : Bool := false
  deriving DecidableEq, Repr

/-! ### Supplies, resets and the module state -/

/-- Supplies, pins, reset sources and holds (01_architecture.md R26 to R34, 17_flash_and_boot.md R412). DESIGN CHOICE, log 1. -/
structure Power where
  aux3v3 : Bool := true
  host12v : Bool := false
  vveh : Bool := false
  /-- PERST# is low. -/
  perst : Bool := true
  /-- POS[3:0] strap pins (19_electrical_mechanical.md R425, R426). DESIGN CHOICE, log 2, for the level at reset. -/
  pos : Nat := 0
  /-- Variant code of the assembly straps (18_register_index.md R421). DESIGN CHOICE, log 2, for the level at reset. -/
  strap : Nat := 1
  /-- Reset sources asserted, by their RST_CAUSE codes 1 to 5 (R412). -/
  sources : List Nat := []
  /-- Reset sources asserted since RESET was entered, for RST_CAUSE (R412). -/
  causes : List Nat := []
  /-- AUX_ONLY held with HOLD_CAUSE 0x11 (R34). -/
  critHold : Bool := false
  /-- In the hold: the hottest sensor has read below 95 degrees (R34). -/
  critCool : Bool := false
  /-- In the hold, after the sensor read below 95 °C: PERST# was asserted, and HOST_12V was lost. -/
  critPerst : Bool := false
  critLost : Bool := false
  /-- SAFE for a cause that lasts until RESET: image verification or a watchdog (R410, R412). -/
  stuck : Bool := false
  /-- BOOT has loaded a fallback value: source 3 is due on entry into IDLE or COLD_HOLD (10_events_errors.md R255). -/
  fallback : Bool := false
  /-- This BOOT has not yet copied the identity of FACT_TRIM (18_register_index.md R422). -/
  identOwed : Bool := false
  deriving DecidableEq, Repr

/-- The PCI Express link and the parts of configuration space that the module's behaviour rests on
(09_host_rings.md R222 to R226, R257). DESIGN CHOICE, log 1. -/
structure Link where
  up : Bool := false
  speed : Nat := 0
  width : Nat := 0
  busMaster : Bool := false
  d3hot : Bool := false
  /-- MSI-X enable of configuration space. PRESUMED, log 4. -/
  msixEnable : Bool := false
  functionMask : Bool := false
  /-- The address bits written to BAR0 to BAR3 (R223). DESIGN CHOICE, log 56, for their reset value. -/
  bars : List (BitVec 32) := [0, 0, 0, 0]
  deriving DecidableEq, Repr

/-! ### Focal plane -/

/-- A converter group beside its state in FPA_GRP_STATE (02_focal_plane.md R59 to R63). -/
structure Group where
  /-- Failure count (R61). -/
  fails : Nat := 0
  /-- State at the start of the slate, which its samples follow (R62). -/
  out : Nat := 0
  /-- Sums of the slate's blind samples of the A and B converters (R59). -/
  sumA : Nat := 0
  sumB : Nat := 0
  /-- Incomplete samples of the slate (R60 cause 0x4). -/
  inc : Nat := 0
  /-- Action written and not yet applied: 0 none, 1 RESET_GROUP, 2 DISABLE, 3 ENABLE (R63). -/
  act : Nat := 0
  deriving DecidableEq, Repr

/-- The focal plane beside its registers. -/
structure Fpa where
  groups : List (Nat × Group) := []
  /-- The full-array rate requested by the setting in force. -/
  req : Nat := 3
  /-- Low gain is the gain applied (R47, R57); a take's high gain stands apart (07_takes.md R181). -/
  low : Bool := false
  /-- Source 49 has been raised in this take (R67). -/
  announced : Bool := false
  /-- Samples with SAT and incomplete samples of the slate (R67, R68). -/
  sat : Nat := 0
  inc : Nat := 0
  deriving DecidableEq, Repr

/-! ### Column engines -/

/-- A loop under way in a column program (05_column_programs.md R138): body words `body` to `last`, `left` runs
still to come with the present one, of which those beyond `live` run as skipped words. -/
structure LoopFr where
  body : Nat
  last : Nat
  left : Nat
  live : Nat
  deriving DecidableEq, Repr

/-- A staged ledger entry (06_calibration_cards.md R158, R161). -/
structure LedgerEnt where
  slot : Nat
  /-- 1 WRITE, 2 MERGE, 3 TRIM_ADD. -/
  op : Nat
  value : BitVec 64
  fmask : Nat
  /-- A SCENE entry; otherwise a HOST entry. -/
  scene : Bool
  /-- In a set frozen for the commit under way (R165, R194). -/
  frozen : Bool
  deriving DecidableEq, Repr

/-- One column engine (04_column_engines.md, 05_column_programs.md). Its state word is ENG_STATE_e. DESIGN CHOICE, log 5. -/
structure Eng where
  /-- Card memory, slot to value (R97); an unlisted slot holds its seed value (R170). -/
  cards : List (Nat × BitVec 64) := []
  /-- Slots with a double-bit error (R99). -/
  badCards : List Nat := []
  /-- Data memory, 16 KiB (R98). -/
  data : List Host.Cell := []
  /-- Data words (byte address / 8) with an uncorrectable error. -/
  badData : List Nat := []
  /-- Program memory, word to value (R126). -/
  prog : List (Nat × BitVec 32) := []
  /-- V0 to V15, four lanes each: lane l of register r is key 4r + l; unlisted lanes hold 0 (R130). -/
  v : List (Nat × BitVec 32) := []
  /-- S0 to S7; unlisted ones hold 0. -/
  sc : List (Nat × BitVec 32) := []
  /-- P0 to P3, four bits each; unlisted ones hold 0. -/
  p : List (Nat × Nat) := []
  pc : Nat := 0
  loops : List LoopFr := []
  /-- Words below this one are skipped (SKIP). -/
  skipTo : Nat := 0
  inExt : Bool := false
  retPc : Nat := 0
  /-- Row slot of the row under way: dispatched and neither at YIELD nor at its deadline (R104). -/
  row : Option Nat := none
  /-- Sample words of the row last dispatched. -/
  words : List Nat := [0, 0, 0, 0]
  /-- An instruction of the row has been commanded, so the row runs instruction by instruction. -/
  touched : Bool := false
  /-- The row has completed YIELD. -/
  yielded : Bool := false
  /-- What the engine waits for: 0 nothing, 1 a left neighbour's value, 2 a right neighbour's, 3 YIELD. -/
  wait : Nat := 0
  /-- Field bits of the neighbour read that waits. -/
  waitF : BitVec 26 := 0
  /-- Left and right neighbour reads executed in this row (R136). -/
  nlefts : Nat := 0
  nrights : Nat := 0
  /-- The partner's partial of this row, which waits for this engine's own YIELD: rads and user cell count (R114, R137). -/
  inbox : Option (List Nat × Nat) := none
  /-- Values published in this row, by channel (R135). -/
  pubs : List (Nat × List (BitVec 32)) := []
  /-- Effects that await YIELD (R116): emitted lanes, cell and histogram values, user cell count. -/
  emC : Option (List Nat) := none
  emR : Option (List Nat) := none
  emMarks : List Nat := [0, 0, 0, 0]
  cacc : List (Nat × Nat) := []
  hadd : List (Nat × Int) := []
  ccnt : Option Nat := none
  /-- Bytes of the state area that the column program has stored to since the control cores last wrote it (R98, R107). -/
  own : List Nat := []
  /-- Sum and count of w2 over the slate's usable pixels, by region row (07_takes.md R185). -/
  rsum : List (Nat × (Int × Nat)) := []
  /-- Ledger, oldest entry first (R161). -/
  ledger : List LedgerEnt := []
  /-- Bulk load: being written; complete and awaiting commit; in the frozen set (R168, R172). -/
  bulkWriting : Bool := false
  bulkDone : Bool := false
  bulkFrozen : Bool := false
  /-- A BULK block was accepted after the freeze of the one that is frozen (R165, R168). -/
  bulkLater : Bool := false
  /-- A bulk load failed or is under way: SETTLING lasts until a later one is committed (R169). -/
  bulkOwed : Bool := false
  /-- Action written and not yet applied: RESTART (R106). -/
  restart : Bool := false
  /-- Drift values of the four lanes, q4, and the blind-row sums of the slate (R110). -/
  dtop : List Int := [0, 0, 0, 0]
  dprev : List Int := [0, 0, 0, 0]
  dbot : List Int := [0, 0, 0, 0]
  tsum : List Int := [0, 0, 0, 0]
  tcnt : List Nat := [0, 0, 0, 0]
  bsum : List Int := [0, 0, 0, 0]
  bcnt : List Nat := [0, 0, 0, 0]
  /-- Lanes whose rows carry DRIFT_HOLD (R110). -/
  hold : List Bool := [false, false, false, false]
  /-- Dprev takes Dtop when it is next formed (after IDLE to RUNNING and after RESTART). -/
  fresh : Bool := true
  /-- Scene-trim requests made in this slate (R112). -/
  reqs : Nat := 0
  /-- The engine missed the close of the slate and clears its records at the next slate (R121). -/
  closeMissed : Bool := false
  /-- Take work area (07_takes.md R184, R187, R188): sums, decided trim deltas, emitter counts and marks, by
  pixel 4r + l. -/
  wsum : List (Nat × Int) := []
  wmark : List (Nat × Nat) := []
  wdelta : List (Nat × Int) := []
  wcnt : List (Nat × Nat) := []
  deriving DecidableEq, Repr

/-- The inputs that the control cores latch into the engines at each slate boundary (R107), with the pipeline
settings in force for the slate. DESIGN CHOICE, log 5. -/
structure PerSlate where
  /-- Thermal-map snapshot of the 192 array sensors, 1/64 degree. -/
  snap : List Int := List.replicate 192 0
  kinv : Nat := 16384
  low : Bool := false
  anchors : List Int := [-1280, 640, 2560, 4480]
  rspan : List Nat := [8738, 8738, 8738]
  /-- Regional gain table in force, 192 entries. -/
  rg : List Nat := List.replicate 192 16384
  /-- Scene-trim gate bits, one per region. -/
  gates : Nat := 0
  level : Nat := 8192
  driftEn : Bool := true
  stEn : Bool := false
  radEn : Bool := false
  rawEn : Bool := false
  corrEn : Bool := true
  deriving DecidableEq, Repr

/-- One row as the band packer receives it (R118, R119). -/
structure RowOut where
  row : Nat
  corr : List Nat
  raw : List Nat
  rad : List Nat
  deriving DecidableEq, Repr

/-- The band packer: the rows of the band being collected, the frame's counts and histogram (R119, R120), and the
seam sums (03_slate_and_herd.md R90). DESIGN CHOICE, log 5. -/
structure Pack where
  band : List RowOut := []
  bandNo : Nat := 0
  status : List (BitVec 32) := []
  lateRows : Nat := 0
  extrap : Nat := 0
  replaced : Nat := 0
  novalue : Nat := 0
  hist : List (Nat × Nat) := []
  /-- Condition of engine e during the slate: 0 RUNNING, 1 SETTLING, 2 FAULTED. -/
  cond : List (Nat × Nat) := []
  /-- Sum and count of the left, right, top and bottom strips. -/
  seam : List (Nat × Nat) := [(0, 0), (0, 0), (0, 0), (0, 0)]
  deriving DecidableEq, Repr

/-- A cell record as an engine hands it over at frame close (04_column_engines.md R114, R121). -/
structure CellRec where
  max : Nat := 0
  min : Nat := 0xFFFF
  sum : Nat := 0
  count : Nat := 0
  above : Nat := 0
  deriving DecidableEq, Repr

/-- Regional means (07_takes.md R185): M(n) in q4 with whether it has ever been formed, and the value before. DESIGN CHOICE, log 5. -/
structure Region where
  m : Int := 0
  ok : Bool := false
  mPrev : Int := 0
  deriving DecidableEq, Repr

/-- The engines, the control cores' copies for them and the packer. DESIGN CHOICE, log 5. -/
structure Engines where
  engs : List (Nat × Eng) := []
  per : PerSlate := {}
  /-- Rows read in the slots before: the row slot and the words handed over (R49, R50). -/
  words : List Nat := []
  /-- Regional means. -/
  regions : List (Nat × Region) := []
  /-- Control cores' radiometric tables for high and low gain, if loaded (08_cell_watch.md R202). -/
  radHigh : Option (List Nat) := none
  radLow : Option (List Nat) := none
  /-- Tag of the table written in the engines: 0 none, 1 high, 2 low (R203). -/
  radTag : Nat := 0
  /-- Tag that comes into force at the next slate. -/
  radNext : Nat := 0
  /-- Standard program words as loaded from flash (05_column_programs.md R126). -/
  stdProg : List (BitVec 32) := []
  /-- Extension words in force, CCLR in force (R145, R146). -/
  ext : List (BitVec 32) := []
  cclr : Bool := false
  /-- Copy under test: words, header; kind 0 none, 1 CHECK, 2 LOAD, 3 REMOVE (R144). -/
  copyW : List (BitVec 32) := []
  copyH : BitVec 32 := 0
  copyKind : Nat := 0
  /-- Engine whose user area is to be copied, and whether the slate of the copy has come (R147). -/
  peek : Option (Nat × Bool) := none
  pack : Pack := {}
  /-- Cell records handed over at this slate's frame close, by 256 x engine + record; engines that missed it. -/
  handed : List (Nat × CellRec) := []
  missed : List Nat := []
  /-- That frame close was one of a take slate, in which the user areas are kept (07_takes.md R184). -/
  closeWork : Bool := false
  deriving DecidableEq, Repr

/-! ### Cell watch (08_cell_watch.md) -/

/-- What the cell watch keeps of one cell (R208, R210). -/
structure Cell where
  /-- 0 NORMAL, 1 WARN, 2 ALARM. -/
  st : Nat := 0
  p : Nat := 0
  /-- Direction of the count: up. -/
  up : Bool := false
  ref : Int := 0
  rv : Bool := false
  age : Nat := 0
  rise : Int := 0
  /-- A release acts at the next evaluation (R210). -/
  rel : Bool := false
  deriving DecidableEq, Repr

/-- The cell watch beside its registers and the alarm map. DESIGN CHOICE, log 5. -/
structure CellWatch where
  cells : List (Nat × Cell) := []
  /-- Cell map: the bank in force and the staged bank (R204). -/
  mapIn : List (Nat × BitVec 32) := []
  mapSt : List (Nat × BitVec 32) := []
  /-- An APPLY awaits blanking slot 28. -/
  apply : Bool := false
  /-- Zone class words in force for the evaluation, by 3 x class + word (R205). -/
  zones : List (Nat × BitVec 32) := []
  /-- Releases written since blanking slot 4: cells, or all (R210). -/
  acks : List Nat := []
  ackAll : Bool := false
  /-- Cells whose rise window restarts at the next boundary (R209). -/
  rvAll : Bool := false
  rvSome : List Nat := []
  /-- Records waiting for the ring writer: ring and bytes (R213). -/
  queue : List (Nat × List (BitVec 8)) := []
  /-- Staged radiometric entries, and the command being carried out (R202). -/
  rtStage : List (Nat × Nat) := []
  rtAction : Option Nat := none
  /-- A copy has changed since the engines' tables were written (R203). -/
  rtDirty : Bool := false
  deriving DecidableEq, Repr

/-! ### Cards and commits -/

/-- A command whose completion is still to be written: its ring, descriptor position, FLAGS, TAG, OP and the words of
a REFUSAL (09_host_rings.md R246 to R248). -/
structure CmdRef where
  ring : Nat
  pos : Nat
  flags : Nat
  tag : Nat
  op : Nat
  target : Nat
  genCarried : Nat
  /-- The ring's enabling in which it was accepted (R233). -/
  epoch : Nat := 0
  deriving DecidableEq, Repr

/-- A descriptor that the module has read and not completed: its position modulo 2N and the host's fields
(09_host_rings.md R230, R237). -/
structure Desc where
  pos : Nat
  addr : Nat
  len : Nat
  flags : Nat
  tag : Nat
  deriving DecidableEq, Repr

/-- A card-load descriptor under way (06_calibration_cards.md R157 to R162, R168, R169): its ring, the bytes from the
next block on, the bytes that stand, what it waits for (0 nothing, 1 ledger room, 2 the end of a take, 3 a BULK block
being written) and, for a BULK block, how many slots its payload read brought. -/
structure CardJob where
  ring : Nat
  desc : Desc
  rest : List (BitVec 8)
  done : Nat
  wait : Nat
  slots : Nat
  /-- The generation that the block at the front carries has been compared (10_events_errors.md R265). -/
  compared : Bool := false
  deriving DecidableEq, Repr

/-! ### Rings (09_host_rings.md) -/

/-- The descriptor that a device-to-host ring is filling: bytes used, first band or piece number, whether the status
block is in it, the slate of its content, and for a window the first 16 bytes of its piece header. -/
structure Cur where
  desc : Desc
  used : Nat
  band : Nat
  status : Bool
  slate : Nat
  hd : List (BitVec 8)
  deriving DecidableEq, Repr

/-- Writes handed to the ring writer and not yet issued whole (R73, R242): the descriptor, where they go, the bytes,
the band they belong to, and the completion that follows them: PART and DONE_LEN. -/
structure Job where
  desc : Desc
  off : Nat
  bytes : List (BitVec 8)
  band : Nat
  part : Nat
  doneLen : Nat
  closes : Bool
  slate : Nat
  /-- The count of row slots at which its deadline has passed (R71). -/
  due : Nat
  /-- Frame: the room that the piece after it wants, 0 for none. Window: its first row, and the row after the window's
  last, with the first 16 bytes of the piece header (R242 to R244). -/
  need : Nat := 0
  row : Nat := 0
  wend : Nat := 0
  hd : List (BitVec 8) := []
  /-- It is the first piece of its frame, which a descriptor with FRAME_START serves (R243). -/
  first : Bool := false
  /-- DONE_STATUS with which the piece completes its descriptor: 1, or that of a descriptor that failed its checks. -/
  status : Nat := 1
  deriving DecidableEq, Repr

/-- A ring: the RW words of its context, its state word, indices, and what is under way on it (R227 to R230). -/
structure Ring where
  w0 : BitVec 32 := 0
  w1 : BitVec 32 := 0
  w2 : BitVec 32 := 0
  w5 : BitVec 32 := 0
  w6 : BitVec 32 := 0
  w7 : BitVec 32 := 0
  /-- 0 DISABLED, 1 ENABLED, 2 PAUSED, 3 ERROR. -/
  st : Nat := 0
  gen : Nat := 0
  err : Nat := 0
  pidx : Nat := 0
  pwrap : Nat := 0
  cidx : Nat := 0
  cwrap : Nat := 0
  /-- Position of the next descriptor to read. -/
  tpos : Nat := 0
  /-- Positions completed ahead of CIDX (R248). -/
  done : List Nat := []
  /-- Descriptors read and not yet used. -/
  usable : List Desc := []
  /-- How often the ring has been enabled: which of its times a waiting command belongs to (R233). -/
  epoch : Nat := 0
  cur : Option Cur := none
  jobs : List Job := []
  /-- Number of the next piece of the frame (window rings). -/
  piece : Nat := 0
  /-- Completions since the last message (R251). -/
  since : Nat := 0
  dropped : Nat := 0
  overflow : Nat := 0
  deriving DecidableEq, Repr

/-- A completion that waits because no memory request may be issued (R226). -/
structure HeldDone where
  ring : Nat
  desc : Desc
  status : Nat
  doneLen : Nat
  part : Nat
  slate : Nat
  /-- The piece header of a window, written before the completion (R244). -/
  hd : List (BitVec 8) := []
  deriving DecidableEq, Repr

/-- The rings and the RING window's action in progress: action code, ring, and RING_CTX as it stood at the write (R231). -/
structure Rings where
  tab : List (Nat × Ring) := []
  held : List HeldDone := []
  action : Option (Nat × Nat × List (BitVec 32)) := none
  deriving DecidableEq, Repr

/-- A state transition that waits for the slate boundary (01_architecture.md R33, R38), with the command that
asked for it: 1 START, 2 STOP, 3 RESUME, 4 the end of BOOT, 5 the cold limit, 6 the end of warm-up. -/
structure Waiting where
  kind : Nat
  cmd : Option CmdRef
  deriving DecidableEq, Repr

/-- Host and scene-trim commits (06_calibration_cards.md R165, R194). -/
structure Cal where
  /-- Commands accepted that wait for the freeze. -/
  waiting : List CmdRef := []
  /-- Commands whose set is frozen and not yet in force. -/
  frozen : List CmdRef := []
  /-- A set is frozen: a host commit, a scene-trim commit; the regional gain table is part of it. -/
  hostFrozen : Bool := false
  sceneFrozen : Bool := false
  rgFrozen : Bool := false
  /-- The frozen set has been applied and is in force at the next boundary. -/
  applied : Bool := false
  /-- Regional gain table copied, in force from the next slate. -/
  rgNext : Option (List Nat) := none
  jobs : List CardJob := []
  /-- Engines whose bulk load the frozen set holds (CAL_LAST_COMMIT.BULK). -/
  bulkCount : Nat := 0
  /-- A card read in progress: the written CAL_RD_CMD (R172). -/
  rd : Option (BitVec 32) := none
  /-- CAL_RD_DATA holds card slots of 64 bits, from a CARDS read, in pairs of words. -/
  rdCards : Bool := false
  deriving DecidableEq, Repr

/-! ### The herd (03_slate_and_herd.md R82 to R90) -/

/-- A member as its ROSTER messages show it: slates of its own since the last one, TAKE flag, TICKS x NSLOTS, and ticks of
the next slate of its own gone by. -/
structure Member where
  age : Nat
  taking : Bool
  period : Nat
  part : Nat := 0
  deriving DecidableEq, Repr

/-- A take request of this member that awaits its answer: HOST with its command, or an automatic trigger; requested
mode, trigger, own slates waited (R89). -/
structure HerdReq where
  mode : Nat
  trigger : Nat
  cmd : Option CmdRef
  age : Nat
  deriving DecidableEq, Repr

/-- An election under way: the next bit cell, whether this module drives its bits, and the position bits sampled (R85). -/
structure Election where
  cell : Nat
  stays : Bool
  won : Nat
  deriving DecidableEq, Repr

/-- The herd beside its registers. -/
structure HerdCtl where
  /-- HERD_CFG in force (R93). -/
  cfg : BitVec 32 := 0x00010000#32
  seq : Nat := 0
  members : List (Nat × Member) := []
  /-- Own slates listened since ENABLE was set; a leader's position seen since. -/
  listen : Nat := 0
  leader : Option Nat := none
  elect : Option Election := none
  /-- The step in ns that TIME_FOLLOW applies at the next boundary (R88). -/
  step : Int := 0
  /-- The leader's slate number at its last slate edge, as SLATE_INFO and the edges since give it (R78, R86). -/
  number : Option Nat := none
  req : Option HerdReq := none
  /-- Leader: granted start slate of each member whose TAKE_DONE has not arrived, queued AUTO requests with the slates that
  each has waited, the position after which the schedule goes on, and the slates since its last grant or skip (R89). -/
  blind : List (Nat × Nat) := []
  queue : List (Nat × Nat) := []
  sched : Nat := 15
  schedAge : Nat := 0
  /-- TAKE_DONE to be sent from this slate on: slate, abandoned. -/
  done : Option (Nat × Bool) := none
  /-- The leader that a module which has left its herd owes the TAKE_DONE of its take in progress (R93). -/
  doneTo : Option Nat := none
  /-- Slate number, 48 bits, of this module's seam means (R88, R90). -/
  seamNo : Nat := 0
  /-- Bad CRCs of the slate (R91). -/
  crcs : Nat := 0
  deriving DecidableEq, Repr

/-! ### Takes and scene trim -/

/-- A take accepted and waiting for its start slate (07_takes.md R178). -/
structure TakeNext where
  /-- The mode resolved, and the mode requested (R177, R197). -/
  mode : Nat
  req : Nat
  trigger : Nat
  s : Nat
  deriving DecidableEq, Repr

/-- The registers that a take latches at S (R200). -/
structure TakeLatch where
  settle : Nat := 2
  outUncal : Bool := false
  jump : Nat := 40
  rgStep : Nat := 20
  gsTol : Nat := 64
  spread : Nat := 200
  drift : Nat := 32
  dsel : Nat := 2
  step : Nat := 8
  deriving DecidableEq, Repr

/-- The takes logic (07_takes.md). PHASE, SHUTTER and MODE are fields of TAKE_STATUS. -/
structure Take where
  /-- TAKE_CFG, LIM, LIM2, EMIT, ST and ST_LIFE in force (R200). -/
  cfg : List (BitVec 32) := [0x012C1E24#32, 0x20281440#32, 0x00C82000#32, 0x00000002#32, 0x403C1008#32, 0x00000078#32]
  next : Option TakeNext := none
  /-- Resolved mode, trigger and start slate of the take in progress. -/
  mode : Nat := 0
  trigger : Nat := 0
  s : Nat := 0
  lat : TakeLatch := {}
  /-- Slates still to run in the phase, the present one included. -/
  left : Nat := 0
  /-- Slates occupied so far. -/
  slates : Nat := 0
  /-- Abandonment cause; 0 for none. -/
  cause : Nat := 0
  /-- The take ends at the next boundary: FIELD, a failed open, STOP. -/
  endNow : Bool := false
  /-- The last slate's work has been done. -/
  worked : Bool := false
  /-- Snapshot mean at S (R190). -/
  meanS : Int := 0
  /-- Sums over the OFFSET slates and the counted EMIT slates, per region, with their numbers (R188, R189). -/
  offSum : List (Nat × Int) := []
  offN : Nat := 0
  emitSum : List (Nat × Int) := []
  emitN : Nat := 0
  /-- New gains staged by the take, and regions rejected (R189, R192, R195). -/
  gains : List (Nat × Nat) := []
  rejected : List Nat := []
  /-- TAKE_LAST.CAUSE of a take that is not abandoned: 8, 9 or 11. -/
  why : Nat := 0
  /-- Counts of the take record (R197). -/
  trimChanged : Nat := 0
  newRepl : Nat := 0
  newSusp : Nat := 0
  maxSpread : Nat := 0
  maxDelta : Nat := 0
  committed : Bool := false
  /-- Shutter request under way: 0 none, 1 close, 2 open; its sequence has ended OK in this slate. -/
  shReq : Nat := 0
  shEnded : Bool := false
  /-- The last position that the shutter's sequences gave, and whether LS0 and LS1 are known to move (R181; 13_actuators.md
  R342). -/
  shPos : Nat := 3
  shMove : Bool × Bool := (false, false)
  /-- The open that STOP requests is under way (01_architecture.md R35). -/
  stopOpen : Bool := false
  /-- A SHUTTERLESS or depot take that SAFE has abandoned ends at the coming boundary (R190). -/
  ending : Bool := false
  /-- The open of R182 on entry into LIVE is under way. -/
  liveOpen : Bool := false
  /-- That open has ended; its slate goes on. -/
  liveEnded : Bool := false
  /-- Blocks of a SHUTTERLESS take: slates per block, block number, slate within it; measured means (R192). -/
  blockLen : Nat := 2
  block : Nat := 0
  inBlock : Nat := 0
  meas : List (List Int) := []
  /-- Depot L(n), the time it was recorded, the settings it holds for, the snapshot mean (R195). -/
  depL : List Int := []
  depTime : Nat := 0
  depSet : List Nat := []
  depMean : Int := 0
  /-- Takes since reset (R197). -/
  seq : Nat := 0
  /-- The MIN_GAP hold is on; an interval has passed and its trigger stands (R175, R176). -/
  hold : Bool := false
  due : Bool := false
  /-- The map reference (R175). -/
  mapRef : List Int := []
  /-- Slates since the end of the last take, saturating (R193). -/
  sinceEnd : Nat := 65535
  /-- Slates since the last write of TAKE_STGATE; `none` when never written or lapsed (R193). -/
  gateAge : Option Nat := none
  /-- D(n), and F(n) of each drive code; the drive codes taken from the field record (R195, R196). -/
  depD : List Nat := []
  eref : List (List Nat) := []
  erefField : Nat := 0
  deriving DecidableEq, Repr

/-! ### The crossing (12_field_side.md) -/

/-- A crossing message without its CRC (R293): TYPE, SEQ and the 47 payload bits. -/
structure XMsg where
  typ : Nat
  seq : Nat
  p : Nat
  deriving DecidableEq, Repr

/-- A queued message: TYPE, payload, and a TAG whose ACK OK is queued once the message is sent (R309). -/
structure XItem where
  typ : Nat
  p : Nat
  ack : Option Nat
  deriving DecidableEq, Repr

/-- The sending side of one end (R296): messages queued, the one being sent, and the next SEQ. DESIGN CHOICE, log 39. -/
structure XTx where
  queue : List XItem := []
  cur : Option (XItem × Nat) := none
  seq : Nat := 0
  deriving DecidableEq, Repr

/-- What the answer to a tagged message acts on (R304). -/
inductive XAct where
  /-- MIRROR_REQ and SHOT_RD. -/
  | plain
  /-- A command: its descriptor, and the channel and ACTION of an ACT_CMD (8 for none). -/
  | cmd (c : CmdRef) (ch action : Nat)
  /-- The take logic's shutter request: close, or open. -/
  | shutter (close : Bool)
  /-- REG_WR and SHOT_WR: BAR0 address and value (R308, R345). -/
  | regWr (addr value : Nat)
  | shotWr (addr value : Nat)
  /-- IND_DATA of an INDICATOR command, while it has not failed, its node, and the payload of the IND_LATCH that
  follows; IND_LATCH (R356). -/
  | indData (c : Option CmdRef) (node latch : Nat)
  | indLatch (c : CmdRef)
  deriving DecidableEq, Repr

/-- A message awaiting its answer (R305): TAG, TYPE, payload, sendings so far. -/
structure XPend where
  tag : Nat
  typ : Nat
  p : Nat
  /-- Times sent; 0 while an earlier write of the same register is unanswered (R308). -/
  tries : Nat
  act : XAct
  deriving DecidableEq, Repr

/-- The host end of the crossing beside its registers. -/
structure XHost where
  /-- The control cores have started the heartbeats (17_flash_and_boot.md R416). -/
  on : Bool := false
  tx : XTx := {}
  /-- Messages on their way from the field side. -/
  wire : List XMsg := []
  /-- SEQ of the last valid message, and the run of consecutive ones (R297). -/
  rxSeq : Option Nat := none
  run : Nat := 0
  /-- Messages that await an answer, and the next TAG. -/
  pend : List XPend := []
  tag : Nat := 0
  /-- Field companion GEN seen last, and GBASE (R302). -/
  seen : Option Nat := none
  gbase : Nat := 0
  /-- MODE, INHIBIT and PLAUS_FAULT as HBEAT_F or FIELD_EVENT last gave them; as FIELD_EVENT last gave them. -/
  inh : Bool := false
  told : Option (Nat × Bool × Bool) := none
  /-- What HBEAT_F has shown of them since that FIELD_EVENT. -/
  since : Option (Nat × Bool × Bool) := none
  /-- FT and time of receipt of the last HBEAT_F (R317). -/
  beat : Option (Nat × Nat) := none
  /-- TAG and tick of the ECHO_REQ under way. -/
  echo : Option (Nat × Nat) := none
  /-- GEN and tick of receipt of each mirror (R307). -/
  mir : List (Nat × (Nat × Nat)) := []
  deriving DecidableEq, Repr

/-! ### The field companion -/

/-- An injected conversion requested of a converter (R314): actuator channel, housekeeping channel, LATE, and whether
it serves a shot-list step and a resistance measurement. -/
structure HkInj where
  chan : Nat
  ch : Nat
  late : Bool
  shot : Bool
  /-- A step waits for the result (R327). -/
  wait : Bool
  meas : Bool
  deriving DecidableEq, Repr

/-- A housekeeping converter (R311 to R315). -/
structure HkConv where
  /-- 0 idle, 1 converting, 2 in the open-wire wait, 3 calibrating. -/
  busy : Nat := 0
  ch : Nat := 0
  ow : Bool := false
  inj : Option HkInj := none
  /-- Channels still to convert in the scan. -/
  rest : List Nat := []
  pend : List HkInj := []
  cal : Bool := false
  /-- It calibrated in this scan; its result of the shared channel in this scan. -/
  called : Bool := false
  shared : Option Nat := none
  deriving DecidableEq, Repr

/-- Housekeeping beside its registers. -/
structure Hk where
  a : HkConv := {}
  b : HkConv := {}
  scanning : Bool := false
  /-- Shared channel of the scan, and whether the scan adds open-wire tests. -/
  shCh : Nat := 23
  test : Bool := false
  /-- Scans since the last open-wire tests (R313). -/
  div : Nat := 0
  /-- Consecutive passing and failing scans (R312). -/
  pass : Nat := 0
  fail : Nat := 0
  /-- Buffer entries as HK_RESULT payloads, oldest first (R316); a run of drops is on. -/
  buf : List Nat := []
  ovr : Bool := false
  /-- Last normal or injected result of each channel, whatever DEST. -/
  last : List (Nat × Nat) := []
  deriving DecidableEq, Repr

/-- A low-side channel (13_actuators.md R326 to R337). -/
structure Chan where
  st : Nat := 0
  gen : Nat := 0
  cause : Nat := 0
  step : Nat := 0
  req : Nat := 0
  /-- A RUN is held: its tick and its place in the order of acceptance. -/
  held : Bool := false
  heldAt : Nat := 0
  heldNo : Nat := 0
  /-- The held start is FAIL_NORMAL's own (R339). -/
  auto : Bool := false
  /-- Private copy of the list (R329); the step at STEP is due to start. -/
  list : List Nat := []
  due : Bool := false
  /-- PWM periods left of the step under way; the LOOP under way and its runs left. -/
  left : Nat := 0
  loop : Option (Nat × Nat) := none
  /-- Target in mA, and whether the step has reported CLIPPED (R333). -/
  target : Nat := 0
  clip : Bool := false
  /-- The PWM period in which the sequence started (R333). -/
  startPer : Nat := 0
  /-- Outcome of the sequence in DECAY, and whether DECAY ends a sequence. -/
  oc : Nat := 0
  ends : Bool := false
  /-- Largest current of the sequence, in 62.5 µA. -/
  peak : Nat := 0
  /-- An INJECT step waits for its result; the result is in. -/
  wait : Bool := false
  got : Bool := false
  /-- Duties of the step's last millisecond, latest first, of 65,536 (R335). -/
  duties : List Nat := []
  /-- Resistance measurement: mean duty, current and voltage results with their PLAUS flags, step. -/
  meas : Option (Rat × Nat) := none
  measI : Option (Nat × Bool) := none
  measV : Option (Nat × Bool) := none
  /-- Current summed over the millisecond, in 62.5 µA, and its periods (R334). -/
  isum : Nat := 0
  icnt : Nat := 0
  /-- Winding temperature; `none` before the first scan gives the ambient. -/
  theta : Option Rat := none
  deriving DecidableEq, Repr

/-- A queued indicator frame: that of field SAFE, the table on leaving field SAFE, and that of an IND_LATCH, the one that
a later IND_LATCH replaces; with LAST (14_emitters_indicators.md R357, R359). -/
inductive IndItem where
  | safe
  | table (last : Nat)
  | latch (last : Nat)
  deriving DecidableEq, Repr

/-- An indicator frame (14_emitters_indicators.md R354, R357, R359): its words, the field SAFE frame or not, and the
tick of its start. -/
structure IndFrame where
  words : List Nat
  safe : Bool
  start : Nat
  deriving DecidableEq, Repr

/-- The field companion (12_field_side.md, 13_actuators.md, 14_emitters_indicators.md). Its registers are held under
the BAR0 addresses of their mirrors. -/
structure Field where
  on : Bool := false
  /-- Tick at which FT was 0. -/
  t0 : Nat := 0
  regs : List (Nat × BitVec 32) := []
  /-- 0 SAFE, 1 RUN. -/
  mode : Nat := 0
  cause : Nat := 1
  inh : Bool := false
  plaus : Bool := false
  gen : Nat := 0
  fresh : Bool := true
  /-- VVEH_LOW and DIE_TEMP hold (R299, R301). -/
  low : Bool := false
  die : Bool := false
  tx : XTx := {}
  /-- Messages on their way from the host end. -/
  wire : List XMsg := []
  /-- The last 16 TAGs acted on, latest first, with the status and GEN first sent (R305). -/
  tags : List (Nat × Nat × Nat) := []
  /-- Value and GEN of each register as last sent (R309). -/
  sent : List (Nat × (Nat × Nat)) := []
  /-- Relay request taken last (R338, R339). -/
  rq : Option Bool := none
  hk : Hk := {}
  chans : List (Nat × Chan) := []
  /-- Shot lists, by 32 x channel + step (R327). -/
  lists : List (Nat × Nat) := []
  /-- PAR in force on the pairs (R323). -/
  par : List Bool := [false, false, false]
  /-- PWM periods since each switch turned on (R322). -/
  hsAge : List Nat := [0, 0, 0]
  /-- RUNs held so far, and PWM periods so far (R332, R333). -/
  count : Nat := 0
  period : Nat := 0
  /-- Indicator table, the frame being sent, frames queued, LAST of the last accepted IND_LATCH (R357, R359). -/
  table : List (Nat × Nat) := []
  frame : Option IndFrame := none
  queue : List IndItem := []
  latch : Option Nat := none
  deriving DecidableEq, Repr

/-! ### The emitter matrix (14_emitters_indicators.md) -/

/-- An emitter: fault state 0 OK, 1 OPEN, 2 SHORT; consecutive failing and passing scans (R350). -/
structure Emitter where
  st : Nat := 0
  fail : Nat := 0
  pass : Nat := 0
  deriving DecidableEq, Repr

/-- The matrix driver beside its registers. -/
structure Emt where
  /-- Line of the scan under way. -/
  line : Option Nat := none
  /-- Owner and take code due from the last slate boundary (R353). -/
  due : Nat := 0
  dueCode : Nat := 0
  /-- Codes of the scan under way, and the pattern in force. -/
  codes : List (Nat × Nat) := []
  pat : List (Nat × Nat) := []
  ems : List (Nat × Emitter) := []
  /-- Lines and sinks of which every emitter is OPEN (R360). -/
  full : List Nat := []
  deriving DecidableEq, Repr

/-! ### Nonvolatile store control (16_nonvolatile_store.md) -/

/-- A command or record write of the store under way (R385 to R389): the ACTION of NVS_CMD, 8 for the module's own write
of FIELD_REF; its operands; its request number; what is to be written; the phase (0 reading, 1 writing, 2 reading back)
and the next page of it; the bytes read in the phase, the uncorrectable groups among them; the copy to be written. -/
structure NvsJob where
  act : Nat
  page : Nat := 0
  off : Nat := 0
  len : Nat := 0
  id : Nat := 0
  region : Nat := 0
  kind : Nat := 0
  no : Nat := 0
  data : List (BitVec 8) := []
  phase : Nat := 0
  next : Nat := 0
  acc : List (BitVec 8) := []
  bad : List Nat := []
  copy : Nat := 0
  deriving DecidableEq, Repr

/-- The page operation in progress (R398): an increment of counter `k` by `n`, the next page of the command or of the
module's record write, a scrub read, the rewriting of a page's weak groups. -/
inductive NvsOp where
  | count (k n : Nat)
  | host
  | own
  | scrub (page : Nat)
  | rewrite (page : Nat) (groups : List Nat)
  deriving DecidableEq, Repr

/-- What DEPOT_REF writes into FIELD_REF (07_takes.md R196): R(n) of the drive, DSEL, regional gain table, module time. -/
structure RefReq where
  f : List Nat
  k : Nat
  table : List Nat
  time : Nat
  deriving DecidableEq, Repr

/-- The store's controller beside its registers. -/
structure NvsCtl where
  /-- Increments requested and not yet being written, by counter, in order of request (R394, R396, R399). -/
  held : List (Nat × Nat) := []
  /-- The cell that holds each counter's value (R395). -/
  cells : List (Option Nat) := List.replicate 16 none
  /-- Read and write password of the factory, integrator and operator regions (R392). -/
  keys : List (Nat × Nat) := [(0, 0), (0, 0), (0, 0)]
  /-- A command written before READY, or an UNLOCK before the key records have been read (R384, R393). -/
  early : Option (BitVec 32) := none
  op : Option NvsOp := none
  host : Option NvsJob := none
  own : Option NvsJob := none
  refReq : Option RefReq := none
  /-- Further writes of FIELD_REF, each with its request number, in the order requested (R389). -/
  refNext : List (Nat × RefReq) := []
  /-- Requests so far. -/
  count : Nat := 0
  /-- A scrub read is due; pages whose weak groups wait for their rewriting, the oldest first (R397). -/
  scrubDue : Bool := false
  weak : List (Nat × List Nat) := []
  deriving DecidableEq, Repr

/-! ### The thermal map and the Gaffer (15_thermal_power.md) -/

/-- A sensor (R365, R366): its last valid readings, latest first, and fast value; sum and number of the slate's valid
readings, and slate value; windows in a row out of band, repeating the count before, and valid; the count of the last
window. Values in 1/64 degree. DESIGN CHOICE, log 6. -/
structure Sensor where
  last : List Int := []
  fast : Int := 0
  sum : Int := 0
  cnt : Nat := 0
  slate : Int := 0
  outs : Nat := 0
  reps : Nat := 0
  good : Nat := 0
  broken : Bool := false
  prev : Option SensCount := none
  deriving DecidableEq, Repr

/-- The Gaffer beside its registers. -/
structure Gaf where
  sens : List (Nat × Sensor) := []
  /-- Factory trim of each sensor: slope, unsigned 2.14, and offset in 1/64 degree; unlisted ones have nominal trim (R365). -/
  trims : List (Nat × (Nat × Int)) := []
  /-- Windows since the slate values were formed, while the slate timer is stopped. -/
  win : Nat := 0
  /-- Power measurements in mW of the last second, latest first; their sum and number in the slate (R373, R377). -/
  hist : List Nat := []
  psum : Nat := 0
  pcnt : Nat := 0
  /-- Corrected pixels of the bands written in the slate (R377). -/
  px : Nat := 0
  /-- Tick of the last step; a condition has started to hold since the last boundary that could act on it (R373). -/
  step : Option Nat := none
  start : Bool := false
  /-- A step that waits for the end of a take or of a change of settings: 1 down, 2 up. -/
  late : Nat := 0
  /-- Target of the uniform warm-up load in 0.1 W; 0 outside COLD_HOLD (R369). -/
  load : Nat := 0
  deriving DecidableEq, Repr

/-- The events unit: the dailies queue (10_events_errors.md R261). -/
structure Evt where
  queue : List Daily := []
  deriving DecidableEq, Repr

/-! ### The flash port (17_flash_and_boot.md) -/

/-- A flash command under way (R411): ACTION 1 READ, 2 PROGRAM, 3 ERASE4K; address; length; data to program. -/
structure FlashJob where
  act : Nat
  addr : Nat
  len : Nat
  data : List (BitVec 8)
  deriving DecidableEq, Repr

/-- The flash port and BOOT's verification beside the FLP registers. -/
structure FlashCtl where
  /-- The command under way; one that a RESET left running inside the flash (R413). -/
  job : Option FlashJob := none
  orphan : Option FlashJob := none
  /-- FLP_CFG in force (R419). -/
  cfg : BitVec 32 := 0x100#32
  /-- Lines held, by set, most recently used first (R406). -/
  lines : List (Nat × List Nat) := []
  /-- The line being read, and whether for a miss; a prefetch that is to follow; misses that wait, as core and line, in order of arrival. -/
  load : Option (Nat × Bool) := none
  prefetch : Option Nat := none
  misses : List (Nat × Nat) := []
  /-- Address after the last byte read and tick of its end, while chip select is low (R407). -/
  next : Option (Nat × Nat) := none
  /-- A command has been sent since the line read under way began: it ends the read, and nothing continues it (R407). -/
  cut : Bool := false
  /-- Slot under verification in BOOT: 0 A, 1 B; verification has started (R409). -/
  slot : Nat := 0
  started : Bool := false
  /-- A command has ended TIMEOUT: the status register is polled before the next read (R411). -/
  poll : Bool := false
  deriving DecidableEq, Repr

/-! ### Access paths and the management port (00_scope.md R19; 11_management_port.md) -/

/-- What an access path keeps (00_scope.md R19; 12_field_side.md R307): the low words last written, by their address; the
high words latched, by theirs; FLD_MREAD as the last read of a mirror left it. -/
structure PathRegs where
  low : List (Nat × BitVec 32) := []
  high : List (Nat × BitVec 32) := []
  mread : BitVec 32 := 0x00FFFFFF#32
  deriving DecidableEq, Repr

/-- The two paths. -/
structure Bus where
  pcie : PathRegs := {}
  port : PathRegs := {}
  deriving DecidableEq, Repr

/-- A reply to be shifted out (R276, R277, R287, R288): the OP that it answers; UNDR, EDGE, PWR, ERR, STALE and ATTN as
bits 5 to 0; COUNT; the word address, whether its block was served when it was decoded, and how many words or pairs are
asked, none in a compatibility READ; the words fetched so far and the data quantities they gave. -/
structure MgpReply where
  op : Nat := 0
  flags : Nat := 0
  count : Nat := 0
  waddr : Nat := 0
  served : Bool := true
  words : Option Nat := some 0
  got : Nat := 0
  /-- Quantities of it that the frame has been seen to start (R277). -/
  started : Nat := 0
  data : List Nat := []
  /-- COUNT, which a compatibility READ does not have, has been given to its native status word. -/
  drawn : Bool := false
  /-- It answers a recovery frame, in the native format at W = 32 (R285). -/
  recovery : Bool := false
  deriving DecidableEq, Repr

/-- A fault of a frame (R283): kind 1 EDGE, 2 PWR, 3 ADDR, 4 CMD, and its word address. -/
structure MgpFault where
  kind : Nat
  waddr : Nat
  deriving DecidableEq, Repr

/-- The management port beside its registers. MGP_STATUS holds the mode and word length in force. -/
structure MgpCtl where
  /-- MGP_LEN in force (R286). -/
  len : Nat := 56
  reply : MgpReply := {}
  /-- Buffered writes, oldest first: word address and value (R278). -/
  buf : List (Nat × Nat) := []
  /-- The last quantity sent (R278). -/
  last : Nat := 0
  /-- Faults, UNDR and the first fault met since the last status word: by fetches of the reply, buffered writes. -/
  faults : List MgpFault := []
  undr : Bool := false
  deriving DecidableEq, Repr

/-- The volatile part of the module. -/
structure Dev where
  main : List (Nat × BitVec 32) := []
  aux : List (Nat × BitVec 32) := []
  pw : Power := {}
  sl : Slate := {}
  link : Link := {}
  evt : Evt := {}
  fpa : Fpa := {}
  en : Engines := {}
  cal : Cal := {}
  take : Take := {}
  nvc : NvsCtl := {}
  rings : Rings := {}
  cw : CellWatch := {}
  herd : HerdCtl := {}
  xh : XHost := {}
  fl : Field := {}
  emt : Emt := {}
  gaf : Gaf := {}
  fsh : FlashCtl := {}
  bus : Bus := {}
  mgp : MgpCtl := {}
  waits : List Waiting := []
  /-- The value that the last read returned (the model's own; DESIGN CHOICE, log 3). -/
  readData : BitVec 64 := 0
  /-- What the module has sent, in order (the model's own; DESIGN CHOICE, log 3). -/
  out : List Out := []
  /-- Counter of free values taken (the model's own; DESIGN CHOICE, log 3). -/
  free : Nat := 0
  deriving DecidableEq, Repr

/-- What survives the loss of every supply: the nonvolatile store's array (16_nonvolatile_store.md R381) and the
flash (17_flash_and_boot.md R408), as byte memories; unlisted bytes read 0 in the store and 0xFF in the flash; and the two
key digests fused at the factory (R409). DESIGN CHOICE, log 7 and 8, for what unlisted bytes read and for the digests. -/
structure Store where
  nvs : List Host.Cell := []
  flash : List Host.Cell := []
  digest0 : Nat := 0
  digest1 : Nat := 0
  deriving DecidableEq, Repr

/-- The whole machine. -/
structure State where
  /-- Commands waiting, first in first out. DESIGN CHOICE, log 3. -/
  pending : List Instr := []
  store : Store := {}
  dev : Dev := {}
  deriving DecidableEq, Repr

/-- The module right after reset. DESIGN CHOICE, log 1. -/
def State.reset : State := {}

end Sys2Proof.Machine
end

