-- ==== Sys2Proof/Machine/Ops.lean ====
section
/-! DEFINITION. The named operations over registers, time, events and the dailies that every meaning is built
from. -/

namespace Sys2Proof.Machine

/-! ### Registers -/

/-- The value held by the register at a byte address, before any computed view (R18, R23). -/
def rdReg (a : Nat) (d : Dev) : BitVec 32 :=
  mget regReset (if auxAddr a then d.aux else d.main) a

/-- Hold a value in the register at a byte address. -/
def wrReg (a : Nat) (v : BitVec 32) (d : Dev) : Dev :=
  if auxAddr a then { d with aux := mset regReset d.aux a v }
  else { d with main := mset regReset d.main a v }

/-- The value of a register field. -/
def fld (f : Fld) (d : Dev) : Nat := getBits (rdReg f.addr d) f.hi f.lo

/-- A one-bit field as a truth value. -/
def flag (f : Fld) (d : Dev) : Bool := fld f d != 0

/-- Set a register field; the value is taken modulo the field's size. -/
def setFld (f : Fld) (v : Nat) (d : Dev) : Dev :=
  wrReg f.addr (setBits (rdReg f.addr d) f.hi f.lo v) d

/-- Set a one-bit field from a truth value. -/
def setFlag (f : Fld) (b : Bool) (d : Dev) : Dev := setFld f (b2n b) d

/-- The largest value of a field. -/
def fldMax (f : Fld) : Nat := 2 ^ (f.hi + 1 - f.lo) - 1

/-- Add to a field, saturating at its largest value. -/
def addFldSat (f : Fld) (n : Nat) (d : Dev) : Dev := setFld f (min (fldMax f) (fld f d + n)) d

/-- Add to a field, wrapping. -/
def addFld (f : Fld) (n : Nat) (d : Dev) : Dev := setFld f (fld f d + n) d

/-- The signed value of a field. -/
def fldS (f : Fld) (d : Dev) : Int := sx (f.hi + 1 - f.lo) (fld f d)

/-- Run an operation when a condition holds. -/
def whenD (c : Bool) (f : Dev → Dev) (d : Dev) : Dev := if c then f d else d

/-- Run an operation for each element of a list, in order. -/
def forD {α : Type} (l : List α) (f : α → Dev → Dev) (d : Dev) : Dev := l.foldl (fun d x => f x d) d

/-- A command whose effect lies on the volatile part of the module alone. -/
def devStep (f : Dev → Dev) (s : State) : Host.Outcome State Fault Refusal := .next { s with dev := f s.dev }

/-! ### Module state codes (01_architecture.md R32) -/

def stOFF : Nat := 0
def stRESET : Nat := 1
def stBOOT : Nat := 2
def stIDLE : Nat := 3
def stLIVE : Nat := 4
def stCOLD : Nat := 5
def stSAFE : Nat := 6
def stAUX : Nat := 7

/-- GLB_MSTATE.STATE; 0 stands for OFF, which cannot be read. -/
def mstate (d : Dev) : Nat := fld GLB_MSTATE.STATE d

/-- LIVE or its TAKE sub-state: the array is read. -/
def isLive (d : Dev) : Bool := mstate d == stLIVE

/-- The TAKE sub-state of LIVE. -/
def inTake (d : Dev) : Bool := flag GLB_MSTATE.TAKE d

/-- The main domain is powered and out of RESET: BOOT, IDLE, LIVE, COLD_HOLD or SAFE. -/
def mainRuns (d : Dev) : Bool := decide (2 ≤ mstate d) && decide (mstate d ≤ 6)

/-- The main domain is served in full: IDLE, LIVE, COLD_HOLD or SAFE (09_host_rings.md R224). -/
def served (d : Dev) : Bool := decide (3 ≤ mstate d) && decide (mstate d ≤ 6)

/-- The aux domain is supplied (R26). -/
def auxOn (d : Dev) : Bool := d.pw.aux3v3 || d.pw.host12v

/-- The module is a TH8840-S (R7): STRAP alone decides the presence of the field companion (R422). -/
def isS (d : Dev) : Bool := d.pw.strap == 2

/-- The module is a TH8840-EC (R422). -/
def isEC (d : Dev) : Bool := d.pw.strap == 3

/-! ### Time (03_slate_and_herd.md R79) -/

/-- Module time in whole nanoseconds, 64 bits. -/
def modTime (d : Dev) : Nat := d.sl.mt / 40000000 % 2 ^ 64

/-- Let `n` ticks pass: each adds 2.5 ns x (1 + trim x 10^-8) to module time. DESIGN CHOICE, log 9. -/
def advance (n : Nat) (d : Dev) : Dev :=
  { d with sl := { d.sl with
      tick := d.sl.tick + n
      slotTick := if d.sl.running then d.sl.slotTick + n else d.sl.slotTick
      mt := if d.sl.running then d.sl.mt + n * (100000000 + d.sl.trim).toNat else d.sl.mt } }

/-- FPA_SLOT.TICKS and NSLOTS in force. -/
def ticksInForce (d : Dev) : Nat := fld FPA_SLOT.TICKS d
def nslots (d : Dev) : Nat := fld FPA_SLOT.NSLOTS d

/-- Row slot of blanking slot `b`: NSLOTS - 32 + b (02_focal_plane.md R58). -/
def blankSlot (b : Nat) (d : Dev) : Nat := nslots d - 32 + b

/-! ### Outputs and free values -/

/-- Send something to the world outside the module. -/
def emitOut (o : Out) (d : Dev) : Dev := { d with out := d.out ++ [o] }

/-- A value that the spec does not state: the next free value. DESIGN CHOICE, log 3 and 12. -/
def freeVal (d : Dev) : Nat := Config.freeNat d.free

/-- Count the free value just taken. DESIGN CHOICE, log 3. -/
def freeTaken (d : Dev) : Dev := { d with free := d.free + 1 }

/-! ### Event sources (10_events_errors.md R256, R257) -/

/-- A condition of 09_host_rings.md R226 holds: the module issues no memory request. -/
def linkBlocked (d : Dev) : Bool := !d.link.up || !d.link.busMaster || d.link.d3hot

/-- Send the MSI-X message of a vector. PRESUMED, log 4. -/
def msixSend (v : Nat) (d : Dev) : Dev :=
  emitOut (.msix v ((rdReg (MSIX_LO.addr v) d).toNat + 2 ^ 32 * (rdReg (MSIX_HI.addr v) d).toNat)
    (rdReg (MSIX_DATA.addr v) d)) d

/-- The pending bit of a vector. PRESUMED, log 4. -/
def msixPending (v : Nat) (d : Dev) : Bool := bitN (rdReg (MSIX_PBA.addr (v / 32)) d).toNat (v % 32)

/-- Set or clear the pending bit of a vector. -/
def msixSetPending (v : Nat) (b : Bool) (d : Dev) : Dev :=
  setFlag ⟨MSIX_PBA.addr (v / 32), v % 32, v % 32⟩ b d

/-- A message request on a vector (R257): discarded while MSI-X is not enabled; left pending while the vector or
the function is masked or a condition of R226 holds; else sent. -/
def msixRequest (v : Nat) (d : Dev) : Dev :=
  if !d.link.msixEnable then d
  else if flag (MSIX_CTRL.MASK v) d || d.link.functionMask || linkBlocked d then msixSetPending v true d
  else msixSend v d

/-- Send the pending messages whose conditions have ended (R257, R251). -/
def msixRelease (d : Dev) : Dev :=
  if !d.link.msixEnable || d.link.functionMask || linkBlocked d then d
  else forD (List.range 256) (fun v d =>
    if msixPending v d && !flag (MSIX_CTRL.MASK v) d then msixSend v (msixSetPending v false d) else d) d

/-- EVT_STAT bit of a source, EVT_EN bit of a source and EVT_VEC of a source. -/
def evtStat (s : Nat) : Fld := ⟨EVT_STAT.addr (s / 32), s % 32, s % 32⟩
def evtEn (s : Nat) : Fld := ⟨EVT_EN.addr (s / 32), s % 32, s % 32⟩
def evtVec (s : Nat) : Fld := ⟨EVT_VEC.addr (s / 4), 8 * (s % 4) + 7, 8 * (s % 4)⟩

/-- Raise a source (R256): the bit is set, and a 0 to 1 change with EN set makes one message request. Nothing is
raised while the main domain is unpowered or in RESET, which resets the block. On a TH8840-S the sources 208 to
223 never assert (R7). -/
def raise (s : Nat) (d : Dev) : Dev :=
  if !mainRuns d || (isS d && decide (208 ≤ s) && decide (s ≤ 223)) then d
  else if flag (evtStat s) d then d
  else
    let d := setFlag (evtStat s) true d
    if flag (evtEn s) d then msixRequest (fld (evtVec s) d) d else d

/-! ### The dailies (10_events_errors.md R261 to R263) -/

/-- A dailies entry enters the queue with its sequence number; a full queue of 512 drops it and counts it in LOST,
whose change from 0 raises source 5 (R255). No entry arises while the main domain is unpowered or in RESET. -/
def daily (kind source : Nat) (payload : List Nat) (d : Dev) : Dev :=
  if !mainRuns d then d
  else
    let seq := (rdReg EVT_DAILIES_SEQ.addr d).toNat
    let e : Daily := { kind := kind, source := source, seq := seq, slate := d.sl.no % 2 ^ 32,
                       timeLo := modTime d % 2 ^ 32, payload := payload }
    let d := wrReg EVT_DAILIES_SEQ.addr (BitVec.ofNat 32 (seq + 1)) d
    if d.evt.queue.length < 512 then { d with evt := { d.evt with queue := d.evt.queue ++ [e] } }
    else
      let first := fld EVT_DAILIES.LOST d == 0
      whenD first (raise 5) (addFldSat EVT_DAILIES.LOST 1 d)

/-- A NOTE entry with its arguments. DEDUCED, log 30. -/
def note (source : Nat) (args : List Nat) : Dev → Dev := daily 6 source (args ++ List.replicate (4 - args.length) 0)

/-- A STATE entry of a unit (R262). -/
def dailyState (cls unit old new oldGen newGen cause source : Nat) : Dev → Dev :=
  daily 1 source [cls + 256 * unit, old + 256 * new + 65536 * oldGen + 16777216 * newGen, cause, 0]

/-- A MEMORY entry (R262): `err` 1 corrected, 2 uncorrectable; `mem` the memory code. -/
def dailyMemory (cls unit err mem addr source : Nat) : Dev → Dev :=
  daily 5 source [cls + 16 * err + 256 * unit, mem, addr, 0]

/-- The SOURCE of a REFUSAL by the register's block (R449). DEDUCED, log 34. -/
def refusalSource (a : Nat) : Nat :=
  if a < 0x1000 then 0 else if a < 0x2000 then 16 else if a < 0x4000 then 32
  else if a < 0x4800 then 128 else if a < 0x4900 then 64 else if a < 0x5000 then 136
  else if a < 0x6000 then 144 else if a < 0x7000 then 160 else if a < 0x8000 then 0
  else if a < 0x9000 then 232 else if a < 0xA000 then 240 else if a < 0xB000 then 248
  else if a < 0xC000 then 192 else if a < 0xD000 then 224
  else if a < 0xD200 then 208 else if a < 0xD2C0 then 214 else if a < 0xD400 then 220
  else if a < 0xE000 then 214 else if a < 0xF000 then 220
  else if a < 0x30000 then 64 else 144

/-- A REFUSAL entry of a register action or write (R262): ACTION, register and RESULT set. DEDUCED, log 30 and 34. -/
def refuseReg (action addr result : Nat) (d : Dev) : Dev :=
  daily 2 (refusalSource addr) [2 ^ 18 + 16777216 * (action % 256), addr,
    result % 256 + 16777216 * mstate d, 0] d

/-- A REFUSAL entry of a register action that names a unit, a ring, engine or group, with that unit's GEN; 0 for a group,
which keeps none. -/
def refuseRegT (action addr result target gen : Nat) (d : Dev) : Dev :=
  daily 2 (refusalSource addr) [2 ^ 18 + 16777216 * (action % 256), addr,
    result % 256 + 65536 * gen + 16777216 * mstate d, target % 2 ^ 18] d

/-- A REFUSAL entry of a command or card-load descriptor (R262). DEDUCED, log 32. -/
def refuseCmd (ring op tag status genCarried genUnit target source : Nat) (d : Dev) : Dev :=
  daily 2 source [ring % 2 ^ 18 + 16777216 * (op % 256), tag,
    status % 256 + 256 * genCarried + 65536 * genUnit + 16777216 * mstate d, target % 2 ^ 18] d

/-- The NOTE of a write refused for a reserved encoding (00_scope.md R22): BAR0 offset and value. DEDUCED, log 30. -/
def noteReserved (addr : Nat) (v : BitVec 32) : Dev → Dev := note (refusalSource addr) [addr, v.toNat]

/-! ### The violation log (10_events_errors.md R259, R260) -/

/-- Write an entry of VIOL_LOG at NEXT: TOTAL and HELD count, an overwritten entry sets OVER, sources 254 and 255
are raised, and the dailies get the same 16 bytes. -/
def violLog (typ addr bar req : Nat) (d : Dev) : Dev :=
  if !mainRuns d then d
  else
    let n := fld EVT_VIOL_CNT.NEXT d
    let w0 := addr % 2 ^ 32
    let w1 := addr / 2 ^ 32
    let w2 := typ * 2 ^ 28 + bar * 2 ^ 24 + req % 2 ^ 18
    let w3 := d.sl.no % 2 ^ 32
    let full := fld EVT_VIOL_CNT.HELD d == 16
    let wasOver := flag EVT_VIOL_CNT.OVER d
    d |> wrReg (EVT_VIOL0.addr n) (BitVec.ofNat 32 w0) |> wrReg (EVT_VIOL1.addr n) (BitVec.ofNat 32 w1)
      |> wrReg (EVT_VIOL2.addr n) (BitVec.ofNat 32 w2) |> wrReg (EVT_VIOL3.addr n) (BitVec.ofNat 32 w3)
      |> setFld EVT_VIOL_CNT.NEXT (n + 1)
      |> addFldSat EVT_VIOL_CNT.TOTAL 1
      |> whenD (!full) (addFld EVT_VIOL_CNT.HELD 1)
      |> whenD full (setFlag EVT_VIOL_CNT.OVER true)
      |> raise 254 |> whenD (full && !wasOver) (raise 255)
      |> daily 3 254 [w0, w1, w2, w3]

/-! ### The nonvolatile store's serving order and spread counters (16_nonvolatile_store.md R394 to R400) -/

def modNvc (f : NvsCtl → NvsCtl) (d : Dev) : Dev := { d with nvc := f d.nvc }

/-- The store may write: neither COLD_NV nor HOT at CRITICAL (R399, R400). -/
def nvsWritesOk (d : Dev) : Bool := !flag GAF_STATUS.COLD_NV d && fld GAF_STATUS.HOT d != 4

/-- A job may make its next page operation: a write where writes are allowed, and no record write while an earlier one of
the same record is under way (R389, R398). -/
def nvsJobReady (j : NvsJob) (other : Option NvsJob) (d : Dev) : Bool :=
  (j.phase != 1 || nvsWritesOk d) &&
  (match other with
    | some o => !(decide (4 ≤ j.act) && decide (4 ≤ o.act) && o.id == j.id && decide (o.no < j.no))
    | none => true)

/-- The next page operation, when none is in progress (R398). -/
def nvsChoose (d : Dev) : Option NvsOp :=
  let c := d.nvc
  let w := nvsWritesOk d
  if c.op.isSome || !flag NVS_STATUS.READY d then none
  else
    let count := match c.held with
      | (k, n) :: _ => if w && flag NVS_STATUS.CNT_VALID d then some (NvsOp.count k n) else none
      | [] => none
    let host := match c.host with
      | some j => if nvsJobReady j c.own d then some NvsOp.host else none
      | none => none
    let own := match c.own with
      | some j => if nvsJobReady j c.host d then some NvsOp.own else none
      | none => none
    let weak := match c.weak with
      | x :: _ => if w then some (NvsOp.rewrite x.1 x.2) else none
      | [] => none
    let scrub := if c.scrubDue then some (NvsOp.scrub (fld NVS_SCRUB.NEXT d)) else none
    ((count.or host).or own).or (weak.or scrub)

/-- It starts. -/
def nvsNext (d : Dev) : Dev :=
  match nvsChoose d with
  | none => d
  | some o => modNvc (fun c => { c with
      op := some o
      held := match o with | .count _ _ => c.held.drop 1 | _ => c.held
      weak := match o with | .rewrite _ _ => c.weak.drop 1 | _ => c.weak
      scrubDue := match o with | .scrub _ => false | _ => c.scrubDue }) d

/-- The module's next write of FIELD_REF is under way, where one is queued and none was (16_nonvolatile_store.md R389). -/
def refStart (d : Dev) : Dev :=
  match d.nvc.own, d.nvc.refNext with
  | none, (no, r) :: rest => modNvc (fun c => { c with
      own := some { act := 8, id := 0x10, no := no }, refReq := some r, refNext := rest }) d
  | _, _ => d

/-- What the increments held of counter `k` come to. -/
def heldOf (k : Nat) (l : List (Nat × Nat)) : Nat := ((l.filter (fun x => x.1 == k)).map (·.2)).foldl (· + ·) 0

/-- The increments held, added up for each counter, up to 255, in the order of the counters' first ones (R399). -/
def heldMerge : List (Nat × Nat) → List (Nat × Nat)
  | [] => []
  | (k, n) :: r => (k, min 255 (n + heldOf k r)) :: (heldMerge r).filter (fun x => x.1 != k)

/-- Counter `k` is to be incremented: after those before it, or, where writes are not allowed, added to its own (R394, R396,
R398, R399). DEDUCED, log 43. -/
def countUp (k : Nat) (d : Dev) : Dev :=
  let add (l : List (Nat × Nat)) : List (Nat × Nat) := l ++ [(k, 1)]
  d |> modNvc (fun c => { c with held := if nvsWritesOk d then add c.held else heldMerge (add c.held) }) |> nvsNext

/-- A counter's value with the increments still to be written. -/
def countTotal (k : Nat) (d : Dev) : Nat :=
  let now := match d.nvc.op with
    | some (.count j n) => if j = k then n else 0
    | _ => 0
  min 0xFFFFFFFF ((rdReg (NVS_CNT.addr k) d).toNat + now + heldOf k d.nvc.held)

/-! ### The management port's attention bits (11_management_port.md R289) -/

/-- MP_ATTN# is driven low while an enabled attention bit is set. -/
def attnLow (d : Dev) : Bool := (rdReg MGP_ATTN.addr d &&& rdReg MGP_ATTN_EN.addr d) != 0

/-- A change of the attention registers; source 199 when MP_ATTN# becomes asserted (R290). DEDUCED, log 37. -/
def attnChange (f : Dev → Dev) (d : Dev) : Dev :=
  let was := attnLow d
  let d := f d
  whenD (attnLow d && !was) (raise 199) d

/-- Set bit `b` of MGP_ATTN. -/
def attn (b : Nat) : Dev → Dev := attnChange (setFlag ⟨MGP_ATTN.addr, b, b⟩ true)

/-! ### The module state word (01_architecture.md R31, R32) -/

/-- Change GLB_MSTATE.STATE: PREV takes the old state, GEN advances, source 0 is raised, a dailies STATE entry is
written and MGP_ATTN.MSTATE is set. Leaving LIVE ends its TAKE sub-state, for which no staged change then waits
(02_focal_plane.md R57), and FIELD_ABSENT is 1 in RESET and AUX_ONLY (R32), in the same change of the word. Entries into SAFE and changes of COLD_HOLD raise sources 1 and 2 (R255). -/
def setMState (new cause : Nat) (d : Dev) : Dev :=
  let old := mstate d
  if old = new then d
  else
    let g := fld GLB_MSTATE.GEN d
    d |> setFld GLB_MSTATE.PREV old |> setFld GLB_MSTATE.STATE new |> setFld GLB_MSTATE.GEN (g + 1)
      |> setFlag GLB_MSTATE.TAKE (inTake d && new == stLIVE)
      |> whenD (new != stLIVE) (setFlag FPA_STATUS.HELD_BY_TAKE false)
      |> whenD (new == stRESET || new == stAUX) (setFlag GLB_MSTATE.FIELD_ABSENT true)
      |> raise 0
      |> whenD (new == stSAFE) (raise 1)
      |> whenD (old == stCOLD || new == stCOLD) (raise 2)
      |> dailyState 0 0 old new g ((g + 1) % 256) cause 0
      |> attn 3

/-- Change GLB_MSTATE.TAKE, part of the state word (10_events_errors.md R263); source 0 (R255). -/
def setTake (b : Bool) (d : Dev) : Dev :=
  if inTake d = b then d
  else
    let g := fld GLB_MSTATE.GEN d
    d |> setFlag GLB_MSTATE.TAKE b |> addFld GLB_MSTATE.GEN 1 |> raise 0
      |> dailyState 0 0 (mstate d) (mstate d) g ((g + 1) % 256) 0 0

/-- Change GLB_MSTATE.FIELD_ABSENT, part of the state word; source 4 (R255). On a TH8840-S it stays 1 (R7). -/
def setFieldAbsent (b : Bool) (d : Dev) : Dev :=
  if flag GLB_MSTATE.FIELD_ABSENT d = b || isS d then d
  else
    let g := fld GLB_MSTATE.GEN d
    d |> setFlag GLB_MSTATE.FIELD_ABSENT b |> addFld GLB_MSTATE.GEN 1 |> raise 4
      |> dailyState 0 0 (mstate d) (mstate d) g ((g + 1) % 256) 0 0

/-- Change GLB_MSTATE.WATCHING, which is carried beside the state word, and CELL_STATUS.WATCHING; source 147 (R219) and
MGP_ATTN.WATCH (R289) follow. -/
def setWatching (b : Bool) (d : Dev) : Dev :=
  if flag GLB_MSTATE.WATCHING d = b then d
  else d |> setFlag GLB_MSTATE.WATCHING b |> setFlag CELL_STATUS.WATCHING b |> raise 147 |> attn 2

end Sys2Proof.Machine
end

