-- ==== Sys2Proof/Machine/Slate.lean ====
section
/-! DEFINITION. The slate timer, its external edges, the slate number and module time
(03_slate_and_herd.md R70 to R81). -/

namespace Sys2Proof.Machine

/-- The module follows a herd leader (R74, R92 ROLE); one with DUP set follows slate edges too (R84). -/
def isFollower (d : Dev) : Bool := fld HERD_STATUS.ROLE d == 1 || fld HERD_STATUS.ROLE d == 3

/-- A field of HERD_CFG as it is in force (R93). -/
def hcFld (f : Fld) (d : Dev) : Nat := getBits d.herd.cfg f.hi f.lo

/-- HERD_CFG.ENABLE in force. -/
def herdOn (d : Dev) : Bool := hcFld HERD_CFG.ENABLE d == 1

/-- Slate number `s` has come, on the 48-bit circle. -/
def slateAfter (s no : Nat) : Bool := decide ((no + 2 ^ 48 - s % 2 ^ 48) % 2 ^ 48 < 2 ^ 47)
def slateReached (s : Nat) (d : Dev) : Bool := slateAfter s d.sl.no

/-- The module's takes are the herd's: it is a member, or its take in progress was granted before it left. -/
def herdTakes (d : Dev) : Bool := herdOn d || d.herd.doneTo.isSome

/-- The module leads its herd. -/
def isLeader (d : Dev) : Bool := fld HERD_STATUS.ROLE d == 2

/-- The source of the slate edge (R74), as SLATE_STATUS.TIMED_BY encodes it: 2 CLAPPER, 1 SLATE_IN, 0 the own
timer, which also times a follower in RATE_MISMATCH (R86). -/
def edgeSource (d : Dev) : Nat :=
  if isFollower d then (if flag HERD_STATUS.RATE_MISMATCH d then 0 else 2) else if d.sl.src = 1 then 1 else 0

/-- The slate is in its last blanking slot. -/
def inLastSlot (d : Dev) : Bool := d.sl.slot + 1 == nslots d

/-- Let time pass until `t` ticks after the start of the row slot. -/
def advanceTo (t : Nat) (d : Dev) : Dev := advance (t - d.sl.slotTick) d

/-- An edge arrives `t` ticks after the start of the row slot; only the last blanking slot can run past TICKS. -/
def edgeTime (t : Nat) (d : Dev) : Dev :=
  if d.sl.running then advanceTo (if inLastSlot d then t else min t (ticksInForce d)) d else d

/-- L of R75: ticks since the start of the last blanking slot. -/
def lastL (d : Dev) : Nat := d.sl.slotTick

/-- Set the lock state; source 19 when the module becomes unlocked or locks (R75, R76, R91). -/
def setLock (v : Nat) (d : Dev) : Dev :=
  if fld SLATE_STATUS.LOCK d = v then d
  else d |> setFld SLATE_STATUS.LOCK v |> whenD (v != 0) (raise 19)

/-- The module is timed anew: by its own timer, or unlocked from the external source now in force, which it has not seen yet.
The slate under way has no external edge of that source. DEDUCED, log 52. -/
def sourceTaken (d : Dev) : Dev :=
  { d with sl := { d.sl with edgeUsed := false, early := false, held := false, relock := false } }
    |> setFld SLATE_STATUS.MISSES 0 |> setFld SLATE_STATUS.TIMED_BY 0 |> setLock (if edgeSource d = 0 then 0 else 2)

/-- A change that can move the source of the slate edge (R74, R85, R86). -/
def withSource (f : Dev → Dev) (d : Dev) : Dev :=
  let was := edgeSource d
  let d := f d
  whenD (d.sl.running && edgeSource d != was) sourceTaken d

/-- The slate's end is due. -/
def endSlate (d : Dev) : Dev := { d with sl := { d.sl with endDue := true } }

/-- An EARLY or STRAY edge is counted; source 17 (R75, R91). -/
def countStray (d : Dev) : Dev := d |> addFldSat SLATE_EDGE_CNT.STRAY 1 |> raise 17
def countEarly (d : Dev) : Dev := d |> addFldSat SLATE_EDGE_CNT.EARLY 1 |> raise 17

/-- An accepted edge ends the slate `lag` ticks after it reaches its pin. -/
def edgeEnds (lag : Nat) (d : Dev) : Dev := d |> advance lag |> endSlate

/-- An external edge of the source in force reaches the slate timer (R75, R76). -/
def externalEdge (lag : Nat) (d : Dev) : Dev :=
  if !d.sl.running then d
  else if fld SLATE_STATUS.LOCK d = 1 then
    if d.sl.edgeUsed then countStray d
    else if inLastSlot d && decide (ticksInForce d / 2 ≤ lastL d) && decide (lastL d ≤ 3 * ticksInForce d / 2) then
      { d with sl := { d.sl with edgeUsed := true } } |> setFld SLATE_STATUS.MISSES 0 |> edgeEnds lag
    else if blankSlot 16 d ≤ d.sl.slot then
      { d with sl := { d.sl with edgeUsed := true, early := true } } |> setFld SLATE_STATUS.MISSES 0 |> countEarly
    else countStray d
  else if fld SLATE_STATUS.LOCK d = 2 then
    if d.sl.relock && inLastSlot d && decide (ticksInForce d ≤ lastL d) then
      { d with sl := { d.sl with edgeUsed := true, relock := false, held := false } }
        |> setFld SLATE_STATUS.MISSES 0 |> setLock 1 |> edgeEnds lag
    else { d with sl := { d.sl with relock := true } }
  else d

/-- The latched EARLY edge ends the slate when L reaches TICKS / 2 (R75). -/
def earlyRelease (d : Dev) : Dev :=
  if d.sl.early && inLastSlot d && !d.sl.endDue then
    d |> advanceTo (ticksInForce d / 2) |> endSlate
  else d

/-- No edge by L = 3 x TICKS / 2: a MISSED slate, source 18; the third in a row unlocks the module (R75). -/
def missedEdge (d : Dev) : Dev :=
  if fld SLATE_STATUS.LOCK d = 1 && inLastSlot d && !d.sl.edgeUsed && !d.sl.endDue then
    let d := d |> advanceTo (3 * ticksInForce d / 2) |> addFldSat SLATE_EDGE_CNT.MISSED 1
      |> addFldSat SLATE_STATUS.MISSES 1 |> raise 18 |> endSlate
    if 3 ≤ fld SLATE_STATUS.MISSES d then setLock 2 d else d
  else d

/-- No edge within NSLOTS x TICKS + TICKS ticks of the start of a held slot: the slot ends there and the module
stays unlocked (R76). -/
def heldTimeout (d : Dev) : Dev :=
  if fld SLATE_STATUS.LOCK d = 2 && d.sl.relock && inLastSlot d && !d.sl.endDue then
    let d := d |> advanceTo (nslots d * ticksInForce d + ticksInForce d) |> endSlate
    { d with sl := { d.sl with relock := false, held := false } }
  else d

/-- The own timer may end the slate: no external source, or unlocked and not waiting for an edge (R74 to R76). -/
def ownTimerEnds (d : Dev) : Bool :=
  edgeSource d == 0 || fld SLATE_STATUS.LOCK d == 0 || (fld SLATE_STATUS.LOCK d == 2 && !d.sl.relock)

/-- What has ended the slate before an edge at `t` ticks of its last blanking slot: a MISSED slate, the held slot's limit or
the own timer (R75, R76). -/
def slateOverrun (t : Nat) (d : Dev) : Dev :=
  let n := ticksInForce d
  let lock := fld SLATE_STATUS.LOCK d
  if !d.sl.running || !inLastSlot d || d.sl.endDue then d
  else if lock = 1 then (if 3 * n / 2 < t then missedEdge d else d)
  else if lock = 2 then
    if d.sl.relock then (if nslots d * n + n < t then heldTimeout d else d)
    else if n < t then d |> advanceTo n |> endSlate else d
  else d

/-- Ticks from the pin to slot 0: an edge of SLATE_IN starts it on the second tick after it reaches the pin
(19_electrical_mechanical.md R441); one of CLAPPER is timed at the tick after its receiver (R83). -/
def edgeLag (d : Dev) : Nat := if edgeSource d = 1 then 2 else 0

/-- An external edge arrives `t` ticks after the start of the row slot (R75, R76). One that the slate's end has come before
falls in the next slate: STRAY where the module is locked, seen by an unlocked one. -/
def edgeArrives (t : Nat) (d : Dev) : Dev :=
  let x := slateOverrun (max t d.sl.slotTick) d
  if x.sl.endDue && !d.sl.endDue then
    if fld SLATE_STATUS.LOCK x = 1 then countStray x else { x with sl := { x.sl with relock := true } }
  else externalEdge (edgeLag d) (edgeTime t d)

/-- The slate may end now: it is in its last blanking slot and its end is due, or its own timer ends it. DEDUCED, log 16. -/
def slateEnds (d : Dev) : Bool :=
  d.sl.running && inLastSlot d && (d.sl.endDue || ownTimerEnds d)

/-- k of R86: how many of the leader's periods the follower's own period holds, 1 to 8; `none` if no such k. -/
def rateK (own leader : Nat) : Option Nat :=
  (List.range 8).findSome? (fun i => if own = (i + 1) * leader then some (i + 1) else none)

/-- The own slate period in ticks. -/
def ownPeriod (d : Dev) : Nat := ticksInForce d * nslots d

/-- The roster entry of a position. -/
def member (p : Nat) (d : Dev) : Option Member := mfind d.herd.members p

/-- The period of the leader that a follower follows, if its ROSTER has been heard. -/
def leaderPeriod (d : Dev) : Option Nat :=
  match d.herd.leader with
  | none => none
  | some p => (member p d).map (·.period)

/-- k of a follower: 1 until the leader's period is known; `none` where no k exists (R86). -/
def followK (d : Dev) : Option Nat :=
  match leaderPeriod d with
  | none => some 1
  | some l => rateK (ownPeriod d) l

/-- The slate number of the next slate (R78, R80): a follower counts its leader's slates, k of them a slate; the
leader's SLATE_INFO then gives the number itself. DEDUCED, log 26. -/
def nextSlateNo (k : Nat) (d : Dev) : Nat :=
  (if isFollower d then d.sl.no + k else d.sl.no + 1) % 2 ^ 48

/-- The 64-bit value of a register pair. -/
def pair64 (lo hi : Nat) (d : Dev) : Nat := (rdReg lo d).toNat + 2 ^ 32 * (rdReg hi d).toNat

/-- The slate number that the coming boundary gives, with the LOAD_NO that has been asked for (R78, R80). -/
def comingNo (k : Nat) (d : Dev) : Nat :=
  if d.sl.loadNo && !isFollower d then pair64 SLATE_NLOAD_LO.addr SLATE_NLOAD_HI.addr d % 2 ^ 48 else nextSlateNo k d

/-- The time action at the boundary (R80): LOAD_TIME, else STEP_TIME; a follower with TIME_FOLLOW ignores both,
which writes a REFUSAL (10_events_errors.md R258). `step` is a further step in ns that TIME_FOLLOW applies (R88). -/
def timeActions (follow : Bool) (step : Int) (d : Dev) : Dev :=
  let sl := d.sl
  let d := { d with sl := { sl with loadTime := false, stepTime := false } }
  let d :=
    if follow then
      d |> whenD sl.loadTime (refuseReg 1 SLATE_CMD.addr 0) |> whenD sl.stepTime (refuseReg 2 SLATE_CMD.addr 0)
    else if sl.loadTime then
      { d with sl := { d.sl with
          mt := pair64 SLATE_TLOAD_LO.addr SLATE_TLOAD_HI.addr d * 40000000 } }
        |> raise 26 |> whenD sl.stepTime (note 16 [SLATE_CMD.addr, 2])
    else if sl.stepTime then
      { d with sl := { d.sl with
          mt := (((d.sl.mt : Int) + sx 32 (rdReg SLATE_TADJ.addr d).toNat * 40000000) %
            ((2 ^ 64 * 40000000 : Nat) : Int)).toNat } } |> raise 26
    else d
  if step = 0 then d
  else { d with sl := { d.sl with
    mt := (((d.sl.mt : Int) + step * 40000000) % ((2 ^ 64 * 40000000 : Nat) : Int)).toNat } }

/-- The slate-number action at the boundary (R78, R80); a follower ignores LOAD_NO, which writes a REFUSAL. -/
def numberAction (k : Nat) (d : Dev) : Dev :=
  let req := d.sl.loadNo
  let no := comingNo k d
  { d with sl := { d.sl with loadNo := false, no := no } }
    |> whenD req (if isFollower d then refuseReg 4 SLATE_CMD.addr 0 else raise 26)

/-- The timing part of a slate boundary (R71 to R81): the last slot ends, its length is shown, slot 0 of the next
slate starts, time and number actions apply, the trim and the edge source for the new slate are taken. DEDUCED, log 52, for
the lock state where SLATE_IN and CLAPPER change places. -/
def startSlate (k : Nat) (step : Int) (d : Dev) : Dev :=
  let d := whenD (!d.sl.endDue) (advanceTo (ticksInForce d)) d
  let len := d.sl.slotTick
  let was := edgeSource d
  let follow := isFollower d && flag HERD_CFG.TIME_FOLLOW d
  let d := d |> setFld SLATE_STATUS.LAST_SLOT (min 0xFFFF len) |> timeActions follow step |> numberAction k
  let d := { d with sl := { d.sl with
    slot := 0, slotTick := 0, endDue := false, edgeUsed := false, early := false, held := false
    trim := fldS SLATE_TRIM.PPB_100 d
    src := fld SLATE_CFG.SRC d
    start := modTime d } }
  let es := edgeSource d
  let d := if es = 0 || es != was then sourceTaken d else if fld SLATE_STATUS.LOCK d = 0 then setLock 2 d else d
  d |> setFld SLATE_STATUS.TIMED_BY (if fld SLATE_STATUS.LOCK d = 1 then es else 0)
    |> whenD (fld SLATE_CFG.EVT_DIV d != 0 && d.sl.no % fld SLATE_CFG.EVT_DIV d == 0) (raise 16)

/-- What the Gaffer sums over a slate starts anew where the slate timer starts or stops (15_thermal_power.md R365, R377). -/
def slateSums (d : Dev) : Dev :=
  { d with gaf := { d.gaf with
      win := 0, psum := 0, pcnt := 0, px := 0,
      sens := mmapAll (fun _ => ({} : Sensor)) 200 (fun _ s => { s with sum := 0, cnt := 0 }) d.gaf.sens } }

/-- The slate timer starts in BOOT (R70, R79): slate 0, module time 0. -/
def slateTimerStart (d : Dev) : Dev :=
  let sl : Slate := { running := true, tick := d.sl.tick, trim := fldS SLATE_TRIM.PPB_100 d, src := fld SLATE_CFG.SRC d }
  { slateSums d with sl := sl }
    |> whenD (fld SLATE_CFG.SRC d == 1) (setFld SLATE_STATUS.LOCK 2)

/-- The slate timer stops in RESET and AUX_ONLY (R70). -/
def slateTimerStop (d : Dev) : Dev := { slateSums d with sl := { tick := d.sl.tick } }

end Sys2Proof.Machine
end

