-- ==== Sys2Proof/Machine/Fpa.lean ====
section
/-! DEFINITION. The focal plane: rows and row slots, staged settings, sample words, converter groups
(02_focal_plane.md). -/

namespace Sys2Proof.Machine

/-! ### Rows and row slots (R42, R53 to R56) -/

/-- A row of the sensor tier. -/
inductive Row where
  | top (i : Nat)
  | active (r : Nat)
  | bottom (i : Nat)
  | none
  deriving DecidableEq, Repr

/-- Height of a stripe from STRIPE_H. -/
def stripeH (code : Nat) : Nat := 192 * (code + 1)

/-- Active rows read per slate, and the first of them, in the mode in force. -/
def activeRows (d : Dev) : Nat :=
  if flag FPA_STATUS.STRIPE d then stripeH (fld FPA_STATUS.STRIPE_H d) else 3072
def firstRow (d : Dev) : Nat :=
  if flag FPA_STATUS.STRIPE d then 192 * fld FPA_STATUS.STRIPE_POS d else 0

/-- The row read in row slot `s` (R42, R54). -/
def rowOfSlot (s : Nat) (d : Dev) : Row :=
  let h := activeRows d
  if s < 8 then .top s
  else if s < 8 + h then .active (firstRow d + (s - 8))
  else if s < 16 + h then .bottom (s - 8 - h)
  else .none

/-- Row slot in ticks of each full-array rate (R53). -/
def fullTicks : List Nat := [2137, 2564, 3205, 4274, 5128, 6410, 8548, 12820, 17096]

/-- Nominal rates in stripe mode in Hz (R55). -/
def stripeHz : List Nat := [240, 200, 120, 100, 60, 50]

/-- The smallest whole number that is at least 400,000,000 / (F x NSLOTS) (R55). -/
def stripeTicks (rate n : Nat) : Nat :=
  let q := stripeHz.getD rate 240 * n
  (400000000 + q - 1) / q

/-- FPA_MODE holds no reserved encoding, judged in the mode that its own STRIPE selects (R22, R54). -/
def fpaModeOk (v : BitVec 32) : Bool :=
  let rate := getBits v 11 8
  if getBits v 0 0 = 1 then
    decide (rate ≤ 5) && decide (192 * getBits v 19 16 + stripeH (getBits v 15 14) ≤ 3072)
  else decide (rate ≤ 8)

/-- FPA_INT.STEPS runs from 32 to 128 (R46). -/
def fpaIntOk (v : BitVec 32) : Bool := decide (32 ≤ getBits v 7 0) && decide (getBits v 7 0 ≤ 128)


/-! ### Staging (R57) -/

/-- A write of FPA_MODE or FPA_INT is staged; while a take runs, HELD_BY_TAKE reads 1 and source 49 is raised
once per take. -/
def fpaStaged (d : Dev) : Dev :=
  let d := setFlag FPA_STATUS.PENDING true d
  if inTake d then
    let d := setFlag FPA_STATUS.HELD_BY_TAKE true d
    if d.fpa.announced then d else { d with fpa := { d.fpa with announced := true } } |> raise 49
  else d

/-- A staged change is applied at this boundary: the module is in IDLE or LIVE and not in a take (R57). -/
def fpaWillApply (d : Dev) : Bool :=
  flag FPA_STATUS.PENDING d && (mstate d == stIDLE || mstate d == stLIVE) && !inTake d

/-- The requested mode, gain and window come into force; source 48 (R57, R67). STRIPE_POS and STRIPE_H show the last stripe
in force where the full array is selected. DESIGN CHOICE, log 52. -/
def fpaApply (d : Dev) : Dev :=
  let stripe := flag FPA_MODE.STRIPE d
  d |> setFld FPA_STATUS.INT_STEPS (fld FPA_INT.STEPS d)
    |> setFlag FPA_STATUS.PENDING false |> setFlag FPA_STATUS.HELD_BY_TAKE false
    |> setFlag FPA_STATUS.STRIPE stripe |> setFld FPA_STATUS.GAIN (fld FPA_MODE.GAIN d)
    |> (fun d => { d with fpa := { d.fpa with low := flag FPA_MODE.GAIN d } })
    |> whenD stripe (setFld FPA_STATUS.STRIPE_POS (fld FPA_MODE.STRIPE_POS d))
    |> whenD stripe (setFld FPA_STATUS.STRIPE_H (fld FPA_MODE.STRIPE_H d))
    |> whenD stripe (setFld FPA_STATUS.RATE (fld FPA_MODE.RATE d))
    |> raise 48

/-- The rate, row slot and slate length in force for the new slate (R53 to R56); `req` is the requested full-array
rate in force. -/
def fpaRates (d : Dev) : Dev :=
  if flag FPA_STATUS.STRIPE d then
    let n := stripeH (fld FPA_STATUS.STRIPE_H d) + 48
    d |> setFlag FPA_STATUS.RATE_LIMITED false |> setFld FPA_SLOT.NSLOTS n
      |> setFld FPA_SLOT.TICKS (stripeTicks (fld FPA_STATUS.RATE d) n)
  else
    let pend := flag FPA_STATUS.PENDING d
    -- a staged RATE is no request yet: the rate in force then follows the Gaffer alone against the old request
    let req := if pend then d.fpa.req else fld FPA_MODE.RATE d
    let r := max req (fld GAF_LOOP.ALLOWED d)
    let d := { d with fpa := { d.fpa with req := req } }
    d |> setFld FPA_STATUS.RATE r |> setFlag FPA_STATUS.RATE_LIMITED (decide (req < fld GAF_LOOP.ALLOWED d))
      |> setFld FPA_SLOT.NSLOTS 3120 |> setFld FPA_SLOT.TICKS (fullTicks.getD r 4274)

/-- The staging part of a slate boundary (R57). DEDUCED, log 24. -/
def fpaBoundary (d : Dev) : Dev :=
  let d := if fpaWillApply d then fpaApply d
    else if flag FPA_STATUS.PENDING d && inTake d then fpaStaged d else d
  let d := if inTake d then d else { d with fpa := { d.fpa with announced := false } }
  fpaRates d

/-! ### Converter groups (R58 to R63) -/

def grpD : Nat → Group := fun _ => {}

/-- Group `g`. -/
def grp (g : Nat) (d : Dev) : Group := mget grpD d.fpa.groups g

/-- Change group `g`. -/
def modGrp (g : Nat) (f : Group → Group) (d : Dev) : Dev :=
  { d with fpa := { d.fpa with groups := mmod grpD d.fpa.groups g f } }

/-- FPA_GRP_STATE field of group `g`: 0 OK, 1 SUSPECT, 2 FAULTED, 3 DISABLED (R61). -/
def grpState (g : Nat) : Fld := ⟨FPA_GRP_STATE.addr (g / 16), 2 * (g % 16) + 1, 2 * (g % 16)⟩

/-- A group changes state: its source is raised and a dailies STATE entry is written (R61, R67). -/
def setGrpState (g new cause : Nat) (d : Dev) : Dev :=
  let old := fld (grpState g) d
  if old = new then d
  else d |> setFld (grpState g) new |> raise (32 + g / 8) |> dailyState 3 g old new 0 0 cause 32

/-- The code of a sample: with SAT it is clipped to the end of the range beyond which the integrator output lay, 0 or
16,383 (R50). -/
def clipCode (raw : Nat) : Nat :=
  if bitN raw 14 then (if raw % 16384 < 8192 then 0 else 16383) else raw % 16384

/-- The converter word delivered for column `c` (R50, R51): 0xBFFF from a group whose state at the slate's start
was FAULTED or DISABLED, and for a result not latched in time. -/
def deliver (outState raw : Nat) : Nat :=
  if 2 ≤ outState then 0xBFFF else if bitN raw 15 then 0xBFFF else 16384 * b2n (bitN raw 14) + clipCode raw

/-- A raw converter word of column `c`. -/
def rawOf (r : RowSamples) (c : Nat) : Nat := r.codes.getD c r.fill % 65536

/-- The sample words of a row, one per column (R50, R51, R62). -/
def rowWords (r : RowSamples) (d : Dev) : List Nat :=
  (List.range 4096).map (fun c => deliver (grp (c / 32) d).out (rawOf r c))

/-- Incomplete samples of group `g` in a row (R51): not counted for a FAULTED or DISABLED group. -/
def rowInc (r : RowSamples) (g : Nat) (d : Dev) : Nat :=
  if 2 ≤ (grp g d).out then 0
  else ((List.range 32).filter (fun i => bitN (rawOf r (32 * g + i)) 15)).length

/-- The sum of CODE over the columns of group `g` in delivered words. -/
def codeSum (words : List Nat) (g : Nat) : Nat :=
  ((words.drop (32 * g)).take 32).foldl (fun a w => a + w % 16384) 0

/-- A row is blind. -/
def Row.blind : Row → Bool
  | .top _ => true
  | .bottom _ => true
  | _ => false

/-- Counts and sums that the hand-over of the row read in slot `s` brings (R51, R59, R68). -/
def fpaHandover (s : Nat) (row : Row) (r : RowSamples) (words : List Nat) (d : Dev) : Dev :=
  let d := forD (List.range 128) (fun g d =>
    let n := rowInc r g d
    let b := row.blind
    let cs := codeSum words g
    d |> modGrp g (fun x => { x with
          inc := x.inc + n
          sumA := if b && s % 2 == 0 then x.sumA + cs else x.sumA
          sumB := if b && s % 2 == 1 then x.sumB + cs else x.sumB })
      |> whenD (n != 0) (fun d => { d with fpa := { d.fpa with inc := d.fpa.inc + n } })
      |> addFldSat FPA_INCOMPLETE.COUNT n) d
  match row with
  | .active _ => { d with fpa := { d.fpa with sat := d.fpa.sat + (words.filter (fun w => bitN w 14)).length } }
  | _ => d

/-- Results of one reference level of group `g` that are outside their window; converters that the environment does
not list returned a result within it (R60). DEDUCED, log 25. -/
def refFails (refs : List RefRes) (g : Nat) (hi : Bool) (d : Dev) : Bool :=
  let exp := if hi then fld (FPA_GREF.HI_EXP g) d else fld (FPA_GREF.LO_EXP g) d
  refs.any (fun r => r.col / 32 == g && r.hi == hi &&
    (!r.latched || decide (fld FPA_PLAUS.REF_WIN d < absDiff r.code exp)))

/-- The lowest cause code that fails group `g` in the slate, 0 for a pass (R59, R60). -/
def grpCause (refs : List RefRes) (g : Nat) (d : Dev) : Nat :=
  let x := grp g d
  let diff : Int := (x.sumA : Int) - x.sumB - 256 * fldS (FPA_GCAL.AB_DELTA g) d
  if refFails refs g false d then 1
  else if refFails refs g true d then 2
  else if 256 * fld FPA_PLAUS.AB_WIN d < diff.natAbs then 3
  else if 64 ≤ x.inc then 4
  else 0

/-- The test result of group `g` taken at the decision point (R60, R61). DEDUCED, log 25. -/
def grpTest (refs : List RefRes) (g : Nat) (d : Dev) : Dev :=
  let st := fld (grpState g) d
  if 2 ≤ st then d
  else
    let c := grpCause refs g d
    if c = 0 then d |> setGrpState g 0 0 |> modGrp g (fun x => { x with fails := 0 })
    else
      let n := (grp g d).fails + 1
      let d := modGrp g (fun x => { x with fails := n }) d
      let new := if fld FPA_PLAUS.COUNT d ≤ n then 2 else 1
      d |> whenD (new == st) (note 32 [c, g]) |> setGrpState g new c

/-- A host action on group `g` (R61, R63); one without effect writes a REFUSAL (10_events_errors.md R258). DISABLE of a
DISABLED group, on which R63 says nothing, changes nothing and writes none. DESIGN CHOICE, log 60. -/
def grpAction (g : Nat) (d : Dev) : Dev :=
  let a := (grp g d).act
  let st := fld (grpState g) d
  let d := modGrp g (fun x => { x with act := 0 }) d
  let refused := refuseRegT a FPA_GRP_CTRL.addr 0 g 0
  if a = 1 then
    if st = 3 then refused d
    else d |> modGrp g (fun x => { x with fails := 0 }) |> whenD (st == 2) (setGrpState g 1 0)
  else if a = 2 then
    if st = 3 then d else d |> setGrpState g 3 0 |> modGrp g (fun x => { x with fails := 0 })
  else if a = 3 then
    if st = 3 then d |> setGrpState g 1 0 |> modGrp g (fun x => { x with fails := 0 }) else refused d
  else d

/-- The decision point (R58, R60 to R63): every group is tested and its action applied; FPA_FAULT_LOG takes the
lowest failing group. DEDUCED, log 25. -/
def decisionPoint (refs : List RefRes) (d : Dev) : Dev :=
  let failing := (List.range 128).filter (fun g => fld (grpState g) d < 2 && grpCause refs g d != 0)
  let d := match failing with
    | [] => d
    | g :: _ => d |> setFld FPA_FAULT_LOG.CAUSE (grpCause refs g d) |> setFld FPA_FAULT_LOG.GROUP g
        |> setFld FPA_FAULT_LOG.SLATE d.sl.no
  forD (List.range 128) (fun g d => d |> grpTest refs g |> grpAction g) d

/-- Group actions of a slate in which the array is not read are applied at the boundary (R63). -/
def grpActionsIdle (d : Dev) : Dev := forD (List.range 128) grpAction d

/-- The slate's counts end, of a slate read whole, in part or not at all: FPA_SAT_SLATE, source 50; the output of each group
follows its state (R62, R67, R68). -/
def fpaSlateEnd (d : Dev) : Dev :=
  let d := d |> setFld FPA_SAT_SLATE.COUNT (min 0xFFFFFF d.fpa.sat) |> whenD (d.fpa.inc != 0) (raise 50)
  { d with fpa := { d.fpa with
      sat := 0, inc := 0
      groups := mmapAll grpD 128 (fun g x => { x with
        out := fld (grpState g) d, sumA := 0, sumB := 0, inc := 0 }) d.fpa.groups } }

end Sys2Proof.Machine
end

