-- ==== Sys2Proof/Machine/Engine.lean ====
section
/-! DEFINITION. Column engines: memories, states, ledgers, clock and budget (04_column_engines.md R94 to R107,
R123; 06_calibration_cards.md R149 to R151, R161 to R164). -/

namespace Sys2Proof.Machine

/-! ### Engines and their memories -/

def engD : Nat → Eng := fun _ => {}

/-- Engine `e`. -/
def engOf (e : Nat) (d : Dev) : Eng := mget engD d.en.engs e

/-- Change engine `e`. -/
def modEng (e : Nat) (f : Eng → Eng) (d : Dev) : Dev :=
  { d with en := { d.en with engs := mmod engD d.en.engs e f } }

/-- Change every engine. -/
def mapEngs (f : Nat → Eng → Eng) (d : Dev) : Dev :=
  { d with en := { d.en with engs := mmapAll engD 1024 f d.en.engs } }

/-- All engine numbers. -/
def allEngs : List Nat := List.range 1024

/-- What a slot of card memory that nothing has written holds: an unnamed pixel's seed card, a column's default anchors, or
0 (06_calibration_cards.md R170). DESIGN CHOICE, log 5, for the time before BOOT's seed load. -/
def cardD (n : Nat) : BitVec 64 :=
  if n < 12352 then 0x4000000000000000#64 else if n < 12356 then 0x2000200020002000#64 else 0

/-- A card-memory slot. -/
def card (g : Eng) (n : Nat) : BitVec 64 := mget cardD g.cards n

/-- Write a card-memory slot by a write that is no card load, of the scene trim or of a take: a slot with a double-bit
error stays bad (R99). -/
def putCard (n : Nat) (v : BitVec 64) (g : Eng) : Eng := { g with cards := mset cardD g.cards n v }

/-- Write a card-memory slot by a card load, which ends a double-bit error (R99). -/
def setCard (n : Nat) (v : BitVec 64) (g : Eng) : Eng :=
  { putCard n v g with badCards := g.badCards.filter (· != n) }

/-- What a byte of data memory that nothing has written reads as: MIN of a cell record 0xFFFF, as R121 clears it, and 0
elsewhere. DESIGN CHOICE, log 14. -/
def dataFill (a : Nat) : BitVec 8 :=
  if 0x2C00 ≤ a ∧ a < 0x3C00 ∧ (a % 16 = 2 ∨ a % 16 = 3) then 0xFF else 0

/-- Bytes of data memory, and the little-endian item that they make (R98). -/
def dataBytes (g : Eng) (a n : Nat) : List (BitVec 8) := mgetList dataFill g.data a n
def dataLE (g : Eng) (a n : Nat) : Nat := leNat (dataBytes g a n)

/-- Write bytes of data memory, and an item of `n` bytes. -/
def setBytes (a : Nat) (bs : List (BitVec 8)) (g : Eng) : Eng := { g with data := msetList dataFill g.data a bs }
def setData (a n x : Nat) (g : Eng) : Eng := setBytes a (leBytes n x) g

/-- Clear the user area, with its check bits (R146). -/
def clearUser (g : Eng) : Eng :=
  setBytes 0x3F00 (List.replicate 256 0) { g with badData := g.badData.filter (fun n => decide (n < 0x3F00 / 8)) }

/-- Bits of a card (R149). -/
def cBits (c : BitVec 64) (hi lo : Nat) : Nat := bitsN c.toNat hi lo

/-- Replace bits of a 64-bit card. -/
def setCBits (c : BitVec 64) (hi lo x : Nat) : BitVec 64 :=
  let m : Nat := (2 ^ (hi + 1 - lo) - 1) <<< lo
  (c &&& ~~~ BitVec.ofNat 64 m) ||| BitVec.ofNat 64 ((x % 2 ^ (hi + 1 - lo)) <<< lo)

/-- Card fields: gain, offset at anchor k, trim, flags (R149). -/
def cardG (c : BitVec 64) : Nat := cBits c 63 52
def cardO (c : BitVec 64) (k : Nat) : Int := sx 10 (cBits c (51 - 10 * k) (42 - 10 * k))
def cardTrim (c : BitVec 64) : Int := sx 8 (cBits c 11 4)
def cardDead (c : BitVec 64) : Bool := bitN c.toNat 3
def cardNoisy (c : BitVec 64) : Bool := bitN c.toNat 2
def cardRepl (c : BitVec 64) : Bool := bitN c.toNat 1
def cardSusp (c : BitVec 64) : Bool := bitN c.toNat 0
def cardBadFlags (c : BitVec 64) : Bool := cardDead c || cardNoisy c || cardRepl c

/-- Base `k` of a column anchor slot (R151). -/
def anchorBase (a : BitVec 64) (k : Nat) : Nat := cBits a (16 * k + 15) (16 * k)

/-- Card slots (R97): active pixel, blind pixel, column anchor. -/
def slotActive (r l : Nat) : Nat := 4 * r + l
def slotBlind (b l : Nat) : Nat := 12288 + 4 * b + l
def slotAnchor (l : Nat) : Nat := 12352 + l

/-! ### Ledgers (R161 to R164) -/

/-- HOST and SCENE entries staged in a ledger. -/
def hostCount (g : Eng) : Nat := (g.ledger.filter (fun x => !x.scene)).length
def sceneCount (g : Eng) : Nat := (g.ledger.filter (fun x => x.scene)).length

/-- Discard an engine's staged entries (R164), counted, with one NOTE and source 131. R164 can be read as asking for both where
nothing is staged too: an empty ledger has nothing discarded, and the model writes and raises neither. DESIGN CHOICE, log
69. -/
def ledgerDiscard (e : Nat) (d : Dev) : Dev :=
  let g := engOf e d
  if g.ledger.isEmpty then d
  else d |> addFldSat CAL_DISCARD.DISCARDED g.ledger.length |> raise 131
    |> note 131 [e, hostCount g, sceneCount g, 0]
    |> modEng e (fun g => { g with ledger := [] })

/-- Apply one entry to a slot's value (R158). -/
def applyEntry (x : LedgerEnt) (c : BitVec 64) : BitVec 64 :=
  if x.op = 1 then x.value
  else if x.op = 2 then
    let c := if bitN x.fmask 3 then setCBits c 63 52 (cBits x.value 63 52) else c
    let c := if bitN x.fmask 2 then setCBits c 51 12 (cBits x.value 51 12) else c
    let c := if bitN x.fmask 1 then setCBits c 11 4 (cBits x.value 11 4) else c
    if bitN x.fmask 0 then setCBits c 3 0 (cBits x.value 3 0) else c
  else
    setCBits c 11 4 (ux 8 (sat (cardTrim c + sx 8 (x.value.toNat % 256)) (-128) 127))

/-- Apply the frozen entries of a ledger in the order staged, and take them off it (R163, R167). Only a HOST entry comes
from a card load (R99). -/
def applyLedger (g : Eng) : Eng :=
  let put (x : LedgerEnt) (g : Eng) : Eng :=
    (if x.scene then putCard else setCard) x.slot (applyEntry x (card g x.slot)) g
  let g' := g.ledger.foldl (fun g x => if x.frozen then put x g else g) g
  { g' with ledger := g.ledger.filter (fun x => !x.frozen) }

/-! ### Engine states (R103 to R106, R123) -/

/-- Engine state codes. -/
def enIDLE : Nat := 0
def enRUN : Nat := 1
def enSETTLE : Nat := 2
def enFAULT : Nat := 3
def enHALT : Nat := 4
def enWARM : Nat := 5

/-- The state of engine `e`. -/
def engState (e : Nat) (d : Dev) : Nat := fld (ENG_STATE.STATE e) d

/-- The engine runs its program on rows. -/
def engRuns (e : Nat) (d : Dev) : Bool := engState e d == enRUN || engState e d == enSETTLE

/-- The source of the cluster of engine `e` (R123). -/
def raiseCluster (e : Nat) : Dev → Dev := raise (64 + e / 16)

/-- Change an engine's state (R104): GEN advances. Entering and leaving FAULTED raises the cluster's source, writes a
dailies STATE entry and is counted in PIPE_STATUS.FAULTED (R123). -/
def setEngState (e new : Nat) (d : Dev) : Dev :=
  let old := engState e d
  if old = new then d
  else
    let g := fld (ENG_STATE.GEN e) d
    let flt := new == enFAULT || old == enFAULT
    d |> setFld (ENG_STATE.STATE e) new |> setFld (ENG_STATE.GEN e) (g + 1)
      |> whenD (new == enFAULT) (addFld PIPE_STATUS.FAULTED 1)
      |> whenD (old == enFAULT) (fun d => setFld PIPE_STATUS.FAULTED (fld PIPE_STATUS.FAULTED d - 1) d)
      |> whenD flt (raiseCluster e)
      |> whenD flt (dailyState 1 e old new g ((g + 1) % 256) (fld (ENG_STATE.CAUSE e) d) 64)

/-- An engine enters FAULTED (R104, R105, R123, R164): the cause is recorded, the ledger is discarded, and the row
under way ends. From IDLE, RUNNING, SETTLING or WARMUP only. -/
def engFault (e cause : Nat) (d : Dev) : Dev :=
  let st := engState e d
  if st = enFAULT ∨ st = enHALT ∨ 6 ≤ st then d
  else d |> setFld (ENG_STATE.CAUSE e) cause |> setEngState e enFAULT
    |> setFld PIPE_FAULT_LOG.CAUSE cause |> setFld PIPE_FAULT_LOG.SLATE d.sl.no |> setFld PIPE_FAULT_LOG.ENGINE e
    |> countUp 15 |> ledgerDiscard e
    |> modEng e (fun g => { g with wait := 0, touched := g.touched && g.yielded })

/-- A trap of R134: the engine is FAULTED with cause TRAP, and the dailies record engine, word address and kind. -/
def engTrap (e word kind : Nat) (d : Dev) : Dev := d |> note 64 [e, word, kind] |> engFault e 3

/-- A row of engine `e` is emitted LATE (R116, R123). DEDUCED, log 47. -/
def engLate (e : Nat) (d : Dev) : Dev :=
  let first := fld (ENG_STAT.LATE e) d == 0
  d |> addFldSat (ENG_STAT.LATE e) 1 |> addFldSat PIPE_LATE_CNT.COUNT 1 |> whenD first (raiseCluster e)

/-- A corrected single-bit error of engine `e`: memory 1 card, 2 data, 3 program (R99). -/
def engSbe (e mem : Nat) (d : Dev) : Dev :=
  d |> addFldSat (ENG_STAT.SBE e) 1
    |> (if mem = 1 then addFldSat PIPE_ECC_CNT.CARD_SBE 1 else addFldSat PIPE_ECC_CNT.MEM_SBE 1)

/-- A double-bit error in a card or column anchor slot (R99): counted, the cluster's source raised (R123), and
written to the dailies; the slot stays bad until it is rewritten. -/
def cardDbe (e slot : Nat) (d : Dev) : Dev :=
  d |> addFldSat PIPE_ECC_CNT.CARD_DBE 1 |> raiseCluster e |> dailyMemory 1 e 2 1 slot 64

/-- Mark a slot as holding a double-bit error. -/
def markBadCard (e slot : Nat) : Dev → Dev :=
  modEng e (fun g => { g with badCards := if g.badCards.contains slot then g.badCards else slot :: g.badCards })

/-! ### Clock and budget (R100 to R102) -/

/-- Engine clock in MHz for a divider. -/
def divMHz (dv : Nat) : Nat := 1200 / dv

/-- Cycles of one row slot: floor(engine clock x TICKS x 2.5 ns). -/
def slotCycles (dv ticks : Nat) : Nat := 3 * ticks / dv

/-- avail of R101. -/
def availOf (dv ticks : Nat) : Nat := slotCycles dv ticks - 16

/-- The largest divider whose avail is at least MIN_ROW; 0x6 if none (R101). -/
def chooseDiv (ticks minRow : Nat) : Nat :=
  ([15, 12, 10, 8, 6].find? (fun dv => decide (minRow ≤ availOf dv ticks))).getD 6

/-- The divider encodings of R100. -/
def divLegal (dv : Nat) : Bool := [6, 8, 10, 12, 15].contains dv

/-- Set the divider in force, with its avail and BUDGET_SHORT (R101, R102). -/
def clockInForce (d : Dev) : Dev :=
  let ticks := ticksInForce d
  let dv := if flag PIPE_CLK.AUTO d then chooseDiv ticks (fld PIPE_CLK.MIN_ROW d) else fld PIPE_CLK.DIV d
  let av := availOf dv ticks
  let short := decide (av < fld ENGP_INFORCE.TOTAL d)
  let was := flag PIPE_STATUS.BUDGET_SHORT d
  d |> setFld PIPE_STATUS.DIV dv |> setFld PIPE_STATUS.AVAIL av |> setFlag PIPE_STATUS.BUDGET_SHORT short
    |> whenD (short && !was) (note 64 [d.sl.no % 2 ^ 32])

/-! ### Per-slate inputs (R107) -/

/-- round(a / b) for naturals. -/
def roundDiv (a b : Nat) : Nat := (2 * a + b) / (2 * b)

/-- KINV = round(2^14 x 96 / STEPS). -/
def kinvOf (steps : Nat) : Nat := if steps = 0 then 0 else roundDiv (16384 * 96) steps

/-- Anchor temperatures from CAL_ANCHOR_n, and RSPAN_k. -/
def anchorTemps (d : Dev) : List Int := (List.range 4).map (fun n => fldS (CAL_ANCHOR.TEMP n) d)
def anchorSpans (d : Dev) : List Nat := (List.range 3).map (fun n => fld (CAL_ANCHOR.RSPAN n) d)

/-- The regional gain entries in force, from CAL_RGAIN_IF_n. -/
def rgInForce (d : Dev) : List Nat :=
  (List.range 192).map (fun n =>
    if n % 2 = 0 then fld (CAL_RGAIN_IF.ENTRY_LO (n / 2)) d else fld (CAL_RGAIN_IF.ENTRY_HI (n / 2)) d)

/-- The staged regional gain entries, from CAL_RGAIN_n. -/
def rgStaged (d : Dev) : List Nat :=
  (List.range 192).map (fun n =>
    if n % 2 = 0 then fld (CAL_RGAIN.ENTRY_LO (n / 2)) d else fld (CAL_RGAIN.ENTRY_HI (n / 2)) d)

/-- Region n = 16j + i of column c, row r (R43). -/
def regionOf (c r : Nat) : Nat := 16 * (r / 256) + c / 256

end Sys2Proof.Machine
end

