-- ==== Sys2Proof/Machine/Pipeline.lean ====
section
/-! DEFINITION. The standard pipeline: the arithmetic of every pixel and of every row (04_column_engines.md R107 to
R121), bit for bit. -/

namespace Sys2Proof.Machine

/-! ### Substrate temperature (R108) -/

/-- tsub of pixel (c, r) from the thermal-map snapshot. -/
def tsubOf (snap : List Int) (c r : Nat) : Int :=
  let ci : Int := c
  let ri : Int := r
  let i := sat (tdiv (ci - 128) 256) 0 14
  let wc := sat (ci - 128 - 256 * i) 0 256
  let j := sat (tdiv (ri - 128) 256) 0 10
  let wr := sat (ri - 128 - 256 * j) 0 256
  let t (a b : Int) : Int := snap.getD (16 * b + a).toNat 0
  asr ((256 - wc) * (256 - wr) * t i j + wc * (256 - wr) * t (i + 1) j
      + (256 - wc) * wr * t i (j + 1) + wc * wr * t (i + 1) (j + 1) + 32768) 16

/-! ### Intake and offset (R109) -/

/-- x of R109: the sample rescaled to the reference window, q4. -/
def intake (kinv : Nat) (code : Nat) : Int :=
  131072 + asr ((((code : Int) - 8192) * kinv) + 512) 10

/-- The offset of a card at substrate temperature `tsub`, q4, and the EXTRAP mark (R109). -/
def offsetOf (per : PerSlate) (gratio : Nat) (cd an : BitVec 64) (tsub : Int) : Int × Bool :=
  let a (k : Nat) : Int := per.anchors.getD k 0
  let t := sat tsub (a 0 - 960) (a 3 + 960)
  let k := if t ≤ a 1 then 0 else if t ≤ a 2 then 1 else 2
  let f := asr ((t - a k) * (per.rspan.getD k 0 : Int) + 2048) 12
  let ak : Int := 16 * ((anchorBase an k : Int) + 4 * cardO cd k)
  let ak1 : Int := 16 * ((anchorBase an (k + 1) : Int) + 4 * cardO cd (k + 1))
  let off := ak + asr ((ak1 - ak) * f + 2048) 12
  let off := if per.low then 131072 + asr ((off - 131072) * gratio + 8192) 14 else off
  (off, decide (t ≠ tsub))

/-- w2 of R109: gain and trim applied to v. -/
def gainTrim (per : PerSlate) (gratio : Nat) (cd : BitVec 64) (rg : Nat) (v : Int) : Int :=
  let ge := sat (asr ((cardG cd : Int) * rg + 512) 10) 0 65535
  let w := asr (v * ge + 8192) 14
  let tq := 8 * cardTrim cd
  let tq := if per.low then asr (tq * gratio + 8192) 14 else tq
  w - tq

/-- y of R109 from w2. -/
def yOf (level : Nat) (w2 : Int) : Nat := (sat (asr (w2 + 16 * level + 8) 4) 0 65535).toNat

/-- The drift of lane `l` for the row read in slot `s` (R110). -/
def driftOf (g : Eng) (l s nsl : Nat) : Int :=
  let dt := g.dtop.getD l 0
  dt + tdiv ((dt - g.dprev.getD l 0) * ((s : Int) - 4)) nsl

/-! ### One pixel before replacement -/

/-- A pixel of a row as its engine sees it. -/
structure Px where
  e : Nat
  l : Nat
  word : Nat
  /-- Its engine runs the program on this row and delivers lane values. -/
  run : Bool
  cd : BitVec 64
  /-- Card or anchor slot with a double-bit error (R99). -/
  dbe : Bool
  tsub : Int
  w2 : Int
  extrap : Bool
  deriving DecidableEq, Repr

def Px.code (p : Px) : Nat := p.word % 16384
def Px.cf (p : Px) : Bool := bitN p.word 15
def Px.sat (p : Px) : Bool := bitN p.word 14

/-- The pixel is replaced (R111). -/
def Px.rep (p : Px) : Bool := cardBadFlags p.cd || p.cf || p.dbe

/-- The pixel can serve as a neighbour (R111). -/
def Px.nb (p : Px) : Bool := p.run && !p.rep

/-- A pixel beyond the array: no neighbour. -/
def Px.out : Px := ⟨0, 0, 0, false, 0, false, 0, 0, false⟩

/-- The four pixels of engine `e` for active row `r`, read in slot `s`. -/
def enginePx (r s : Nat) (ws : List Nat) (e : Nat) (d : Dev) : List Px :=
  let g := engOf e d
  let run := engRuns e d
  let per := d.en.per
  let gratio := fld (FPA_GCAL.GRATIO (e / 8)) d
  (List.range 4).map (fun l =>
    let c := 4 * e + l
    let word := ws.getD l 0
    let cd := card g (slotActive r l)
    let an := card g (slotAnchor l)
    let dbe := g.badCards.contains (slotActive r l) || g.badCards.contains (slotAnchor l)
    let ts := tsubOf per.snap c r
    let o := offsetOf per gratio cd an ts
    let dr := if per.driftEn then driftOf g l s (nslots d) else 0
    let v := intake per.kinv (word % 16384) - dr - o.1
    { e := e, l := l, word := word, run := run, cd := cd, dbe := dbe, tsub := ts,
      w2 := gainTrim per gratio cd (per.rg.getD (regionOf c r) 0) v, extrap := o.2 })

/-- Split a list of 4096 into groups of four. -/
def chunks4 {α : Type} : Nat → List α → List (List α)
  | 0, _ => []
  | n + 1, l => l.take 4 :: chunks4 n (l.drop 4)

/-- The pixels of a row, by column. -/
def rowPx (r s : Nat) (words : List Nat) (d : Dev) : List Px :=
  ((chunks4 1024 words).zipIdx).flatMap (fun x => enginePx r s x.1 x.2 d)

/-! ### Replacement, scene trim, radiometric value -/

/-- A pixel after replacement and lookup, with its neighbours. -/
structure PxR where
  px : Px
  left : Px
  right : Px
  /-- w2 after replacement; meaningless with NOVALUE. -/
  w2 : Int
  novalue : Bool
  /-- Corrected and radiometric values. -/
  y : Nat
  rad : Nat
  deriving DecidableEq, Repr

/-- w2 of a replaced pixel from its usable neighbours (R111). -/
def replacedW2 (p lf rt : Px) : Option Int :=
  if !p.rep then some p.w2
  else if lf.nb && rt.nb then some (tdiv (lf.w2 + rt.w2) 2)
  else if lf.nb then some lf.w2
  else if rt.nb then some rt.w2
  else none

/-- The radiometric table is in force for the gain in force (R113). -/
def radInForce (d : Dev) : Bool := d.en.radTag != 0 && (d.en.radTag == 2) == d.en.per.low

/-- E[i] of an engine's radiometric table (R98). -/
def radEntry (g : Eng) (i : Nat) : Int := (dataLE g (2 * i) 2 : Int)

/-- The lookup of R113. -/
def radLookup (g : Eng) (y : Nat) : Nat :=
  let i := y / 16
  let fr : Int := (y : Int) - 16 * i
  let ei := radEntry g i
  let e1 := if i < 4095 then radEntry g (i + 1) else 2 * radEntry g 4095 - radEntry g 4094
  (sat (ei + asr ((e1 - ei) * fr + 8) 4) 1 65535).toNat

/-- Steps 5 and 7 for one pixel (R111, R113, R117). -/
def pixelOut (d : Dev) (p lf rt : Px) : PxR :=
  let level := d.en.per.level
  match replacedW2 p lf rt with
  | none => ⟨p, lf, rt, 0, true, level, 0⟩
  | some w2 =>
    let y := yOf level w2
    let rad :=
      if !radInForce d then 0
      else if !p.rep && p.sat && p.code == 16383 then 65535
      else radLookup (engOf p.e d) y
    ⟨p, lf, rt, w2, false, y, rad⟩

/-- Each element with its left and right neighbours. -/
def withNeighbours (l : List Px) : List (Px × Px × Px) :=
  List.zip l (List.zip (Px.out :: l) (l.drop 1 ++ [Px.out]))

/-- The pixels of a row after steps 5 and 7. -/
def rowOut (pxs : List Px) (d : Dev) : List PxR :=
  (withNeighbours pxs).map (fun x => pixelOut d x.1 x.2.1 x.2.2)

/-- The 2-bit scene-trim counter of pixel n = 4r + l (R98, R112); 0b10 is read as 0. -/
def stCounter (g : Eng) (n : Nat) : Int :=
  let b := dataLE g (0x2000 + n / 4) 1
  let x := bitsN b (2 * (n % 4) + 1) (2 * (n % 4))
  if x = 1 then 1 else if x = 3 then -1 else 0

/-- Write the scene-trim counter of pixel n. -/
def setStCounter (n : Nat) (v : Int) (g : Eng) : Eng :=
  let a := 0x2000 + n / 4
  let b := dataLE g a 1
  let sh := 2 * (n % 4)
  let b' := b - bitsN b (sh + 1) sh * 2 ^ sh + ux 2 v * 2 ^ sh
  setData a 1 b' g

/-- A scene-trim request of +1 or -1 for a slot (R112, R161): dropped at the trim's limit; not made beyond PIPE_ST.MAX
or when the ledger has no room, which leaves the counter at ±1. -/
def stRequest (e slot n : Nat) (step : Int) (d : Dev) : Dev :=
  let g := engOf e d
  let tr := cardTrim (card g slot) + step
  if fld PIPE_ST.MAX d ≤ g.reqs then d
  else if tr < -128 ∨ 127 < tr then modEng e (setStCounter n 0) d
  else if 1024 ≤ g.ledger.length ∨ fld CAL_LEDGER_CFG.SCENE_MAX d ≤ sceneCount g then
    let first := fld CAL_DISCARD.SCENE_DROPPED d == 0
    d |> addFldSat CAL_DISCARD.SCENE_DROPPED 1 |> whenD first (raise 133)
  else
    modEng e (fun g => setStCounter n 0 { g with
      reqs := g.reqs + 1
      ledger := g.ledger ++ [{ slot := slot, op := 3, value := BitVec.ofNat 64 (ux 8 step), fmask := 0,
                               scene := true, frozen := false }] }) d

/-- Step 6 for one pixel of active row `r` (R112). -/
def sceneTrim (r : Nat) (x : PxR) (d : Dev) : Dev :=
  let p := x.px
  if !d.en.per.stEn || p.rep || cardSusp p.cd || !x.left.nb || !x.right.nb || !p.run then d
  else if !bitN d.en.per.gates (regionOf (4 * p.e + p.l) r) then d
  else
    let q := p.w2 - tdiv (x.left.w2 + x.right.w2) 2
    let dead : Int := fld PIPE_ST.DEAD d
    let step : Int := if dead < q then 1 else if q < -dead then -1 else 0
    let n := 4 * r + p.l
    let cn := stCounter (engOf p.e d) n
    if step = 0 then d
    else if step = cn then stRequest p.e (slotActive r p.l) n step d
    else modEng p.e (setStCounter n (cn + step)) d

/-! ### Cells and histogram (R114, R115) -/

/-- Byte address of the record of active row `r`. -/
def cellRec (r : Nat) : Nat := 0x2C00 + 16 * ((r / 6) % 256)

/-- Add one radiometric value to the record of active row `r` (R114). -/
def cellAdd (r : Nat) (g : Eng) (rad : Nat) : Eng :=
  let a := cellRec r
  let thr := dataLE g (a + 10) 2
  g |> setData a 2 (max (dataLE g a 2) rad) |> setData (a + 2) 2 (min (dataLE g (a + 2) 2) rad)
    |> setData (a + 4) 4 (dataLE g (a + 4) 4 + rad) |> setData (a + 8) 1 (dataLE g (a + 8) 1 + 1)
    |> (if thr ≤ rad then setData (a + 9) 1 (dataLE g (a + 9) 1 + 1) else id)

/-- The engine that holds the cell of column pair `p` and active row `r` (R95). -/
def holderOf (p r : Nat) : Nat := if r < 1536 then 2 * p else 2 * p + 1

/-- Add one corrected value to the histogram; a bin counts up to 12,288 and does not wrap (R115). -/
def histAdd (lo shift : Nat) (g : Eng) (y : Int) : Eng :=
  let bin := (sat (asr (y - lo) shift) 0 255).toNat
  let a := 0x3C00 + 2 * bin
  if 12288 ≤ dataLE g a 2 then g else setData a 2 (dataLE g a 2 + 1) g

/-- A record cleared at frame close (R121): THR is kept. -/
def clearRec (k : Nat) (g : Eng) : Eng :=
  let a := 0x2C00 + 16 * k
  g |> setData a 2 0 |> setData (a + 2) 2 0xFFFF |> setData (a + 4) 4 0 |> setData (a + 8) 2 0

/-- Every record and bin cleared (R121). -/
def clearFrame (g : Eng) : Eng :=
  setBytes 0x3C00 (List.replicate 512 0) ((List.range 256).foldl (fun g k => clearRec k g) g)

/-- Reading of the array starts in an engine: the sums, requests, records and bins of a slate that SAFE cut short do not
count in the first slate (R110, R112, R114, R115), and Dprev takes Dtop when it is next formed. DEDUCED, log 54. -/
def readStart (g : Eng) : Eng :=
  clearFrame { g with fresh := true, reqs := 0, rsum := [], tsum := [0, 0, 0, 0], tcnt := [0, 0, 0, 0]
                      bsum := [0, 0, 0, 0], bcnt := [0, 0, 0, 0] }

/-! ### Blind rows (R110) -/

/-- Blind index of a blind row: 0 to 7 top, 8 to 15 bottom (R97). -/
def blindIndex : Row → Nat
  | .top i => i
  | .bottom i => 8 + i
  | _ => 0

/-- Add a value at one place of a list of four. -/
def addAt (l : List Int) (i : Nat) (x : Int) : List Int :=
  (List.range 4).map (fun k => l.getD k 0 + if k = i then x else 0)
def incAt (l : List Nat) (i : Nat) : List Nat := (List.range 4).map (fun k => l.getD k 0 + if k = i then 1 else 0)

/-- A blind row in one engine: every usable sample adds x - off to the slate's sum of its end (R110). -/
def blindEngine (row : Row) (ws : List Nat) (e : Nat) (d : Dev) : Dev :=
  if !engRuns e d then d
  else
    let per := d.en.per
    let gratio := fld (FPA_GCAL.GRATIO (e / 8)) d
    let b := blindIndex row
    let r := if b < 8 then 0 else 3071
    modEng e (fun g => (List.range 4).foldl (fun g l =>
      let word := ws.getD l 0
      let cd := card g (slotBlind b l)
      let bad := g.badCards.contains (slotBlind b l) || g.badCards.contains (slotAnchor l)
      if cardDead cd || bitN word 15 || bad then g
      else
        let o := offsetOf per gratio cd (card g (slotAnchor l)) (tsubOf per.snap (4 * e + l) r)
        let x := intake per.kinv (word % 16384) - o.1
        if b < 8 then { g with tsum := addAt g.tsum l x, tcnt := incAt g.tcnt l }
        else { g with bsum := addAt g.bsum l x, bcnt := incAt g.bcnt l }) g) d

/-- The last top blind row has been processed: Dtop of each lane, or DRIFT_HOLD where none was usable; after IDLE to
RUNNING and after RESTART, Dprev equals Dtop (R110). -/
def formDtop (g : Eng) : Eng :=
  let lanes := List.range 4
  let dt := lanes.map (fun l =>
    if g.tcnt.getD l 0 = 0 then g.dtop.getD l 0 else tdiv (g.tsum.getD l 0) (g.tcnt.getD l 0))
  { g with dtop := dt, hold := lanes.map (fun l => g.tcnt.getD l 0 == 0),
           dprev := if g.fresh then dt else g.dprev, fresh := false,
           tsum := [0, 0, 0, 0], tcnt := [0, 0, 0, 0] }

/-- The last bottom blind row has been processed: Dbot (R110). A lane with no usable bottom sample keeps its Dbot, as R110
says of Dtop; of Dbot it says nothing. DESIGN CHOICE, log 54. -/
def formDbot (g : Eng) : Eng :=
  let db := (List.range 4).map (fun l =>
    if g.bcnt.getD l 0 = 0 then g.dbot.getD l 0 else tdiv (g.bsum.getD l 0) (g.bcnt.getD l 0))
  { g with dbot := db, bsum := [0, 0, 0, 0], bcnt := [0, 0, 0, 0] }

end Sys2Proof.Machine
end

