-- ==== Sys2Proof/Machine/Cores.lean ====
section
/-! DEFINITION. The column instruction set: encodings and the effect of every opcode on one engine
(05_column_programs.md R126 to R139). -/

namespace Sys2Proof.Machine

/-- What a neighbour read finds (R96, R135): no valid neighbour, nothing published yet, or the four lanes. -/
inductive Nb where
  | invalid
  | waits
  | lanes (v : List (BitVec 32))
  deriving DecidableEq, Repr

/-- What an instruction sees outside its engine: engine number, the special values of R129, the neighbours'
publications by channel, the extension's length (0 for none), whether HOOK is executed, and the low address limit of
data memory whose content is undefined in this slate. -/
structure Cx where
  e : Nat
  special : List Nat
  left : Nat → Nb
  right : Nat → Nb
  extLen : Nat
  hook : Bool
  undefTo : Nat
  slate : Nat
  blind : Bool

/-- The effect of an instruction on its engine: done, a trap of R134 with its kind, or a wait. -/
inductive Eff where
  | ok (g : Eng)
  | trap (kind : Nat)
  | wait (side : Nat)
  deriving DecidableEq, Repr

/-! ### Registers and guards (R130) -/

/-- Field bits of an instruction word. -/
def fb (w : BitVec 32) (hi lo : Nat) : Nat := getBits w hi lo

def vreg (g : Eng) (r l : Nat) : BitVec 32 := mget (fun _ => 0#32) g.v (4 * r + l)
def sreg (g : Eng) (r : Nat) : BitVec 32 := mget (fun _ => 0#32) g.sc r
def preg (g : Eng) (r : Nat) : Nat := mget (fun _ => 0) g.p r
def setV (r l : Nat) (x : BitVec 32) (g : Eng) : Eng := { g with v := mset (fun _ => 0#32) g.v (4 * r + l) x }
def setS (r : Nat) (x : BitVec 32) (g : Eng) : Eng := { g with sc := mset (fun _ => 0#32) g.sc r x }
def setP (r x : Nat) (g : Eng) : Eng := { g with p := mset (fun _ => 0) g.p r (x % 16) }

/-- The lane guard of a word: lane `l` is written (R130). -/
def guarded (w : BitVec 32) (g : Eng) (l : Nat) : Bool :=
  if fb w 25 25 = 1 then bitN (preg g (fb w 23 22)) l != (fb w 24 24 == 1) else true

/-- Write the guarded lanes of a vector register. -/
def laneWrite (w : BitVec 32) (g : Eng) (vd : Nat) (f : Nat → BitVec 32) : Eng :=
  (List.range 4).foldl (fun h l => if guarded w g l then setV vd l (f l) h else h) g

/-- Write the guarded lanes of a predicate. -/
def predWrite (w : BitVec 32) (g : Eng) (pd : Nat) (f : Nat → Bool) : Eng :=
  setP pd ((List.range 4).foldl (fun a l =>
    a + (if (if guarded w g l then f l else bitN (preg g pd) l) then 2 ^ l else 0)) 0) g

/-- The 32-bit word of an integer, wrapping. -/
def w32 (i : Int) : BitVec 32 := BitVec.ofInt 32 i

/-- Saturate to a signed 32-bit word. -/
def sat32 (i : Int) : BitVec 32 := w32 (sat i (-2147483648) 2147483647)

/-- Rounding of R132: 2^(n-1) when asked for and n > 0. -/
def rnd (on : Bool) (n : Nat) : Int := if on && n != 0 then (2 ^ (n - 1) : Nat) else 0

/-- The shift count of a lane: X[4:0], or VB lane [4:0] when X[5] = 1 (R132). -/
def shiftN (w : BitVec 32) (g : Eng) (l : Nat) : Nat :=
  if fb w 5 5 = 1 then (vreg g (fb w 13 10) l).toNat % 32 else fb w 4 0

/-! ### Legality (R131) -/

/-- The bits of [25:0] that an opcode may set. -/
def usedBits (op : Nat) : Nat :=
  let guard := 0x3C00000
  let vvv := 0x3FFC00
  if op = 0x00 ∨ op = 0x3F then 0
  else if op ≤ 0x07 ∨ op = 0x0B ∨ op = 0x0C then guard + vvv
  else if op = 0x08 ∨ op = 0x0A then guard + vvv + 0x3F
  else if op = 0x09 then guard + vvv + 0x7F
  else if op = 0x0D then guard + 0x3FC000 + 0x3F
  else if op = 0x0E then guard + vvv + 0x3
  else if op = 0x0F then guard + 0x03FC00 + 0x1F
  else if op = 0x10 then guard + 0x3FFFFF
  else if op = 0x11 then guard + 0x3C3FFF
  else if op = 0x12 then guard + 0x3C0000 + 0x7
  else if op = 0x13 then guard + 0x3C0000 + 0x1
  else if op = 0x14 then 0x03C000 + 0x1F
  else if op = 0x15 then guard + 0x1FF
  else if op = 0x18 ∨ op = 0x19 ∨ op = 0x1A then guard + vvv + 0x7F
  else if op = 0x20 then 0x3FFFFF
  else if op = 0x21 ∨ op = 0x22 ∨ op = 0x24 then 0x38FFFF
  else if op = 0x23 then 0x3F003F
  else if 0x28 ≤ op ∧ op ≤ 0x2C then guard + 0x3FFFFF
  else if op = 0x2D then 0x3FFFFF
  else if op = 0x2E ∨ op = 0x2F then guard + 0x3FFFFF
  else if op = 0x30 ∨ op = 0x32 then guard + 0x3FC000 + 0x7
  else if op = 0x31 then guard + 0x03FC00 + 0x7
  else if op = 0x34 then 0x03F000
  else if op = 0x35 ∨ op = 0x36 then 0x3FFC00
  else if op = 0x38 ∨ op = 0x3A then 0x03CC00
  else if op = 0x39 then 0x000C00
  else if op = 0x3B then 0x3FC003
  else if op = 0x3C then 0x3FFFF0
  else if op = 0x3D then 0x3FF000
  else if op = 0x3E then 1
  else 0

/-- An opcode value of R132. -/
def opDefined (op : Nat) : Bool :=
  decide (op ≤ 0x15) || (decide (0x18 ≤ op) && decide (op ≤ 0x1A)) || (decide (0x20 ≤ op) && decide (op ≤ 0x24)) ||
  (decide (0x28 ≤ op) && decide (op ≤ 0x32)) || (decide (0x34 ≤ op) && decide (op ≤ 0x36)) ||
  (decide (0x38 ≤ op) && decide (op ≤ 0x3F))

/-- A word is a legal encoding (R131): a defined opcode, every unused field 0, no reserved value. PNEG and PG of an opcode
that takes a guard may be nonzero with PEN = 0; a field that the form at hand does not use (VB or X[4:0] of a shift, PA or
PB of PLOG, SA of LOOP) must be 0. DEDUCED, log 55. -/
def encLegal (w : BitVec 32) : Bool :=
  let op := fb w 31 26
  opDefined op && (w.toNat % 2 ^ 26) &&& usedBits op == w.toNat % 2 ^ 26 &&
  (if op = 0x08 ∨ op = 0x09 ∨ op = 0x0A then
      (if fb w 5 5 = 1 then fb w 4 0 == 0 else fb w 13 10 == 0)
   else if op = 0x15 then
      fb w 8 6 != 7 && (fb w 8 6 != 4 || fb w 5 4 == 0) && (decide (fb w 8 6 < 5) || fb w 5 2 == 0)
   else if op = 0x18 ∨ op = 0x19 ∨ op = 0x1A then decide (fb w 5 0 < 48)
   else if op = 0x24 then decide (fb w 15 0 ≤ 9)
   else if op = 0x2E ∨ op = 0x2F ∨ op = 0x32 then fb w 18 18 == 0
   else if op = 0x3B then decide (fb w 1 0 < 2)
   else if op = 0x3C then fb w 17 10 != 0 && fb w 9 4 != 0 && (fb w 21 21 == 1 || fb w 20 18 == 0)
   else if op = 0x3D then fb w 17 12 != 0
   else true)

/-! ### Arithmetic opcodes -/

def opVbin (f : BitVec 32 → BitVec 32 → BitVec 32) (w : BitVec 32) (g : Eng) : Eng :=
  laneWrite w g (fb w 21 18) (fun l => f (vreg g (fb w 17 14) l) (vreg g (fb w 13 10) l))

def opVadd : BitVec 32 → Eng → Eng := opVbin (· + ·)
def opVsub : BitVec 32 → Eng → Eng := opVbin (· - ·)
def opVadds : BitVec 32 → Eng → Eng := opVbin (fun a b => sat32 (a.toInt + b.toInt))
def opVsubs : BitVec 32 → Eng → Eng := opVbin (fun a b => sat32 (a.toInt - b.toInt))
def opVand : BitVec 32 → Eng → Eng := opVbin (· &&& ·)
def opVor : BitVec 32 → Eng → Eng := opVbin (· ||| ·)
def opVxor : BitVec 32 → Eng → Eng := opVbin (· ^^^ ·)
def opVmin : BitVec 32 → Eng → Eng := opVbin (fun a b => if a.toInt ≤ b.toInt then a else b)
def opVmax : BitVec 32 → Eng → Eng := opVbin (fun a b => if a.toInt ≤ b.toInt then b else a)

def opVshl (w : BitVec 32) (g : Eng) : Eng :=
  laneWrite w g (fb w 21 18) (fun l => vreg g (fb w 17 14) l <<< shiftN w g l)

/-- VSHR: (VA + rnd) >> n, arithmetic; the sum is not wrapped before the shift. -/
def opVshr (w : BitVec 32) (g : Eng) : Eng :=
  laneWrite w g (fb w 21 18) (fun l =>
    let n := shiftN w g l
    w32 (asr ((vreg g (fb w 17 14) l).toInt + rnd (fb w 6 6 == 1) n) n))

def opVshru (w : BitVec 32) (g : Eng) : Eng :=
  laneWrite w g (fb w 21 18) (fun l => vreg g (fb w 17 14) l >>> shiftN w g l)

/-- VCLAMP: the value that a range whose ends are crossed gives is not stated. DESIGN CHOICE, log 13. -/
def opVclamp (w : BitVec 32) (g : Eng) : Eng :=
  laneWrite w g (fb w 21 18) (fun l =>
    let x := vreg g (fb w 17 14) l
    let lo := sreg g (fb w 2 0)
    let hi := sreg g (fb w 5 3)
    if hi.toInt < lo.toInt then Config.emptyClamp x lo hi else w32 (sat x.toInt lo.toInt hi.toInt))

def opVsel (w : BitVec 32) (g : Eng) : Eng :=
  laneWrite w g (fb w 21 18) (fun l =>
    if bitN (preg g (fb w 1 0)) l then vreg g (fb w 17 14) l else vreg g (fb w 13 10) l)

/-- The conditions of VCMP. -/
def vcond (k : Nat) (a b : BitVec 32) : Bool :=
  if k = 0 then a == b else if k = 1 then a != b
  else if k = 2 then decide (a.toInt < b.toInt) else if k = 3 then decide (a.toInt ≤ b.toInt)
  else if k = 4 then decide (b.toInt < a.toInt) else if k = 5 then decide (b.toInt ≤ a.toInt)
  else if k = 6 then decide (a.toNat < b.toNat) else decide (b.toNat ≤ a.toNat)

def opVcmp (w : BitVec 32) (g : Eng) : Eng :=
  predWrite w g (fb w 4 3) (fun l => vcond (fb w 2 0) (vreg g (fb w 17 14) l) (vreg g (fb w 13 10) l))

def opVaddi (w : BitVec 32) (g : Eng) : Eng :=
  laneWrite w g (fb w 21 18) (fun l => vreg g (fb w 17 14) l + w32 (sx 14 (fb w 13 0)))

def opVli (w : BitVec 32) (g : Eng) : Eng := laneWrite w g (fb w 21 18) (fun _ => w32 (sx 14 (fb w 13 0)))

def opVsplat (w : BitVec 32) (g : Eng) : Eng := laneWrite w g (fb w 21 18) (fun _ => sreg g (fb w 2 0))

def opVidx (cx : Cx) (w : BitVec 32) (g : Eng) : Eng :=
  laneWrite w g (fb w 21 18) (fun l => BitVec.ofNat 32 (if fb w 0 0 = 1 then l else 4 * cx.e + l))

def opVext (w : BitVec 32) (g : Eng) : Eng := setS (fb w 2 0) (vreg g (fb w 17 14) (fb w 4 3)) g

def opPlog (w : BitVec 32) (g : Eng) : Eng :=
  let op := fb w 8 6
  predWrite w g (fb w 1 0) (fun l =>
    let a := bitN (preg g (fb w 3 2)) l
    let b := bitN (preg g (fb w 5 4)) l
    if op = 0 then a && b else if op = 1 then a || b else if op = 2 then a != b
    else if op = 3 then a && !b else if op = 4 then !a else op == 5)

/-- The shifted product of VMUL, VMAC and VMULS. -/
def mulShift (w : BitVec 32) (g : Eng) (l : Nat) : Int :=
  let n := fb w 5 0
  asr ((vreg g (fb w 17 14) l).toInt * (vreg g (fb w 13 10) l).toInt + rnd (fb w 6 6 == 1) n) n

def opVmul (w : BitVec 32) (g : Eng) : Eng := laneWrite w g (fb w 21 18) (fun l => w32 (mulShift w g l))
def opVmac (w : BitVec 32) (g : Eng) : Eng :=
  laneWrite w g (fb w 21 18) (fun l => vreg g (fb w 21 18) l + w32 (mulShift w g l))
def opVmuls (w : BitVec 32) (g : Eng) : Eng := laneWrite w g (fb w 21 18) (fun l => sat32 (mulShift w g l))

def opSadd (w : BitVec 32) (g : Eng) : Eng :=
  setS (fb w 21 19) (sreg g (fb w 18 16) + w32 (sx 16 (fb w 15 0))) g
def opSli (w : BitVec 32) (g : Eng) : Eng := setS (fb w 21 19) (BitVec.ofNat 32 (fb w 15 0)) g
def opSlui (w : BitVec 32) (g : Eng) : Eng :=
  setS (fb w 21 19) (BitVec.ofNat 32 ((sreg g (fb w 21 19)).toNat % 65536 + 65536 * fb w 15 0)) g

/-- The operations of SALU. -/
def salu (op : Nat) (a b : BitVec 32) : BitVec 32 :=
  if op = 0 then a + b else if op = 1 then a - b else if op = 2 then a &&& b else if op = 3 then a ||| b
  else if op = 4 then a <<< (b.toNat % 32) else if op = 5 then w32 (asr a.toInt (b.toNat % 32))
  else if op = 6 then (if a.toInt ≤ b.toInt then a else b) else (if a.toInt ≤ b.toInt then b else a)

def opSalu (w : BitVec 32) (g : Eng) : Eng :=
  setS (fb w 21 19) (salu (fb w 2 0) (sreg g (fb w 18 16)) (sreg g (fb w 5 3))) g

def opSget (cx : Cx) (w : BitVec 32) (g : Eng) : Eng :=
  setS (fb w 21 19) (BitVec.ofNat 32 (cx.special.getD (fb w 15 0) 0)) g

/-! ### Memory opcodes (R133, R134) -/

/-- `n` bytes of data memory as a column program reads them; the content of the state area, but for what the program has
stored there since the control cores wrote it, and of the work area in a take, is not defined. DESIGN CHOICE, log 14. -/
def ldData (cx : Cx) (g : Eng) (a n : Nat) : Nat :=
  if a < cx.undefTo ∨ (0x3E00 ≤ a ∧ a < 0x3F00) then
    (List.range n).foldl (fun x i => x + 256 ^ i *
      (if 0x3E00 ≤ a ∧ g.own.contains (a + i) then dataLE g (a + i) 1
       else Config.undefByte cx.e (a + i) cx.slate % 256)) 0
  else dataLE g a n

/-- A column program stores `n` bytes (R132). -/
def storeData (a n x : Nat) (g : Eng) : Eng :=
  let g := setData a n x g
  if 0x3E00 ≤ a ∧ a < 0x3F00 then
    { g with own := ((List.range n).map (a + ·)).filter (fun b => !g.own.contains b) ++ g.own }
  else g

/-- A data access of `n` bytes is aligned and inside the memory. -/
def dataOk (a n : Nat) : Bool := decide (a + n ≤ 0x4000) && decide (a % n = 0)

/-- Per-lane access in lane order: `f` answers a lane's effect; the first trap ends the instruction. A masked lane makes no
access, so that its address takes no trap, and an instruction that traps writes nothing, the lanes before the one that
traps included; R134 says neither. DESIGN CHOICE, log 64. -/
def lanesDo (w : BitVec 32) (g : Eng) (f : Nat → Eng → Eff) : Eff :=
  (List.range 4).foldl (fun acc l =>
    match acc with
    | .ok h => if guarded w g l then f l h else .ok h
    | x => x) (.ok g)

/-- The address SA + OFF of an M-format word, wrapping at 32 bits. -/
def mAddr (w : BitVec 32) (g : Eng) (add : Nat) : Nat :=
  ((sreg g (fb w 17 15)).toNat + fb w 14 0 + add) % 2 ^ 32

/-- LDDW, LDDH, LDDHU: `n` bytes a lane, sign-extended or not. -/
def opLdd (n : Nat) (signed : Bool) (cx : Cx) (w : BitVec 32) (g : Eng) : Eff :=
  lanesDo w g (fun l h =>
    let a := mAddr w g (n * l)
    if !dataOk a n then .trap 2
    else
      let x := ldData cx g a n
      .ok (setV (fb w 21 18) l (if signed then w32 (sx (8 * n) x) else BitVec.ofNat 32 x) h))

/-- A store of `n` bytes at `a` is permitted: inside the memory, and inside the user area for an extension (R133, R134). A
run of the extension is one that HOOK has entered: words from 1,280 that a program reaches by running past word 1,279 are not
held to the user area. DESIGN CHOICE, log 68. -/
def storeTrap (g : Eng) (a n : Nat) : Option Nat :=
  if !dataOk a n then some 2 else if g.inExt && decide (a < 0x3F00) then some 5 else none

/-- STDW, STDH. -/
def opStd (n : Nat) (w : BitVec 32) (g : Eng) : Eff :=
  lanesDo w g (fun l h =>
    let a := mAddr w g (n * l)
    match storeTrap g a n with
    | some k => .trap k
    | none => .ok (storeData a n ((vreg g (fb w 21 18) l).toNat % 256 ^ n) h))

/-- LDS: R132 does not say how IMM16 is extended; it is taken as unsigned, as OFF of the M format is. DEDUCED, log 55. -/
def opLds (cx : Cx) (w : BitVec 32) (g : Eng) : Eff :=
  let a := ((sreg g (fb w 18 16)).toNat + fb w 15 0) % 2 ^ 32
  if !dataOk a 4 then .trap 2 else .ok (setS (fb w 21 19) (BitVec.ofNat 32 (ldData cx g a 4)) g)

/-- DESIGN CHOICE, log 14. -/
def opLdc (cx : Cx) (w : BitVec 32) (g : Eng) : Eff :=
  lanesDo w g (fun l h =>
    let n := mAddr w g l
    if 12800 ≤ n then .trap 3
    else
      -- a slot with a double-bit error reads as no stated value (R99)
      let c := if g.badCards.contains n then BitVec.ofNat 64 (Config.undefByte cx.e (131072 + n) cx.slate)
        else card g n
      .ok (h |> setV (fb w 21 18) l (BitVec.ofNat 32 (cBits c 31 0))
        |> setV (fb w 21 18 + 1) l (BitVec.ofNat 32 (cBits c 63 32))))

def opStc (w : BitVec 32) (g : Eng) : Eff :=
  lanesDo w g (fun l h =>
    let n := mAddr w g l
    if 12800 ≤ n then .trap 3 else if n < 12356 then .trap 4
    else .ok (setCard n (BitVec.ofNat 64 ((vreg g (fb w 21 18) l).toNat + 2 ^ 32 *
      (vreg g (fb w 21 18 + 1) l).toNat)) h))

/-- The lane address of LDX and STX: S[X[2:0]] + 2 x VA lane, wrapping. -/
def xAddr (w : BitVec 32) (g : Eng) (l : Nat) : Nat :=
  ((sreg g (fb w 2 0)).toNat + 2 * (vreg g (fb w 17 14) l).toNat) % 2 ^ 32

def opLdx (cx : Cx) (w : BitVec 32) (g : Eng) : Eff :=
  lanesDo w g (fun l h =>
    let a := xAddr w g l
    if !dataOk a 2 then .trap 2 else .ok (setV (fb w 21 18) l (BitVec.ofNat 32 (ldData cx g a 2)) h))

def opStx (w : BitVec 32) (g : Eng) : Eff :=
  lanesDo w g (fun l h =>
    let a := xAddr w g l
    match storeTrap g a 2 with
    | some k => .trap k
    | none => .ok (storeData a 2 ((vreg g (fb w 13 10) l).toNat % 65536) h))

/-- The address of the table entry that a lane of TLU selects, or with `k` = 1 of the one after it. -/
def tluAddr (w : BitVec 32) (g : Eng) (l k : Nat) : Nat :=
  ((sreg g (fb w 2 0)).toNat + 2 * min ((sat (vreg g (fb w 17 14) l).toInt 0 4095).toNat + k) 4095) % 2 ^ 32

def opTlu (cx : Cx) (w : BitVec 32) (g : Eng) : Eff :=
  lanesDo w g (fun l h =>
    let a := tluAddr w g l 0
    let b := tluAddr w g l 1
    if !dataOk a 2 || !dataOk b 2 then .trap 2
    else .ok (h |> setV (fb w 21 18) l (BitVec.ofNat 32 (ldData cx g a 2))
      |> setV (fb w 21 18 + 1) l (BitVec.ofNat 32 (ldData cx g b 2))))

/-! ### Neighbour, cell, histogram and emit opcodes (R135 to R137) -/

/-- The four lanes of a vector register. -/
def vlanes (g : Eng) (r : Nat) : List (BitVec 32) := (List.range 4).map (vreg g r)

/-- NPUB: R135 has an engine publish on a channel at most once per row and does not say what a second one does: the first
value stays. DESIGN CHOICE, log 68. -/
def opNpub (w : BitVec 32) (g : Eng) : Eng :=
  let ch := fb w 13 12
  if g.pubs.any (fun x => x.1 == ch) then g
  else { g with pubs := g.pubs ++ [(ch, vlanes g (fb w 17 14))] }

/-- NLEFT: lanes 1 to 3 from VA lanes 0 to 2, lane 0 from lane 3 of the left neighbour. -/
def opNleft (cx : Cx) (w : BitVec 32) (g : Eng) : Eff :=
  let va := vlanes g (fb w 17 14)
  let put (x : BitVec 32) (ok : Bool) : Eff :=
    .ok (([x, va.getD 0 0, va.getD 1 0, va.getD 2 0].zipIdx.foldl (fun h y => setV (fb w 21 18) y.2 y.1 h)
      { g with nlefts := g.nlefts + 1 }) |> setP (fb w 11 10) (14 + b2n ok))
  match cx.left (fb w 13 12) with
  | .invalid => put 0 false
  | .waits => .wait 1
  | .lanes v => put (v.getD 3 0) true

/-- NRIGHT: lanes 0 to 2 from VA lanes 1 to 3, lane 3 from lane 0 of the right neighbour. -/
def opNright (cx : Cx) (w : BitVec 32) (g : Eng) : Eff :=
  let va := vlanes g (fb w 17 14)
  let put (x : BitVec 32) (ok : Bool) : Eff :=
    .ok (([va.getD 1 0, va.getD 2 0, va.getD 3 0, x].zipIdx.foldl (fun h y => setV (fb w 21 18) y.2 y.1 h)
      { g with nrights := g.nrights + 1 }) |> setP (fb w 11 10) (7 + 8 * b2n ok))
  match cx.right (fb w 13 12) with
  | .invalid => put 0 false
  | .waits => .wait 2
  | .lanes v => put (v.getD 0 0) true

/-- The values of VA in the lanes where P[PD] is 1, with their lanes. -/
def predLanes (w : BitVec 32) (g : Eng) : List (Nat × BitVec 32) :=
  ((List.range 4).filter (fun l => bitN (preg g (fb w 11 10)) l)).map (fun l => (l, vreg g (fb w 17 14) l))

def opCacc (w : BitVec 32) (g : Eng) : Eng := { g with cacc := g.cacc ++ (predLanes w g).map (fun x => (x.1, x.2.toNat)) }

/-- HADD: a lane is signed (R130), so that a negative value falls below LO (04_column_engines.md R115). -/
def opHadd (w : BitVec 32) (g : Eng) : Eng := { g with hadd := g.hadd ++ (predLanes w g).map (fun x => (x.1, x.2.toInt)) }

/-- CCNT: in a blind row, and a second one in a row, nothing (R137). -/
def opCcnt (cx : Cx) (w : BitVec 32) (g : Eng) : Eng :=
  if cx.blind || g.ccnt.isSome then g else { g with ccnt := some (popcount 4 (preg g (fb w 11 10))) }

/-- EMIT: the low 16 bits of each lane, where R132 does not say how a lane becomes a value of the stream; the marks of the
row's last EMIT count for the row, of two with different marks. DESIGN CHOICE, log 63. -/
def opEmit (w : BitVec 32) (g : Eng) : Eng :=
  let ls := (vlanes g (fb w 17 14)).map (fun (x : BitVec 32) => x.toNat % 65536)
  let g := { g with emMarks := (vlanes g (fb w 21 18)).map (fun (x : BitVec 32) => x.toNat) }
  if fb w 1 0 = 0 then { g with emC := some ls } else { g with emR := some ls }

/-! ### Control opcodes (R138, R139) -/

def opLoop (w : BitVec 32) (g : Eng) : Eng :=
  let c := fb w 17 10
  let live := if fb w 21 21 = 1 then (sat (sreg g (fb w 20 18)).toInt 0 c).toNat else c
  { g with loops := { body := g.pc + 1, last := g.pc + fb w 9 4, left := c, live := live } :: g.loops }

/-- The condition of SKIP on a predicate: ANY, ALL, NONE, NOTALL. -/
def skipCond (k p : Nat) : Bool :=
  if k = 0 then p != 0 else if k = 1 then p == 15 else if k = 2 then p == 0 else p != 15

def opSkip (w : BitVec 32) (g : Eng) : Eng :=
  if skipCond (fb w 19 18) (preg g (fb w 21 20)) then { g with skipTo := g.pc + 1 + fb w 17 12 } else g

/-- HOOK: with an extension in force, control goes to word 1,280 (R139). -/
def opHook (cx : Cx) (g : Eng) : Eng :=
  if cx.hook && cx.extLen != 0 then { g with retPc := g.pc, pc := 1279, inExt := true } else g

/-- RET: back to the word after HOOK. -/
def opRet (g : Eng) : Eng := { g with pc := g.retPc, inExt := false }

/-! ### One instruction -/

/-- The word at `pc` is skipped: inside a SKIP range, or an iteration beyond a loop's count (R138). -/
def skipped (g : Eng) : Bool := decide (g.pc < g.skipTo) || g.loops.any (fun f => f.live == 0)

/-- After the word at `pc`: the next word, or the start of a loop body again; ended loops are left. -/
def nextPc : List LoopFr → Eng → Eng
  | [], g => { g with pc := g.pc + 1, loops := [] }
  | f :: r, g =>
    if g.pc = f.last then
      if 1 < f.left then
        { g with pc := f.body, skipTo := 0, loops := { f with left := f.left - 1, live := f.live - 1 } :: r }
      else nextPc r g
    else { g with pc := g.pc + 1, loops := f :: r }

/-- Past the end of program memory, or of the extension (R134 kind 6). -/
def pastEnd (cx : Cx) (g : Eng) : Bool :=
  decide (2047 < g.pc) || (g.inExt && decide (1280 + cx.extLen ≤ g.pc))

/-- The effect of a legal word that is not skipped. YIELD is completed by the caller. -/
def opEffect (cx : Cx) (w : BitVec 32) (g : Eng) : Eff :=
  let op := fb w 31 26
  if op = 0x01 then .ok (opVadd w g) else if op = 0x02 then .ok (opVsub w g)
  else if op = 0x03 then .ok (opVadds w g) else if op = 0x04 then .ok (opVsubs w g)
  else if op = 0x05 then .ok (opVand w g) else if op = 0x06 then .ok (opVor w g)
  else if op = 0x07 then .ok (opVxor w g) else if op = 0x08 then .ok (opVshl w g)
  else if op = 0x09 then .ok (opVshr w g) else if op = 0x0A then .ok (opVshru w g)
  else if op = 0x0B then .ok (opVmin w g) else if op = 0x0C then .ok (opVmax w g)
  else if op = 0x0D then .ok (opVclamp w g) else if op = 0x0E then .ok (opVsel w g)
  else if op = 0x0F then .ok (opVcmp w g) else if op = 0x10 then .ok (opVaddi w g)
  else if op = 0x11 then .ok (opVli w g) else if op = 0x12 then .ok (opVsplat w g)
  else if op = 0x13 then .ok (opVidx cx w g) else if op = 0x14 then .ok (opVext w g)
  else if op = 0x15 then .ok (opPlog w g) else if op = 0x18 then .ok (opVmul w g)
  else if op = 0x19 then .ok (opVmac w g) else if op = 0x1A then .ok (opVmuls w g)
  else if op = 0x20 then .ok (opSadd w g) else if op = 0x21 then .ok (opSli w g)
  else if op = 0x22 then .ok (opSlui w g) else if op = 0x23 then .ok (opSalu w g)
  else if op = 0x24 then .ok (opSget cx w g)
  else if op = 0x28 then opLdd 4 false cx w g else if op = 0x29 then opLdd 2 true cx w g
  else if op = 0x2A then opLdd 2 false cx w g else if op = 0x2B then opStd 4 w g
  else if op = 0x2C then opStd 2 w g else if op = 0x2D then opLds cx w g
  else if op = 0x2E then opLdc cx w g else if op = 0x2F then opStc w g
  else if op = 0x30 then opLdx cx w g else if op = 0x31 then opStx w g
  else if op = 0x32 then opTlu cx w g else if op = 0x34 then .ok (opNpub w g)
  else if op = 0x35 then opNleft cx w g else if op = 0x36 then opNright cx w g
  else if op = 0x38 then .ok (opCacc w g) else if op = 0x39 then .ok (opCcnt cx w g)
  else if op = 0x3A then .ok (opHadd w g) else if op = 0x3B then .ok (opEmit w g)
  else if op = 0x3C then .ok (opLoop w g) else if op = 0x3D then .ok (opSkip w g)
  else if op = 0x3E then .ok (if fb w 0 0 = 1 then opRet g else opHook cx g)
  else .ok g

/-- One instruction word in an engine: its traps, its effect unless skipped, and the next program counter (DEDUCED, log 46).
R134 does not say whether an illegal encoding traps in a skipped word: it does. DESIGN CHOICE, log 68. -/
def runWord (cx : Cx) (w : BitVec 32) (g : Eng) : Eff :=
  if pastEnd cx g then .trap 6
  else if !encLegal w then .trap 1
  else if skipped g then .ok (nextPc g.loops g)
  else
    match opEffect cx w g with
    | .ok h => .ok (nextPc h.loops h)
    | x => x

/-- Registers at the start of a row (R127). -/
def rowStart (s : Nat) (desc : Nat) (ws : List Nat) (g : Eng) : Eng :=
  { g with
    v := mbuild (fun _ => 0#32) 4 (fun i => BitVec.ofNat 32 (ws.getD i 0))
    sc := mbuild (fun _ => 0#32) 2 (fun i => BitVec.ofNat 32 (if i = 0 then s else desc))
    p := [], pc := 0, loops := [], skipTo := 0, inExt := false, retPc := 0
    row := some s, words := ws, touched := false, yielded := false, wait := 0, pubs := [], nlefts := 0, nrights := 0, inbox := none
    emC := none, emR := none, emMarks := [0, 0, 0, 0], cacc := [], hadd := [], ccnt := none }

/-- The row descriptor of R127. -/
def rowDesc : Row → Nat
  | .active r => r
  | .none => 0
  | row => 2 ^ 31 + 2 ^ 16 * blindIndex row

/-- The special values of R129 for engine `e` and a row. -/
def specials (e s : Nat) (row : Row) (d : Dev) : List Nat :=
  let cr := match row with | .active r => r / 6 | _ => 0xFFFF
  let hold := match row with | .active r => b2n (holderOf (e / 2) r == e) | _ => 0
  [e, s, rowDesc row, nslots d, d.sl.no % 2 ^ 32, b2n d.en.per.low, fld FPA_STATUS.INT_STEPS d,
   fld PIPE_STATUS.AVAIL d, cr, hold]

end Sys2Proof.Machine
end

