-- ==== Sys2Proof/Machine/Rows.lean ====
section
/-! DEFINITION. What the engines do with a row: its dispatch, the standard program with the extension, the take's
work, and what the band packer receives (04_column_engines.md R104, R105, R114 to R121; 05_column_programs.md R127
to R139; 07_takes.md R183 to R188). -/

namespace Sys2Proof.Machine

/-! ### The take's hold on the engines (07_takes.md R181, R183, R184, R192) -/

def phNONE : Nat := 0
def phCLOSE : Nat := 1
def phSETTLE_C : Nat := 2
def phOFFSET : Nat := 3
def phWARM : Nat := 4
def phEMIT : Nat := 5
def phOPEN : Nat := 6
def phSETTLE_O : Nat := 7
def phBLOCKS : Nat := 8
def phDEPOT : Nat := 9

/-- The phase in force. -/
def phase (d : Dev) : Nat := fld TAKE_STATUS.PHASE d

/-- A take slate of a SHUTTERED or DEPOT_REF take: the engines lend their data memory (R184). -/
def takeWork (d : Dev) : Bool := inTake d && (d.take.mode == 1 || d.take.mode == 5)

/-- A slate of an ON block of a SHUTTERLESS take (R192). -/
def onBlock (d : Dev) : Bool := inTake d && phase d == phBLOCKS && d.take.block % 2 == 1

/-- The engines hand over cell records with COUNT = 0 (R184, R192). -/
def cellsZero (d : Dev) : Bool := takeWork d || onBlock d

/-- The slate under way is the take's last (R180, R190, R192, R195). -/
def takeLast (d : Dev) : Bool :=
  let t := d.take
  inTake d && (t.endNow || (phase d == phSETTLE_O && decide (t.left ≤ 1)) ||
    (phase d == phBLOCKS && t.block == 16 && decide (t.blockLen ≤ t.inBlock + 1)) ||
    (phase d == phDEPOT && decide (t.left ≤ 1)))

/-- A take begins at the coming boundary: what would change the image, the cards or the settings in it waits for its end
(R179). -/
def takeComes (d : Dev) : Bool := match d.take.next with
  | some n => !herdTakes d || slateAfter n.s (comingNo ((followK d).getD 1) d)
  | none => false

/-- A field of a take register as it is in force (R200). -/
def tkFld (f : Fld) (d : Dev) : Nat := getBits (d.take.cfg.getD ((f.addr - 0x4C00) / 4) 0) f.hi f.lo
def tkFlag (f : Fld) (d : Dev) : Bool := tkFld f d != 0

/-- Output of the slate: 0 normal, 1 HELD, 2 UNCAL (R182, R183). -/
def outMode (d : Dev) : Nat :=
  if inTake d then (if d.take.lat.outUncal then 2 else 1)
  else if d.take.liveOpen then (if tkFlag TAKE_CFG.OUT d then 2 else 1)
  else 0

/-! ### Errors that the engines' reads meet (R99) -/

/-- Mark a word of data memory as holding an uncorrectable error. -/
def markBadData (e n : Nat) : Dev → Dev :=
  modEng e (fun g => { g with badData := if g.badData.contains n then g.badData else n :: g.badData })

/-- One ECC event of an engine memory: card slot, data word or program word. An uncorrectable program or data error sends
an engine that is IDLE, RUNNING, SETTLING or in WARMUP to FAULTED (R104). -/
def eccEvent (x : EccErr) (d : Dev) : Dev :=
  if !x.double then engSbe x.e (match x.mem with | .card => 1 | .data => 2 | .prog => 3) d
  else match x.mem with
    | .card => markBadCard x.e x.addr d
    | .data => d |> markBadData x.e x.addr |> engFault x.e 2
    | .prog => engFault x.e 1 d

/-- The double-bit errors that the row's reads of pixel cards and of column anchor slots meet are counted and recorded
(R99, R123). A row commanded word by word reads cards by LDC alone, which counts them itself. DEDUCED, log 25. -/
def cardReads (slot : Nat → Nat) (d : Dev) : Dev :=
  forD d.en.engs (fun x d =>
    if x.2.badCards.isEmpty || x.2.touched || !engRuns x.1 d then d
    else forD ((List.range 4).flatMap (fun l => [slot l, slotAnchor l]))
      (fun n d => whenD (x.2.badCards.contains n) (cardDbe x.1 n) d) d) d

/-! ### The extension on one row (05_column_programs.md R128, R139) -/

/-- A program word of an engine; unlisted words hold 0. -/
def progWord (g : Eng) (n : Nat) : BitVec 32 := mget (fun _ => 0#32) g.prog n

/-- The lane marks V10 of a pixel at the hook (R139); SAT is the sample word's SAT for a replaced pixel too. DESIGN CHOICE,
log 63. -/
def markBits (x : PxR) : Nat :=
  b2n x.px.rep + 2 * b2n x.novalue + 4 * b2n x.px.sat + 8 * b2n x.px.extrap +
  16 * b2n (x.rad != 0) + 32 * b2n x.px.cf

/-- Registers at the hook for an active row (R139). -/
def hookRegs (s desc : Nat) (xs : List PxR) (g : Eng) : Eng :=
  let lanes (f : PxR → BitVec 32) (h : Eng) (r : Nat) : Eng :=
    (xs.zipIdx).foldl (fun h x => setV r x.2 (f x.1) h) h
  let g := { g with
    v := [], p := [], loops := [], skipTo := 0
    sc := mbuild (fun _ => 0#32) 2 (fun i => BitVec.ofNat 32 (if i = 0 then s else desc))
    pc := 1280, inExt := true, retPc := 0, pubs := [], ccnt := none, cacc := [], hadd := [] }
  let g := lanes (fun x => BitVec.ofNat 32 x.px.word) g 0
  let g := lanes (fun x => BitVec.ofNat 32 x.y) g 8
  let g := lanes (fun x => BitVec.ofNat 32 x.rad) g 9
  let g := lanes (fun x => BitVec.ofNat 32 (markBits x)) g 10
  lanes (fun x => w32 x.px.tsub) g 11

/-- How a run of the extension ended. -/
inductive ExtEnd where
  | ret
  /-- Ran for all the words it had time for. -/
  | spent
  /-- Waits for a neighbour. -/
  | waits
  | trap (word kind : Nat)
  deriving DecidableEq, Repr

/-- An engine in the extension: its end, if it has come to one, and the words it still has time for. -/
structure ExtRun where
  g : Eng
  fin : Option ExtEnd
  left : Nat
  deriving DecidableEq, Repr

/-- The next word of the extension in one engine; one that waits for a neighbour tries again. -/
def ExtRun.word (cx : Cx) (x : ExtRun) : ExtRun :=
  if x.fin.isSome then x
  else if !x.g.inExt then { x with fin := some .ret }
  else if x.left = 0 then { x with fin := some .spent }
  else match runWord cx (progWord x.g x.g.pc) x.g with
    | .ok h => { x with g := h, left := x.left - 1 }
    | .trap k => { x with fin := some (.trap x.g.pc k) }
    | .wait _ => x

/-- The engine trapped in the extension. -/
def ExtEnd.trapped : ExtEnd → Bool
  | .trap _ _ => true
  | _ => false

/-- The view of engine `e` for a row, with the neighbours' publications given by `pub` (DESIGN CHOICE, log 14). HOOK runs the
extension in every active row (R139), in the ON-block slates of a SHUTTERLESS take too, though 07_takes.md R192 calls only
the other slates' run normal. DESIGN CHOICE, log 68. -/
def rowCx (e s : Nat) (row : Row) (pub : Nat → Nat → Nb) (d : Dev) : Cx :=
  { e := e, special := specials e s row d
    left := fun ch => if e = 0 then .invalid else pub (e - 1) ch
    right := fun ch => if e = 1023 then .invalid else pub (e + 1) ch
    extLen := d.en.ext.length
    hook := !takeWork d && !row.blind
    undefTo := if takeWork d then 0x3C00 else 0
    slate := d.sl.no % 2 ^ 32
    blind := row.blind }

/-- A publication of an engine that may still publish. -/
def pubOf (g : Eng) (ch : Nat) : Nb :=
  match g.pubs.find? (fun x => x.1 == ch) with
  | some x => .lanes x.2
  | none => .waits

/-- The largest number of words that an accepted extension executes in a row: its worst path is at most 384
cycles (R141, R142). -/
def extWords : Nat := 384

/-- What an engine finds at a neighbour `e` during the extension (R96, R135): invalid where that one runs no program or has
trapped, which sends it to FAULTED at once (04_column_engines.md R104); else what it has published by then. DEDUCED, log 46. -/
def extPub (d : Dev) (xs : Array (Option ExtRun)) (e ch : Nat) : Nb :=
  if !engRuns e d then .invalid
  else match xs.getD e none with
    | some x => if (x.fin.map ExtEnd.trapped).getD false then .invalid else pubOf x.g ch
    | none => pubOf (engOf e d) ch

/-- One word of the extension in every engine. The engines run one image, in which a skipped word passes as one executed
(R128, R138), so that engines that wait for nobody are at the same word. DEDUCED, log 46. -/
def extTick (s : Nat) (row : Row) (d : Dev) (xs : List (Option ExtRun)) : List (Option ExtRun) :=
  let pub := extPub d xs.toArray
  (xs.zipIdx).map (fun x => x.1.map (ExtRun.word (rowCx x.2 s row pub d)))

/-- The extension on one row in every engine of `act`, each with the words it has time for, word by word; an engine that
waits on a neighbour is at most that one's words behind it. DEDUCED, log 46. -/
def extRun (s r : Nat) (outs : List PxR) (time : Nat → Nat) (act : Nat → Bool) (d : Dev) :
    List (Option (Eng × ExtEnd)) :=
  let first := allEngs.map (fun e =>
    if act e then
      some { g := hookRegs s r ((outs.drop (4 * e)).take 4) (engOf e d), fin := none, left := time e : ExtRun }
    else none)
  let last := (List.range (2 * extWords + 1)).foldl (fun xs _ => extTick s (.active r) d xs) first
  last.map (fun x => x.map (fun y => (y.g, y.fin.getD .waits)))

/-! ### How each engine ends a row (R104, R105, R116, R117) -/

/-- The end of a row in one engine. -/
inductive RowEnd where
  /-- The engine runs no program: FAULTED. -/
  | off
  /-- The row completed by the standard program with the extension. -/
  | done
  /-- The row reached its deadline before YIELD. -/
  | late
  /-- The row was commanded word by word and completed YIELD. -/
  | yielded
  deriving DecidableEq, Repr

/-- Before the extension: engines commanded word by word are late unless they have completed YIELD; the environment
names the other late ones. -/
def rowEnd0 (late : List LateRow) (e : Nat) (d : Dev) : RowEnd :=
  let g := engOf e d
  if g.touched && g.yielded then .yielded
  else if !engRuns e d then .off
  else if g.touched then .late
  else if late.any (fun x => x.e == e) then .late else .done

/-- An engine processed the row's scene trim: it is done, or late past that step. -/
def trimDone (late : List LateRow) (e : Nat) (k : RowEnd) : Bool :=
  match k with
  | .done => true
  | .late => late.any (fun x => x.e == e && x.trim)
  | _ => false

/-! ### Cells, partials and histogram (R114, R115, R137) -/

/-- Contributions and a user count join the record and the user byte of their cell in its holder `h` (R114, R137). -/
def cellMerge (h r : Nat) (rads : List Nat) (cnt : Nat) (d : Dev) : Dev :=
  if rads.isEmpty && cnt == 0 then d
  else modEng h (fun g =>
    let g := rads.foldl (cellAdd r) g
    if cnt = 0 then g
    else
      let a := 0x3F00 + (r / 6) % 256
      setData a 1 (min 255 (dataLE g a 1 + cnt)) g) d

/-- The engine's cell contributions and user count of one row reach the holder of the cell, if its row completed: a
partial counts where both engines have completed the row, since both take effect at YIELD (R116, R137). DEDUCED, log 54. -/
def toHolder (e r : Nat) (ok : Nat → Bool) (rads : List Nat) (cnt : Nat) (d : Dev) : Dev :=
  let h := holderOf (e / 2) r
  if ok h then cellMerge h r rads cnt d else d

/-- The partials that wait for holders whose row `r` has completed by the standard program. -/
def inboxMerge (r : Nat) (done : Nat → Bool) (d : Dev) : Dev :=
  forD d.en.engs (fun x d => match x.2.inbox with
    | some (rads, cnt) => whenD (done x.1) (cellMerge x.1 r rads cnt) d
    | none => d) d

/-- The histogram additions of one engine (R115). -/
def toHist (e : Nat) (ys : List Int) (d : Dev) : Dev :=
  modEng e (fun g => ys.foldl (histAdd (fld PIPE_HIST.LO d) (fld PIPE_HIST.SHIFT d)) g) d

/-! ### What the band packer receives (R117 to R120) -/

/-- One column of a row as emitted. -/
structure LaneOut where
  corr : Nat
  rad : Nat
  rep : Bool
  novalue : Bool
  extrap : Bool
  /-- Emitted uncorrected: LATE or FAULTED. -/
  uncorr : Bool
  deriving DecidableEq, Repr

/-- The four columns of engine `e` in the output (R117); `ys` holds the corrected values after the extension. EXTRAP adds its
mark to whatever else holds, FAULTED included. -/
def lanesOut (e r : Nat) (k : RowEnd) (ys : List Nat) (xs : List PxR) (d : Dev) : List LaneOut :=
  match k with
  | .off => xs.map (fun x => ⟨x.px.code, 0, false, false, x.px.extrap, true⟩)
  | .late => xs.map (fun x => ⟨x.px.code, 0, false, false, x.px.extrap, true⟩)
  | .done => (xs.zipIdx).map (fun x => ⟨ys.getD x.2 x.1.y, x.1.rad, x.1.px.rep, x.1.novalue, x.1.px.extrap, false⟩)
  | .yielded =>
    let g := engOf e d
    -- a stream that the program did not emit has no stated value
    let lane (o : Option (List Nat)) (off l : Nat) : Nat :=
      match o with
      | some v => v.getD l 0
      | none => Config.undefByte e (65536 + off + 4 * r + l) (d.sl.no % 2 ^ 32) % 65536
    (xs.zipIdx).map (fun x =>
      let m := g.emMarks.getD x.2 0
      ⟨lane g.emC 0 x.2, lane g.emR 16384 x.2, bitN m 0, bitN m 1, bitN m 3, false⟩)

/-- Add a row's share to a strip of the seam statistics (03_slate_and_herd.md R90). -/
def seamAdd (i : Nat) (ls : List LaneOut) (p : Pack) : Pack :=
  let ok := ls.filter (fun x => !x.uncorr)
  let o := p.seam.getD i (0, 0)
  { p with seam := p.seam.set i (o.1 + ok.foldl (fun a x => a + x.corr) 0, o.2 + ok.length) }

/-- One active row reaches the packer: its pixels, its row status word and the frame's counts (R118 to R120). The seam sums
take the values computed in a HELD slate too (03_slate_and_herd.md R90 does not say). DESIGN CHOICE, log 52. -/
def packRow (r idx : Nat) (words : List Nat) (kinds : List RowEnd) (ls : List LaneOut) (d : Dev) : Dev :=
  let uncal := outMode d == 2
  let nLate := (kinds.filter (· == .late)).length
  let nRep := (ls.filter (·.rep)).length
  let nNov := (ls.filter (·.novalue)).length
  let nExt := (ls.filter (·.extrap)).length
  let settling := allEngs.any (fun e => engState e d == enSETTLE)
  let hold := allEngs.any (fun e => engRuns e d && (engOf e d).hold.any id)
  let st : Nat :=
    b2n (nLate != 0) * 2 ^ 31 + b2n (kinds.any (· == .off)) * 2 ^ 30 + b2n settling * 2 ^ 29 +
    b2n (words.any (fun w => bitN w 15)) * 2 ^ 28 + b2n (words.any (fun w => bitN w 14)) * 2 ^ 27 +
    b2n (nExt != 0) * 2 ^ 26 + b2n (nNov != 0) * 2 ^ 25 + b2n hold * 2 ^ 24 + nLate * 2 ^ 13 + nRep
  let codes := words.map (· % 16384)
  let o : RowOut := { row := r, raw := words
                      corr := if uncal then codes else ls.map (·.corr)
                      rad := if uncal then words.map (fun _ => 0) else ls.map (·.rad) }
  let p := d.en.pack
  let sl := if uncal then [] else ls
  let p := p |> seamAdd 0 (sl.take 64) |> seamAdd 1 (sl.drop 4032)
  let p := if idx < 64 then seamAdd 2 sl p else p
  let p := if activeRows d ≤ idx + 64 then seamAdd 3 sl p else p
  { d with en := { d.en with pack := { p with
      band := p.band ++ [o], status := p.status ++ [BitVec.ofNat 32 st]
      lateRows := p.lateRows + b2n (nLate != 0), extrap := p.extrap + nExt
      replaced := p.replaced + nRep, novalue := p.novalue + nNov } } }

/-! ### Regional means and the take's work on a row (07_takes.md R185, R187, R188) -/

def regD : Nat → Region := fun _ => {}

/-- Region `n`. -/
def region (n : Nat) (d : Dev) : Region := mget regD d.en.regions n

/-- Change region `n`. -/
def modRegion (n : Nat) (f : Region → Region) (d : Dev) : Dev :=
  { d with en := { d.en with regions := mmod regD d.en.regions n f } }

/-- A pixel usable for the regional means (R185); one whose column anchor slot has a double-bit error is replaced
(04_column_engines.md R99) and left out. DESIGN CHOICE, log 66. -/
def regUsable (x : PxR) (k : RowEnd) : Bool :=
  !x.px.rep && !x.px.sat && (k == .done || k == .yielded)

def rsumD : Nat → Int × Nat := fun _ => (0, 0)

/-- Each engine adds w2 of its usable pixels of a row to its sums (R185). -/
def regionSums (r : Nat) (xs : List (PxR × RowEnd)) (d : Dev) : Dev :=
  { d with en := { d.en with engs := ((chunks4 1024 xs).zipIdx).foldl (fun m x =>
      let ok := x.1.filter (fun y => regUsable y.1 y.2)
      if ok.isEmpty then m
      else mmod engD m x.2 (fun g => { g with rsum := mmod rsumD g.rsum (r / 256) (fun s =>
        (s.1 + ok.foldl (fun a y => a + y.1.px.w2) 0, s.2 + ok.length)) })) d.en.engs } }

/-- The sum and count that the engines but those of `miss` hand over for region `n` (R185; 03_slate_and_herd.md R72). -/
def regionHand (miss : List Nat) (n : Nat) (d : Dev) : Int × Nat :=
  d.en.engs.foldl (fun a x =>
    if x.1 / 64 = n % 16 ∧ !miss.contains x.1 then
      let s := mget rsumD x.2.rsum (n / 16)
      (a.1 + s.1, a.2 + s.2)
    else a) (0, 0)

/-- The sum of an OFFSET slate in one pixel (R187). -/
def offsetPixel (r : Nat) (x : PxR) (k : RowEnd) (d : Dev) : Dev :=
  let n := 4 * r + x.px.l
  let rg := region (regionOf (4 * x.px.e + x.px.l) r) d
  modEng x.px.e (fun g =>
    let s := mget (fun _ => (0 : Int)) g.wsum n
    let s' : Int := if !regUsable x k || !rg.ok || s == -512 then -512
      else s + sat (asr (x.px.w2 - rg.m + 4) 3) (-63) 63
    { g with wsum := mset (fun _ => (0 : Int)) g.wsum n s' }) d

/-- mbar of a region: the mean of its M(n) over the OFFSET slates (R188). -/
def mbarOf (n : Nat) (d : Dev) : Int :=
  if d.take.offN = 0 then 0 else tdiv (mget (fun _ => (0 : Int)) d.take.offSum n) d.take.offN

/-- p of R188 for a pixel of an EMIT slate; `none` when it publishes invalid. -/
def emitP (r : Nat) (x : PxR) (k : RowEnd) (d : Dev) : Option Int :=
  let g := engOf x.px.e d
  let n := 4 * r + x.px.l
  if !regUsable x k || mget (fun _ => (0 : Int)) g.wsum n == -512 then none
  else some (x.px.w2 - mbarOf (regionOf (4 * x.px.e + x.px.l) r) d - 8 * mget (fun _ => (0 : Int)) g.wdelta n)

/-- The GAIN_SUSPECT count of a pixel (R188). -/
def emitCount (r : Nat) (x : PxR) (p pl pr : Option Int) (d : Dev) : Dev :=
  match p, pl, pr with
  | some p, some a, some b =>
    let pm := tdiv (a + b) 2
    if 0 < pm ∧ (d.take.lat.gsTol : Int) * pm < 256 * ((p - pm).natAbs : Int) then
      modEng x.px.e (fun g => { g with
        wcnt := mmod (fun _ => 0) g.wcnt (4 * r + x.px.l) (fun c => min (c + 1) 3) }) d
    else d
  | _, _, _ => d

/-- The take's work on an active row. -/
def takeRow (r : Nat) (xs : List (PxR × RowEnd)) (d : Dev) : Dev :=
  if !takeWork d then d
  else if phase d = phOFFSET then forD xs (fun x d => offsetPixel r x.1 x.2 d) d
  else if phase d = phEMIT then
    let ps := xs.map (fun x => emitP r x.1 x.2 d)
    forD (List.zip xs (List.zip ps (List.zip (none :: ps) (ps.drop 1 ++ [none]))))
      (fun x d => emitCount r x.1.1 x.2.1 x.2.2.1 x.2.2.2 d) d
  else d

/-! ### A row reaches its deadline (R104, R110, R116) -/

/-- The row is over in every engine: rows under way end, late rows are counted. -/
def endRow (kinds : List RowEnd) (d : Dev) : Dev :=
  let d := forD (kinds.zipIdx) (fun x d => whenD (x.1 == .late) (engLate x.2) d) d
  mapEngs (fun _ g => { g with row := none, touched := false, yielded := false, wait := 0, pubs := []
                               emC := none, emR := none, emMarks := [0, 0, 0, 0], cacc := [], hadd := []
                               ccnt := none, nlefts := 0, nrights := 0, inbox := none }) d

/-- A blind row reaches its deadline: drift sums, and Dtop or Dbot with the last row of an end (R110). -/
def blindRow (row : Row) (words : List Nat) (late : List LateRow) (d : Dev) : Dev :=
  let b := blindIndex row
  let kinds := allEngs.map (fun e => rowEnd0 late e d)
  let d := cardReads (slotBlind b) d
  let d := forD (List.zip kinds (List.zip (chunks4 1024 words) allEngs)) (fun x d =>
    whenD (x.1 == .done) (blindEngine row x.2.1 x.2.2) d) d
  let d := if b = 7 then mapEngs (fun e g => if engRuns e d then formDtop g else g) d
    else if b = 15 then mapEngs (fun e g => if engRuns e d then formDbot g else g) d else d
  endRow kinds d

/-- The neighbour `n` of an engine has not made its reads of the row when the row reaches its deadline: it is LATE before the
standard program's reads, or has executed fewer of the extension's than the engine itself (05_column_programs.md R136). -/
def readsOwed (late : List LateRow) (n : Nat) (isLate : Bool) (own theirs : Nat) : Bool :=
  isLate && (late.any (fun x => x.e == n && !x.reads) || decide (theirs < own))

/-- The rows after 05_column_programs.md R136: an engine that has run its program to YIELD, but whose left neighbour owes an
NRIGHT or whose right one an NLEFT, waits at YIELD to the deadline and is LATE. A neighbour that runs no program is
invalid (R96) and holds nobody up. DEDUCED, log 46. -/
def yieldHeld (late : List LateRow) (kinds : List RowEnd) (ran : Nat → Eng) (e : Nat) (k : RowEnd) : RowEnd :=
  let isLate (n : Nat) : Bool := kinds.getD n .off == .late
  let g := ran e
  if k == .done && ((e != 0 && readsOwed late (e - 1) (isLate (e - 1)) g.nrights (ran (e - 1)).nrights) ||
      readsOwed late (e + 1) (isLate (e + 1)) g.nlefts (ran (e + 1)).nlefts) then .late else k

/-- What an engine whose extension trapped leaves: `g` ran it after the scene trim of row `r`, which the trap undoes; `old` is
the engine without it (R117). The counters of a row's four pixels are one byte (R98). -/
def dropTrim (r : Nat) (g old : Eng) : Eng :=
  { setData (0x2000 + r) 1 (dataLE old (0x2000 + r) 1) g with reqs := old.reqs, ledger := old.ledger }

/-- An active row read in slot `s` reaches its deadline. Step 6 serves lane 0 of an engine first, where not every request of
a row can be made (R112 gives no order among lanes). DESIGN CHOICE, log 62. -/
def activeRow (s r : Nat) (words : List Nat) (late : List LateRow) (d : Dev) : Dev :=
  let outs := rowOut (rowPx r s words d) d
  let k0 := allEngs.map (fun e => rowEnd0 late e d)
  let d := cardReads (slotActive r) d
  -- step 6, but in the engines of `no`
  let trims (no : Nat → Bool) (d : Dev) : Dev := forD outs (fun x d =>
    whenD (!takeWork d && trimDone late x.px.e (k0.getD x.px.e .off) && !no x.px.e) (sceneTrim r x) d) d
  -- the extension, between steps 7 and 8
  let ext := if d.en.ext.isEmpty || takeWork d then k0.map (fun _ => none)
    else extRun s r outs
      (fun e => match late.find? (fun x => x.e == e) with | some x => x.words | none => extWords)
      (fun e => k0.getD e .off == .done || late.any (fun x => x.e == e && x.trim && x.words != 0) &&
        k0.getD e .off == .late) (trims (fun _ => false) d)
  -- a fault within the row makes no scene trim (R117)
  let d := trims (fun e => match ext.getD e none with | some (_, k) => k.trapped | none => false) d
  let d := forD (ext.zipIdx) (fun x d => match x.1 with
    | some (g, .trap w t) => d |> modEng x.2 (dropTrim r g) |> engTrap x.2 w t
    | some (g, _) => modEng x.2 (fun _ => g) d
    | none => d) d
  let kinds := (k0.zipIdx).map (fun x => match x.1, ext.getD x.2 none with
    | .done, some (_, .ret) => .done
    | _, some (_, .trap _ _) => .off
    | .done, some _ => .late
    | k, _ => k)
  let kinds := (kinds.zipIdx).map (fun x => yieldHeld late kinds (fun n => engOf n d) x.2 x.1)
  let ok (e : Nat) : Bool := kinds.getD e .off == .done || kinds.getD e .off == .yielded
  -- corrected values after the extension
  let ysOf (e : Nat) : List Nat := match kinds.getD e .off, ext.getD e none with
    | .done, some (g, _) => (vlanes g 8).map (fun (x : BitVec 32) => (sat x.toInt 0 65535).toNat)
    | _, _ => []
  let px4 (e : Nat) : List PxR := (outs.drop (4 * e)).take 4
  -- steps 8 and 9
  let zero := cellsZero d
  let d := forD allEngs (fun e d =>
      if kinds.getD e .off != .done then d
      else toHolder e r ok (if zero then [] else (px4 e).filterMap (fun x => if x.rad = 0 then none else some x.rad))
        (match ext.getD e none with | some (g, _) => g.ccnt.getD 0 | none => 0) d) d
  let d := inboxMerge r (fun e => kinds.getD e .off == .done) d
  let d := if takeWork d then d else
    forD allEngs (fun e d =>
      if kinds.getD e .off != .done then d
      else toHist e (((px4 e).zipIdx).filterMap (fun x =>
        if x.1.novalue then none else some ((ysOf e).getD x.2 x.1.y : Int))) d) d
  let xs := (outs.zipIdx).map (fun x => (x.1, kinds.getD (x.2 / 4) .off))
  let d := d |> regionSums r xs |> takeRow r xs
  let ls := allEngs.flatMap (fun e => lanesOut e r (kinds.getD e .off) (ysOf e) (px4 e) d)
  d |> packRow r (s - 8) words kinds ls |> endRow kinds

/-- The row read in slot `s` reaches its deadline, at the end of slot s + 2 (R104, R116). DEDUCED, log 46. -/
def rowDeadline (s : Nat) (words : List Nat) (late : List LateRow) (d : Dev) : Dev :=
  match rowOfSlot s d with
  | .active r => activeRow s r words late d
  | .none => d
  | row => blindRow row words late d

/-- The row read in slot `s` is dispatched with its sample words to every engine that runs (R104, R127). -/
def rowDispatch (s : Nat) (words : List Nat) (d : Dev) : Dev :=
  let desc := rowDesc (rowOfSlot s d)
  let d := { d with en := { d.en with words := words } }
  { d with en := { d.en with engs := (List.zip allEngs (chunks4 1024 words)).foldl (fun m x =>
      if engRuns x.1 d then mmod engD m x.1 (fun g => rowStart s desc x.2 g) else m) d.en.engs } }

/-! ### Frame close (R72, R121, R146) and the user-area copy (R147) -/

/-- Record `k` of an engine as handed over. -/
def cellHand (g : Eng) (k : Nat) : CellRec :=
  let a := 0x2C00 + 16 * k
  { max := dataLE g a 2, min := dataLE g (a + 2) 2, sum := dataLE g (a + 4) 4,
    count := dataLE g (a + 8) 1, above := dataLE g (a + 9) 1 }

def cellRecD : Nat → CellRec := fun _ => {}

/-- What an engine does at frame close beside handing over. -/
def closeEngine (cclr : Bool) (g : Eng) : Eng :=
  let g := clearFrame { g with dprev := g.dtop, closeMissed := false }
  if cclr then clearUser g else g

/-- The histogram of an engine joins the frame's. -/
def histIn (g : Eng) (h : List (Nat × Nat)) : List (Nat × Nat) :=
  (List.range 256).foldl (fun h b => mmod (fun _ => 0) h b (· + dataLE g (0x3C00 + 2 * b) 2)) h

/-- An engine misses the end of blanking slot 3 (R72, R123): counted, the first one raises the cluster's source. DEDUCED, log 47. -/
def closeMiss (e : Nat) (d : Dev) : Dev :=
  let first := fld (ENG_STAT.CLOSE_MISS e) d == 0
  d |> addFldSat (ENG_STAT.CLOSE_MISS e) 1 |> whenD first (raiseCluster e)
    |> modEng e (fun g => { g with closeMissed := true })

/-- Frame close at the end of blanking slot 3; `unclosed` names the engines that miss it, which hand over nothing (R72). A
FAULTED engine hands its cells over with no contributions and its histogram empty (R105); it clears as every engine does
(R121, R146). -/
def frameClose (unclosed : List Nat) (d : Dev) : Dev :=
  let runs := allEngs.filter (fun e => engRuns e d)
  let miss := runs.filter (fun e => unclosed.contains e)
  let ok := runs.filter (fun e => !unclosed.contains e)
  let work := takeWork d
  let handed := if cellsZero d then [] else
    ok.flatMap (fun e =>
      let g := engOf e d
      (List.range 256).filterMap (fun k =>
        let c := cellHand g k
        if c = {} then none else some (256 * e + k, c)))
  let hist := if work then d.en.pack.hist else ok.foldl (fun h e => histIn (engOf e d) h) d.en.pack.hist
  let d := { d with en := { d.en with handed := handed, missed := miss, closeWork := work, pack := { d.en.pack with hist := hist } } }
  let cclr := d.en.cclr
  let sums := (List.range 192).map (fun n => regionHand miss n d)
  let d := mapEngs (fun e g =>
    let g := { g with rsum := [] }
    if miss.contains e then g
    else if work then { g with dprev := g.dtop, closeMissed := false }
    else closeEngine cclr g) d
  let d := forD miss closeMiss d
  -- regional means (07_takes.md R185)
  forD (sums.zipIdx) (fun y d => modRegion y.2 (fun x =>
    if y.1.2 = 0 then { x with mPrev := x.m }
    else { m := tdiv y.1.1 y.1.2, ok := true, mPrev := x.m }) d) d

/-- A slate starts in the engines: those that missed the close clear their records (R72, R121), and the user area with them
but in a take slate, which keeps it (R146; 07_takes.md R184); the scene-trim requests
are counted anew (R112), the state area is written by the control cores (R107), and a user-area copy asked for in the
slate before is due (R147). -/
def lateClose (d : Dev) : Dev :=
  let cclr := d.en.cclr && !d.en.closeWork
  let d := mapEngs (fun _ g =>
    let g := { g with reqs := 0, own := [] }
    if g.closeMissed then closeEngine cclr g else g) d
  { d with en := { d.en with peek := d.en.peek.map (fun x => (x.1, true)) } }

/-- The user-area copy at the start of blanking slot 2 (R147). -/
def peekCopy (d : Dev) : Dev :=
  match d.en.peek with
  | none => d
  | some (_, false) => d
  | some (e, true) =>
    let g := engOf e d
    let d := forD (List.range 64) (fun k d =>
      let a := 0x3F00 + 4 * k
      let bad := g.badData.contains (a / 8)
      d |> wrReg (ENGP_PEEK.addr k) (if bad then 0 else BitVec.ofNat 32 (dataLE g a 4))
        |> whenD bad (dailyMemory 1 e 2 2 a 64)) d
    { d with en := { d.en with peek := none } } |> setFlag ENGP_STATUS.PEEK_DONE true

end Sys2Proof.Machine
end

