-- ==== Sys2Proof/Machine/Insn.lean ====
section
/-! DEFINITION. The column program instructions as commands: one word run in one engine on the row it has under way
(05_column_programs.md R127 to R139). Operands: the engine and bits [25:0] of the word; an instruction that reads
memory also takes the error that its read meets (R99). -/

namespace Sys2Proof.Machine

/-! ### Shared operations -/

/-- Engine `e` can execute a word: it runs its program, has a row under way and neither waits nor has yielded. DEDUCED, log 46. -/
def canRun (e : Nat) (d : Dev) : Bool :=
  engRuns e d && (engOf e d).row.isSome && !(engOf e d).yielded && (engOf e d).wait == 0

/-- What a neighbour engine of a running row has published; nothing yet where it has not. -/
def livePub (d : Dev) (e ch : Nat) : Nb := if engRuns e d then pubOf (engOf e d) ch else .invalid

/-- The view of engine `e` for the row it has under way. -/
def liveCx (e : Nat) (d : Dev) : Cx :=
  let s := (engOf e d).row.getD 0
  rowCx e s (rowOfSlot s d) (livePub d) d

/-- The instruction word of an opcode and its field bits. -/
def insnWord (op : Nat) (f : BitVec 26) : BitVec 32 := BitVec.ofNat 32 (op * 2 ^ 26 + f.toNat)

/-- What a word's effect does to the machine. -/
def applyEff (e : Nat) (f : BitVec 26) (x : Eff) (d : Dev) : Dev :=
  match x with
  | .ok g => modEng e (fun _ => { g with touched := true, wait := 0 }) d
  | .trap k => engTrap e (engOf e d).pc k d
  | .wait side => modEng e (fun g => { g with touched := true, wait := side, waitF := f }) d

/-- Run one word in engine `e`. -/
def runInsn (op : Nat) (e : Fin 1024) (f : BitVec 26) (d : Dev) : Dev :=
  if canRun e d then applyEff e f (runWord (liveCx e d) (insnWord op f) (engOf e d)) d else d

/-- Engine `e` executes the word and does not skip it. -/
def executes (op : Nat) (e : Fin 1024) (f : BitVec 26) (d : Dev) : Bool :=
  canRun e d && !pastEnd (liveCx e d) (engOf e d) && encLegal (insnWord op f) && !skipped (engOf e d)

/-- The lanes that a word's guard lets through. -/
def openLanes (w : BitVec 32) (g : Eng) : List Nat := (List.range 4).filter (guarded w g)

/-- The data memory addresses and sizes that a load of R132 reads. -/
def loadReads (op : Nat) (w : BitVec 32) (g : Eng) : List (Nat × Nat) :=
  if op = 0x2D then [(((sreg g (fb w 18 16)).toNat + fb w 15 0) % 2 ^ 32, 4)]
  else (openLanes w g).flatMap (fun l =>
    if op = 0x28 then [(mAddr w g (4 * l), 4)]
    else if op = 0x30 then [(xAddr w g l, 2)]
    else if op = 0x32 then [(tluAddr w g l 0, 2), (tluAddr w g l 1, 2)]
    else [(mAddr w g (2 * l), 2)])

/-- The 8-byte words that a load executed by engine `e` reads. -/
def loadWords (op : Nat) (e : Fin 1024) (f : BitVec 26) (d : Dev) : List Nat :=
  if executes op e f d then
    ((loadReads op (insnWord op f) (engOf e d)).filter (fun x => dataOk x.1 x.2)).map (·.1 / 8)
  else []

/-- Run one word that reads data memory: a corrected error is counted; an uncorrectable one, met now or standing in a word
that it reads, marks the word and ends in FAULTED with cause DATA_ECC (R99, R105). -/
def runLoad (op : Nat) (e : Fin 1024) (f : BitVec 26) (x : DataEcc) (d : Dev) : Dev :=
  let ws := loadWords op e f d
  if ws.any (engOf e d).badData.contains then engFault e 2 d
  else match x with
    | .clean => runInsn op e f d
    | .corrected => d |> whenD (!ws.isEmpty) (engSbe e 2) |> runInsn op e f
    | .uncorrectable n =>
      if ws.contains n.val then d |> markBadData e n |> engFault e 2 else runInsn op e f d

/-- Run one word as a step on the whole machine. DEDUCED, log 46. -/
def insn (op : Nat) (e : Fin 1024) (f : BitVec 26) (s : State) : Host.Outcome State Fault Refusal :=
  .next { s with dev := runInsn op e f s.dev }

/-- Run one memory-reading word as a step on the whole machine. -/
def insnLoad (op : Nat) (e : Fin 1024) (f : BitVec 26) (x : DataEcc) (s : State) : Host.Outcome State Fault Refusal :=
  .next { s with dev := runLoad op e f x s.dev }

/-! ### One meaning for each opcode (R132) -/

/-- NOP, OP 0x00. -/
def execNop (e : Fin 1024) (f : BitVec 26) (s : State) : Host.Outcome State Fault Refusal :=
  insn 0x00 e f s

/-- VADD, OP 0x01. -/
def execVadd (e : Fin 1024) (f : BitVec 26) (s : State) : Host.Outcome State Fault Refusal :=
  insn 0x01 e f s

/-- VSUB, OP 0x02. -/
def execVsub (e : Fin 1024) (f : BitVec 26) (s : State) : Host.Outcome State Fault Refusal :=
  insn 0x02 e f s

/-- VADDS, OP 0x03. -/
def execVadds (e : Fin 1024) (f : BitVec 26) (s : State) : Host.Outcome State Fault Refusal :=
  insn 0x03 e f s

/-- VSUBS, OP 0x04. -/
def execVsubs (e : Fin 1024) (f : BitVec 26) (s : State) : Host.Outcome State Fault Refusal :=
  insn 0x04 e f s

/-- VAND, OP 0x05. -/
def execVand (e : Fin 1024) (f : BitVec 26) (s : State) : Host.Outcome State Fault Refusal :=
  insn 0x05 e f s

/-- VOR, OP 0x06. -/
def execVor (e : Fin 1024) (f : BitVec 26) (s : State) : Host.Outcome State Fault Refusal :=
  insn 0x06 e f s

/-- VXOR, OP 0x07. -/
def execVxor (e : Fin 1024) (f : BitVec 26) (s : State) : Host.Outcome State Fault Refusal :=
  insn 0x07 e f s

/-- VSHL, OP 0x08. -/
def execVshl (e : Fin 1024) (f : BitVec 26) (s : State) : Host.Outcome State Fault Refusal :=
  insn 0x08 e f s

/-- VSHR, OP 0x09. -/
def execVshr (e : Fin 1024) (f : BitVec 26) (s : State) : Host.Outcome State Fault Refusal :=
  insn 0x09 e f s

/-- VSHRU, OP 0x0A. -/
def execVshru (e : Fin 1024) (f : BitVec 26) (s : State) : Host.Outcome State Fault Refusal :=
  insn 0x0A e f s

/-- VMIN, OP 0x0B. -/
def execVmin (e : Fin 1024) (f : BitVec 26) (s : State) : Host.Outcome State Fault Refusal :=
  insn 0x0B e f s

/-- VMAX, OP 0x0C. -/
def execVmax (e : Fin 1024) (f : BitVec 26) (s : State) : Host.Outcome State Fault Refusal :=
  insn 0x0C e f s

/-- VCLAMP, OP 0x0D. -/
def execVclamp (e : Fin 1024) (f : BitVec 26) (s : State) : Host.Outcome State Fault Refusal :=
  insn 0x0D e f s

/-- VSEL, OP 0x0E. -/
def execVsel (e : Fin 1024) (f : BitVec 26) (s : State) : Host.Outcome State Fault Refusal :=
  insn 0x0E e f s

/-- VCMP, OP 0x0F. -/
def execVcmp (e : Fin 1024) (f : BitVec 26) (s : State) : Host.Outcome State Fault Refusal :=
  insn 0x0F e f s

/-- VADDI, OP 0x10. -/
def execVaddi (e : Fin 1024) (f : BitVec 26) (s : State) : Host.Outcome State Fault Refusal :=
  insn 0x10 e f s

/-- VLI, OP 0x11. -/
def execVli (e : Fin 1024) (f : BitVec 26) (s : State) : Host.Outcome State Fault Refusal :=
  insn 0x11 e f s

/-- VSPLAT, OP 0x12. -/
def execVsplat (e : Fin 1024) (f : BitVec 26) (s : State) : Host.Outcome State Fault Refusal :=
  insn 0x12 e f s

/-- VIDX, OP 0x13. -/
def execVidx (e : Fin 1024) (f : BitVec 26) (s : State) : Host.Outcome State Fault Refusal :=
  insn 0x13 e f s

/-- VEXT, OP 0x14. -/
def execVext (e : Fin 1024) (f : BitVec 26) (s : State) : Host.Outcome State Fault Refusal :=
  insn 0x14 e f s

/-- PLOG, OP 0x15. -/
def execPlog (e : Fin 1024) (f : BitVec 26) (s : State) : Host.Outcome State Fault Refusal :=
  insn 0x15 e f s

/-- VMUL, OP 0x18. -/
def execVmul (e : Fin 1024) (f : BitVec 26) (s : State) : Host.Outcome State Fault Refusal :=
  insn 0x18 e f s

/-- VMAC, OP 0x19. -/
def execVmac (e : Fin 1024) (f : BitVec 26) (s : State) : Host.Outcome State Fault Refusal :=
  insn 0x19 e f s

/-- VMULS, OP 0x1A. -/
def execVmuls (e : Fin 1024) (f : BitVec 26) (s : State) : Host.Outcome State Fault Refusal :=
  insn 0x1A e f s

/-- SADD, OP 0x20. -/
def execSadd (e : Fin 1024) (f : BitVec 26) (s : State) : Host.Outcome State Fault Refusal :=
  insn 0x20 e f s

/-- SLI, OP 0x21. -/
def execSli (e : Fin 1024) (f : BitVec 26) (s : State) : Host.Outcome State Fault Refusal :=
  insn 0x21 e f s

/-- SLUI, OP 0x22. -/
def execSlui (e : Fin 1024) (f : BitVec 26) (s : State) : Host.Outcome State Fault Refusal :=
  insn 0x22 e f s

/-- SALU, OP 0x23. -/
def execSalu (e : Fin 1024) (f : BitVec 26) (s : State) : Host.Outcome State Fault Refusal :=
  insn 0x23 e f s

/-- SGET, OP 0x24. -/
def execSget (e : Fin 1024) (f : BitVec 26) (s : State) : Host.Outcome State Fault Refusal :=
  insn 0x24 e f s

/-- LDDW, OP 0x28. -/
def execLddw (e : Fin 1024) (f : BitVec 26) (x : DataEcc) (s : State) : Host.Outcome State Fault Refusal :=
  insnLoad 0x28 e f x s

/-- LDDH, OP 0x29. -/
def execLddh (e : Fin 1024) (f : BitVec 26) (x : DataEcc) (s : State) : Host.Outcome State Fault Refusal :=
  insnLoad 0x29 e f x s

/-- LDDHU, OP 0x2A. -/
def execLddhu (e : Fin 1024) (f : BitVec 26) (x : DataEcc) (s : State) : Host.Outcome State Fault Refusal :=
  insnLoad 0x2A e f x s

/-- STDW, OP 0x2B. -/
def execStdw (e : Fin 1024) (f : BitVec 26) (s : State) : Host.Outcome State Fault Refusal :=
  insn 0x2B e f s

/-- STDH, OP 0x2C. -/
def execStdh (e : Fin 1024) (f : BitVec 26) (s : State) : Host.Outcome State Fault Refusal :=
  insn 0x2C e f s

/-- LDS, OP 0x2D. -/
def execLds (e : Fin 1024) (f : BitVec 26) (x : DataEcc) (s : State) : Host.Outcome State Fault Refusal :=
  insnLoad 0x2D e f x s

/-- The card slot that a lane of LDC addresses. -/
def ldcSlot (e : Fin 1024) (f : BitVec 26) (l : Nat) (d : Dev) : Nat :=
  mAddr (insnWord 0x2E f) (engOf e d) l

/-- The slots that LDC executed by engine `e` reads. -/
def ldcReads (e : Fin 1024) (f : BitVec 26) (d : Dev) : List Nat :=
  if executes 0x2E e f d then
    ((openLanes (insnWord 0x2E f) (engOf e d)).map (fun l => ldcSlot e f l d)).filter (fun n => decide (n < 12800))
  else []

/-- LDC with the error that the read of lane `l` meets: a corrected one is counted; a double-bit error, met now or standing
in a slot that it reads, is marked, counted once and recorded, and the engine runs on (R99). -/
def runLdc (e : Fin 1024) (f : BitVec 26) (x : Ecc) (l : Fin 4) (d : Dev) : Dev :=
  let ns := ldcReads e f d
  let met := ns.contains (ldcSlot e f l d)
  let d := match x with
    | .clean => d
    | .corrected => whenD met (engSbe e 1) d
    | .uncorrectable => whenD met (markBadCard e (ldcSlot e f l d)) d
  d |> forD (ns.eraseDups.filter (engOf e d).badCards.contains) (cardDbe e) |> runInsn 0x2E e f

/-- LDC, OP 0x2E. -/
def execLdc (e : Fin 1024) (f : BitVec 26) (x : Ecc) (l : Fin 4) (s : State) : Host.Outcome State Fault Refusal :=
  .next { s with dev := runLdc e f x l s.dev }

/-- STC, OP 0x2F. -/
def execStc (e : Fin 1024) (f : BitVec 26) (s : State) : Host.Outcome State Fault Refusal :=
  insn 0x2F e f s

/-- LDX, OP 0x30. -/
def execLdx (e : Fin 1024) (f : BitVec 26) (x : DataEcc) (s : State) : Host.Outcome State Fault Refusal :=
  insnLoad 0x30 e f x s

/-- STX, OP 0x31. -/
def execStx (e : Fin 1024) (f : BitVec 26) (s : State) : Host.Outcome State Fault Refusal :=
  insn 0x31 e f s

/-- TLU, OP 0x32. -/
def execTlu (e : Fin 1024) (f : BitVec 26) (x : DataEcc) (s : State) : Host.Outcome State Fault Refusal :=
  insnLoad 0x32 e f x s

/-- NPUB, OP 0x34. -/
def execNpub (e : Fin 1024) (f : BitVec 26) (s : State) : Host.Outcome State Fault Refusal :=
  insn 0x34 e f s

/-- NLEFT, OP 0x35. -/
def execNleft (e : Fin 1024) (f : BitVec 26) (s : State) : Host.Outcome State Fault Refusal :=
  insn 0x35 e f s

/-- NRIGHT, OP 0x36. -/
def execNright (e : Fin 1024) (f : BitVec 26) (s : State) : Host.Outcome State Fault Refusal :=
  insn 0x36 e f s

/-- CACC, OP 0x38. -/
def execCacc (e : Fin 1024) (f : BitVec 26) (s : State) : Host.Outcome State Fault Refusal :=
  insn 0x38 e f s

/-- CCNT, OP 0x39. -/
def execCcnt (e : Fin 1024) (f : BitVec 26) (s : State) : Host.Outcome State Fault Refusal :=
  insn 0x39 e f s

/-- HADD, OP 0x3A. -/
def execHadd (e : Fin 1024) (f : BitVec 26) (s : State) : Host.Outcome State Fault Refusal :=
  insn 0x3A e f s

/-- EMIT, OP 0x3B. -/
def execEmit (e : Fin 1024) (f : BitVec 26) (s : State) : Host.Outcome State Fault Refusal :=
  insn 0x3B e f s

/-- LOOP, OP 0x3C. -/
def execLoop (e : Fin 1024) (f : BitVec 26) (s : State) : Host.Outcome State Fault Refusal :=
  insn 0x3C e f s

/-- SKIP, OP 0x3D. -/
def execSkip (e : Fin 1024) (f : BitVec 26) (s : State) : Host.Outcome State Fault Refusal :=
  insn 0x3D e f s

/-- HOOK, OP 0x3E with bit 0 clear (R139). -/
def execHook (e : Fin 1024) (f : BitVec 26) (s : State) : Host.Outcome State Fault Refusal :=
  insn 0x3E e (f &&& ~~~1#26) s

/-- RET, OP 0x3E with bit 0 set (R139). -/
def execRet (e : Fin 1024) (f : BitVec 26) (s : State) : Host.Outcome State Fault Refusal :=
  insn 0x3E e (f ||| 1#26) s

/-! ### Neighbour reads that waited (R96, R135) -/

/-- A neighbour read that waits is executed again once the neighbour can answer. -/
def resumeRead (e : Fin 1024) (d : Dev) : Dev :=
  let g := engOf e d
  if engRuns e d && g.row.isSome && (g.wait == 1 || g.wait == 2) then
    d |> modEng e (fun g => { g with wait := 0 }) |> runInsn (if g.wait = 1 then 0x35 else 0x36) e g.waitF
  else d

/-- NEIGHBOUR_READ_RESUME. -/
def execNeighbourReadResume (e : Fin 1024) (s : State) : Host.Outcome State Fault Refusal :=
  .next { s with dev := resumeRead e s.dev }

/-! ### YIELD (R116, R136, R137) -/

/-- The cell contributions and user count of engine `e` at its YIELD: the holder merges them with the partner's partial;
a partial waits for the holder's own YIELD (R114, R116, R137). DEDUCED, log 54. -/
def yieldCells (e r : Nat) (rads : List Nat) (cnt : Nat) (d : Dev) : Dev :=
  let h := holderOf (e / 2) r
  if h = e then
    let d := cellMerge e r rads cnt d
    match (engOf e d).inbox with
    | some (l, n) => d |> modEng e (fun g => { g with inbox := none }) |> cellMerge e r l n
    | none => d
  else if (engOf h d).yielded then cellMerge h r rads cnt d
  else modEng h (fun g => { g with inbox := some (rads, cnt) }) d

/-- The effects that awaited YIELD: cell contributions and user count, histogram additions. CACC adds the low 16 bits of a
lane. DESIGN CHOICE, log 63. -/
def yieldEffects (e : Nat) (d : Dev) : Dev :=
  let g := engOf e d
  match rowOfSlot (g.row.getD 0) d with
  | .active r =>
    let rads := if cellsZero d then [] else (g.cacc.map (fun x => x.2 % 65536)).filter (· != 0)
    d |> yieldCells e r rads (g.ccnt.getD 0) |> whenD (!takeWork d) (toHist e (g.hadd.map (·.2)))
  | _ => d

/-- The row completes in engine `e`. -/
def yieldDone (e : Nat) (d : Dev) : Dev :=
  d |> yieldEffects e |> modEng e (fun g => { g with touched := true, yielded := true, wait := 0 })

/-- A neighbour has made `k` of its reads, or makes none in this row: it runs no program, has no row under way, has
completed or waits at YIELD; of a row not commanded word by word that is known only where `quiet` holds (R136). -/
def nbQuiet (quiet : Bool) (n : Nat) (made : Eng → Bool) (d : Dev) : Bool :=
  let g := engOf n d
  !engRuns n d || g.row.isNone || g.yielded || g.wait == 3 || made g || (quiet && !g.touched)

/-- YIELD of engine `e` may complete: the left neighbour has executed every NRIGHT of the row and the right one every
NLEFT. Every engine runs one image, so those are as many as engine `e` has executed itself (R136). DEDUCED, log 46. -/
def yieldFree (quiet : Bool) (e : Nat) (d : Dev) : Bool :=
  let g := engOf e d
  (e == 0 || nbQuiet quiet (e - 1) (fun h => decide (g.nrights ≤ h.nrights)) d) &&
  (e == 1023 || nbQuiet quiet (e + 1) (fun h => decide (g.nlefts ≤ h.nlefts)) d)

/-- The word YIELD: skipped or illegal as any word; else it completes or waits for the neighbours' reads. -/
def runYield (e : Fin 1024) (f : BitVec 26) (d : Dev) : Dev :=
  if !canRun e d then d
  else
    let g := engOf e d
    let w := insnWord 0x3F f
    match runWord (liveCx e d) w g with
    | .ok h =>
      if skipped g then applyEff e f (.ok h) d
      else if yieldFree false e d then yieldDone e d
      else modEng e (fun g => { g with touched := true, wait := 3 }) d
    | x => applyEff e f x d

/-- YIELD, OP 0x3F. -/
def execYield (e : Fin 1024) (f : BitVec 26) (s : State) : Host.Outcome State Fault Refusal :=
  .next { s with dev := runYield e f s.dev }

/-- A YIELD that waited completes when its neighbours have finished their reads. -/
def yieldWaitEnd (e : Fin 1024) (d : Dev) : Dev :=
  if engRuns e d && (engOf e d).wait == 3 && yieldFree true e d then yieldDone e d else d

/-- YIELD_WAIT_END. -/
def execYieldWaitEnd (e : Fin 1024) (s : State) : Host.Outcome State Fault Refusal :=
  .next { s with dev := yieldWaitEnd e s.dev }

end Sys2Proof.Machine
end

