-- ==== Sys2Proof/Machine/Rings.lean ====
section
/-! DEFINITION. Descriptor rings: contexts, completions and interrupts, and the ring writer's placing of bands, window
rows and records (09_host_rings.md R226 to R252). -/

namespace Sys2Proof.Machine

/-! ### Contexts (R229, R230) -/

def ringD : Nat → Ring := fun _ => {}

/-- Ring `n`. -/
def ring (n : Nat) (d : Dev) : Ring := mget ringD d.rings.tab n

/-- Change ring `n`. -/
def modRing (n : Nat) (f : Ring → Ring) (d : Dev) : Dev :=
  { d with rings := { d.rings with tab := mmod ringD d.rings.tab n f } }

def rgDISABLED : Nat := 0
def rgENABLED : Nat := 1
def rgPAUSED : Nat := 2
def rgERROR : Nat := 3

/-- Fields of the context. -/
def Ring.typ (r : Ring) : Nat := getBits r.w2 7 5
def Ring.vector (r : Ring) : Nat := getBits r.w2 23 16
def Ring.each (r : Ring) : Bool := getBits r.w2 10 10 == 1
def Ring.irqEn (r : Ring) : Bool := getBits r.w2 8 8 == 1
def Ring.log2 (r : Ring) : Nat := getBits r.w2 4 0
def Ring.coal (r : Ring) : Nat := getBits r.w5 7 0
def Ring.stream (r : Ring) : Nat := getBits r.w6 31 30
def Ring.y0 (r : Ring) : Nat := getBits r.w6 27 16
def Ring.x0 (r : Ring) : Nat := getBits r.w6 11 0
def Ring.h (r : Ring) : Nat := getBits r.w7 28 16
def Ring.w (r : Ring) : Nat := getBits r.w7 12 0
def Ring.base (r : Ring) : Nat := r.w0.toNat + 2 ^ 32 * r.w1.toNat
def Ring.size (r : Ring) : Nat := 2 ^ r.log2

/-- ENABLED or PAUSED. -/
def Ring.on (r : Ring) : Bool := r.st == rgENABLED || r.st == rgPAUSED

/-- Index positions (R230). -/
def Ring.ppos (r : Ring) : Nat := (r.size * r.pwrap + r.pidx) % (2 * r.size)
def Ring.cpos (r : Ring) : Nat := (r.size * r.cwrap + r.cidx) % (2 * r.size)

/-- Descriptors posted and not completed, and posted and not yet read. -/
def Ring.posted (r : Ring) : Nat := (r.ppos + 2 * r.size - r.cpos) % (2 * r.size)
def Ring.unread (r : Ring) : Nat := (r.ppos + 2 * r.size - r.tpos % (2 * r.size)) % (2 * r.size)

/-- The ring carries data to the device. -/
def Ring.toDevice (r : Ring) : Bool := decide (r.typ ≤ 1)

/-- The context words as they read (R229). -/
def Ring.ctxWord (r : Ring) (k : Nat) : BitVec 32 :=
  if k = 0 then r.w0 else if k = 1 then r.w1
  else if k = 2 then r.w2 ||| BitVec.ofNat 32 (r.st * 2 ^ 30)
  else if k = 3 then BitVec.ofNat 32 (r.pidx + r.pwrap * 2 ^ 24)
  else if k = 4 then BitVec.ofNat 32 (r.cidx + r.cwrap * 2 ^ 24)
  else if k = 5 then r.w5 ||| BitVec.ofNat 32 (r.gen * 2 ^ 24 + r.err * 2 ^ 16)
  else if k = 6 then r.w6 else r.w7

/-- The states in which a ring type is served (R228). -/
def servedType (t : Nat) (d : Dev) : Bool :=
  let m := mstate d
  if t = 1 then m == stIDLE || m == stLIVE
  else if 2 ≤ t ∧ t ≤ 5 then m == stLIVE
  else served d

/-- The number of entries of the SLATE_NO field. -/
def slate32 (d : Dev) : Nat := d.sl.no % 2 ^ 32

/-- A ring event: the source, and a dailies NOTE with the ring (R252). -/
def ringEvent (src n : Nat) (d : Dev) : Dev := d |> raise src |> note src [n]

/-- Change the state of a ring: GEN advances (R231). -/
def setRingSt (n st : Nat) : Dev → Dev := modRing n (fun r => { r with st := st, gen := (r.gen + 1) % 256 })

/-- CAL_STATUS.LEDGER_FULL follows the rings that wait under 06_calibration_cards.md R162. -/
def ledgerFullBit (d : Dev) : Dev := setFlag CAL_STATUS.LEDGER_FULL (d.cal.jobs.any (fun j => j.wait == 1)) d

/-- The card-load descriptor under way on ring `n` is given up: a BULK block being written is written no further, and the
ring waits no more (06_calibration_cards.md R162, R172). -/
def cardJobDrop (n : Nat) (d : Dev) : Dev :=
  let d := forD d.cal.jobs (fun j d => whenD (j.ring == n && j.wait == 3)
    (modEng (leNat ((j.rest.drop 4).take 4) % 1024) (fun g => { g with bulkWriting := false })) d) d
  { d with cal := { d.cal with jobs := d.cal.jobs.filter (fun w => w.ring != n) } } |> ledgerFullBit

/-- What waits to be written on ring `n` is not written (R233, R234). -/
def dropHeld (n : Nat) (d : Dev) : Dev :=
  { d with rings := { d.rings with held := d.rings.held.filter (fun h => h.ring != n) } }

/-- A ring enters ERROR (R234). -/
def ringError (n cause : Nat) (d : Dev) : Dev :=
  let r := ring n d
  if r.st = rgERROR then d
  else d |> setRingSt n rgERROR
    |> modRing n (fun r => { r with err := cause, cur := none, jobs := [], usable := [] })
    |> dropHeld n |> cardJobDrop n |> ringEvent 160 n
    |> dailyState 2 n r.st rgERROR r.gen ((r.gen + 1) % 256) cause 160

/-! ### Completions (R239, R241, R248, R249, R251) -/

def dsOK : Nat := 1
def dsZERO_LEN : Nat := 2
def dsBADDESC : Nat := 3
def dsBADLEN : Nat := 4
def dsBADREC : Nat := 5
def dsRDERR : Nat := 6
def dsSTATE : Nat := 7
def dsSTALE : Nat := 8
def dsTRUNCATED : Nat := 9

/-- CIDX advances over the completed descriptors at the front (R230, R248). -/
def advanceC : Nat → Ring → Ring
  | 0, r => r
  | n + 1, r =>
    if r.done.contains r.cpos then
      let p := r.cpos
      let wrap := r.cidx + 1 == r.size
      advanceC n { r with
        done := r.done.filter (· != p)
        cidx := if wrap then 0 else r.cidx + 1
        cwrap := if wrap then 1 - r.cwrap else r.cwrap }
    else r

/-- The MSI-X message of a ring after a completion (R251). -/
def ringIrq (n : Nat) (flags : Nat) (d : Dev) : Dev :=
  let r := ring n d
  let since := r.since + 1
  if !r.irqEn then modRing n (fun r => { r with since := since }) d
  else if r.coal ≤ since ∨ bitN flags 0 then
    d |> modRing n (fun r => { r with since := 0 }) |> msixRequest r.vector
  else modRing n (fun r => { r with since := since }) d

/-- The writes of a completion, in the order of R249, and what follows them. -/
def writeDone (x : HeldDone) (d : Dev) : Dev :=
  let r := ring x.ring d
  let a := (r.base + 32 * (x.desc.pos % r.size)) % 2 ^ 64
  d |> whenD (!x.hd.isEmpty) (emitOut (.hostWrite x.desc.addr x.hd))
    |> emitOut (.hostWrite (a + 0x14) (leBytes 4 (x.doneLen % 2 ^ 24) ++ leBytes 4 (x.slate % 2 ^ 32) ++
        leBytes 4 (modTime d % 2 ^ 32)))
    |> emitOut (.hostWrite (a + 0x10) (leBytes 4 (x.status + 256 * x.part)))
    |> modRing x.ring (fun r => advanceC (r.done.length + 1) { r with done := r.done ++ [x.desc.pos] })
    |> whenD (decide (2 ≤ x.status) && decide (x.status ≤ 6)) (ringEvent 164 x.ring)
    |> whenD (x.status == dsSTATE || x.status == dsSTALE) (ringEvent 165 x.ring)
    |> whenD (x.status == dsTRUNCATED) (raise 25)
    |> ringIrq x.ring x.desc.flags

/-- Complete a descriptor, a window's after its piece header: at once, or when memory requests may be issued again
(R226). A completion that falls due on a ring that is DISABLED or in ERROR is not written (R233, R234). -/
def completeHd (n : Nat) (x : Desc) (status doneLen part slate : Nat) (hd : List (BitVec 8)) (d : Dev) : Dev :=
  let h : HeldDone :=
    { ring := n, desc := x, status := status, doneLen := doneLen, part := part, slate := slate, hd := hd }
  if !(ring n d).on then d
  else if linkBlocked d || !d.rings.held.isEmpty then { d with rings := { d.rings with held := d.rings.held ++ [h] } }
  else writeDone h d
def complete (n : Nat) (x : Desc) (status doneLen part slate : Nat) : Dev → Dev :=
  completeHd n x status doneLen part slate []

/-- The completions that waited are written once requests may be issued (R226). -/
def releaseDone (d : Dev) : Dev :=
  if linkBlocked d then d
  else
    let l := d.rings.held
    forD l (fun h d => whenD (ring h.ring d).on (writeDone h) d) { d with rings := { d.rings with held := [] } }

/-- SOURCE of the REFUSAL of a command or card-load descriptor: the source that its completion raises (R241;
10_events_errors.md R449). -/
def refusedStatus (status : Nat) : Nat := if status = dsSTATE ∨ status = dsSTALE then 165 else 164

/-- The completion of a command (R239, R247); DONE_LEN is 32 when the command was acted on. Any status but OK writes a
REFUSAL (R258, R449); a completion that falls due after its ring was DISABLED, be it ENABLED again, is recorded instead,
for its descriptor is the host's (R233). -/
def completeCmd (c : CmdRef) (status slate genUnit : Nat) (d : Dev) : Dev :=
  let x : Desc := { pos := c.pos, addr := 0, len := 32, flags := c.flags, tag := c.tag }
  let refusal (src : Nat) := refuseCmd c.ring c.op c.tag status c.genCarried genUnit c.target src
  if !(ring c.ring d).on || (ring c.ring d).epoch != c.epoch then refusal 165 d
  else d |> whenD (status != dsOK) (refusal (refusedStatus status))
    |> complete c.ring x status (if status = dsOK then 32 else 0) 0 slate

/-- Messages at a slate boundary for completions since the last one (R251). -/
def ringBoundaryIrq (d : Dev) : Dev :=
  forD d.rings.tab (fun x d =>
    if x.2.since != 0 && x.2.irqEn then
      d |> modRing x.1 (fun r => { r with since := 0 }) |> msixRequest x.2.vector
    else d) d

/-! ### Losses (R243, R245) -/

/-- A band, status block or row group is dropped on ring `n`. -/
def countDropped (n : Nat) (d : Dev) : Dev :=
  let r := ring n d
  d |> modRing n (fun r => { r with dropped := min 0xFFFF (r.dropped + 1) })
    |> whenD (r.dropped == 0) (ringEvent 162 n)

/-- A record is dropped on ring `n`. -/
def countOverflow (n : Nat) (d : Dev) : Dev :=
  let r := ring n d
  d |> modRing n (fun r => { r with overflow := min 0xFFFF (r.overflow + 1) })
    |> whenD (r.overflow == 0) (ringEvent 161 n)

/-- A descriptor taken into use in this slate. -/
def freshCur (x : Desc) (band : Nat) (d : Dev) : Cur :=
  { desc := x, used := 0, band := band, status := false, slate := slate32 d, hd := [] }

/-- The count of row slots with which the deadline of a piece handed over now has passed: 64 row slots from here (R71). -/
def pieceDue (d : Dev) : Nat := d.sl.slots + 64

/-! ### Descriptor checks (R238) -/

/-- Conditions 1 to 3 of R238 on a descriptor of ring `r`: the status, or 0. -/
def descCheck (r : Ring) (x : Desc) : Nat :=
  let least := if r.typ = 2 then 524288 else if r.typ = 3 then 64 + 2 * r.w else if 4 ≤ r.typ then 64 else 0
  if x.len = 0 then dsZERO_LEN
  else if x.addr % 16 ≠ 0 ∨ 2 ^ 64 < x.addr + x.len then dsBADDESC
  else if x.len < least ∨ (r.typ = 0 ∧ x.len ≠ 32) then dsBADLEN
  else 0

/-- A descriptor that failed its checks completes with its status, BADDESC with a VIOL_LOG entry. -/
def descCompletes (n : Nat) (x : Desc) (status slate : Nat) (d : Dev) : Dev :=
  d |> whenD (status == dsBADDESC) (violLog 4 x.addr 0 n) |> complete n x status 0 0 slate

/-- A descriptor fails its checks; behind pieces still being written it completes after them (R249). -/
def descFails (n : Nat) (x : Desc) (status : Nat) (d : Dev) : Dev :=
  if (ring n d).jobs.isEmpty then descCompletes n x status (slate32 d) d
  else
    let j : Job := { desc := x, off := 0, bytes := [], band := 0x3F, part := 0, doneLen := 0, closes := true
                     slate := slate32 d, due := pieceDue d, status := status }
    modRing n (fun r => { r with jobs := r.jobs ++ [j] }) d

/-- Descriptors at the front of those read that fail their checks are taken up and completed. -/
def skipFailed (n : Nat) : List Desc → Dev → Dev
  | [], d => d
  | x :: rest, d =>
    let c := descCheck (ring n d) x
    if c = 0 then d
    else skipFailed n rest (d |> modRing n (fun r => { r with usable := rest }) |> descFails n x c)
/-- The next descriptors are taken up, on an ENABLED ring alone: one that is PAUSED begins to use none (R233). -/
def takeUp (n : Nat) (d : Dev) : Dev :=
  if (ring n d).cur.isSome || (ring n d).st != rgENABLED then d else skipFailed n (ring n d).usable d

/-! ### Record rings (R245) -/

/-- The descriptor in use on a record ring completes with the records it holds. -/
def closeRecord (n slate : Nat) (d : Dev) : Dev :=
  match (ring n d).cur with
  | none => d
  | some c => d |> modRing n (fun r => { r with cur := none }) |> complete n c.desc dsOK c.used 0 slate

/-- Place a record in the descriptor in use. -/
def placeRecord (n : Nat) (bytes : List (BitVec 8)) (c : Cur) (d : Dev) : Dev :=
  d |> emitOut (.hostWrite (c.desc.addr + c.used) bytes)
    |> modRing n (fun r => { r with cur := some { c with used := c.used + bytes.length } })
    |> whenD (ring n d).each (closeRecord n (slate32 d))

/-- A record for ring `n`, or its loss (R245, R226). DEDUCED, log 31. -/
def putRecord (n : Nat) (bytes : List (BitVec 8)) (d : Dev) : Dev :=
  let r := ring n d
  if r.st != rgENABLED || linkBlocked d then countOverflow n d
  else
    let fits := match r.cur with
      | some c => decide (c.used + bytes.length ≤ c.desc.len)
      | none => false
    let d := if fits then d else takeUp n (closeRecord n (slate32 d) d)
    let r := ring n d
    match r.cur, r.usable with
    | some c, _ => placeRecord n bytes c d
    | none, x :: rest =>
      d |> modRing n (fun r => { r with usable := rest })
        |> placeRecord n bytes (freshCur x 0 d)
    | none, [] => countOverflow n d

/-- The record rings' descriptors complete at the end of the slate of their first record; `slate` is the slate that
has just ended (R239, R245). -/
def recordSlateEnd (slate : Nat) (d : Dev) : Dev :=
  forD d.rings.tab (fun x d => whenD (decide (4 ≤ x.2.typ) && x.2.cur.isSome) (closeRecord x.1 slate) d) d

/-! ### Frame rings (R240, R242, R243) -/

/-- Bytes of a band. -/
def bandBytes : Nat := 524288

/-- PART of a frame piece. -/
def framePart (c : Cur) (last : Bool) : Nat := b2n last * 128 + b2n c.status * 64 + c.band

/-- The piece header of a window whose piece holds `len` bytes, header included: its first 16 bytes, the rows and W. -/
def pieceHead (r : Ring) (hd : List (BitVec 8)) (len : Nat) : List (BitVec 8) :=
  if hd.isEmpty then [] else hd ++ leBytes 4 ((len - 64) / (2 * r.w) * 2 ^ 16 + r.w) ++ List.replicate 44 0

/-- The current descriptor of a frame or window ring is closed: its completion follows its last outstanding write, or
comes at once. -/
def closeCur (n part : Nat) (d : Dev) : Dev :=
  match (ring n d).cur with
  | none => d
  | some c =>
    let d := modRing n (fun r => { r with cur := none }) d
    let now (d : Dev) : Dev := completeHd n c.desc dsOK c.used part c.slate (pieceHead (ring n d) c.hd c.used) d
    match (ring n d).jobs.reverse with
    | j :: rest =>
      if j.desc.pos == c.desc.pos && j.status == dsOK then
        let j' : Job := { j with closes := true, part := part, doneLen := c.used }
        modRing n (fun r => { r with jobs := (j' :: rest).reverse }) d
      else now d
    | [] => now d

/-- The next usable descriptor of a frame or window ring: one with FRAME_START serves only the first piece of a frame
(R243). -/
def takeUsable (r : Ring) (first : Bool) : Option (Desc × List Desc) :=
  match r.usable with
  | [] => none
  | x :: rest => if bitN x.flags 1 && !first then none else some (x, rest)

/-- A piece of a frame of slate `slate` is placed on ring `n`, or dropped, which ends the descriptor that it would have
followed in; `band` is its band, 0x3F for the status block, `need` the room that the next piece will want, 0 when
this one ends the frame's delivery to the ring, and `due` its deadline. DEDUCED, log 31. -/
def putPiece (n : Nat) (first : Bool) (band need slate due : Nat) (bytes : List (BitVec 8)) (d : Dev) : Dev :=
  let r := ring n d
  let fits := match r.cur with
    | some c => decide (c.used + bytes.length ≤ c.desc.len)
    | none => false
  let d := match r.cur with
    | some c => if fits then d else closeCur n (framePart c false) d
    | none => d
  let d := takeUp n d
  let r := ring n d
  let c? : Option (Cur × List Desc) :=
    if r.st != rgENABLED || linkBlocked d then none
    else match r.cur with
      | some c => some (c, r.usable)
      | none => match takeUsable r first with
        | some (x, rest) => some ({ freshCur x band d with slate := slate }, rest)
        | none => none
  match c? with
  | none =>
    let d := countDropped n d
    match (ring n d).cur with
    | some c => closeCur n (framePart c (need == 0)) d
    | none => d
  | some (c, rest) =>
    let c' := { c with used := c.used + bytes.length, status := c.status || band == 0x3F }
    let j : Job := { desc := c.desc, off := c.used, bytes := bytes, band := band, part := 0, doneLen := 0, closes := false
                     slate := slate, due := due, need := need, first := first }
    let d := modRing n (fun r => { r with cur := some c', usable := rest, jobs := r.jobs ++ [j] }) d
    if need = 0 then closeCur n (framePart c' true) d
    else if c'.desc.len < c'.used + need then closeCur n (framePart c' false) d
    else d

/-- The ENABLED or PAUSED rings of a type and stream. -/
def ringsOf (t stream : Nat) (d : Dev) : List Nat :=
  (d.rings.tab.filter (fun x => x.2.on && x.2.typ == t && x.2.stream == stream)).map (·.1)

/-- The streams enabled in the slate, and the one that carries the status block (R120). -/
def streamOn (k : Nat) (d : Dev) : Bool :=
  if k = 0 then d.en.per.corrEn else if k = 1 then d.en.per.rawEn else d.en.per.radEn
def carrier (d : Dev) : Nat := if d.en.per.corrEn then 0 else if d.en.per.rawEn then 1 else 2

/-- The values of a row in a stream. -/
def RowOut.stream (o : RowOut) (k : Nat) : List Nat := if k = 0 then o.corr else if k = 1 then o.raw else o.rad

/-- Sixteen-bit values as bytes. -/
def halfBytes (l : List Nat) : List (BitVec 8) := l.flatMap (leBytes 2)

/-- FRAME_FLAGS of the slate (R120). -/
def frameFlags (d : Dev) : Nat :=
  b2n (!radInForce d) * 64 + b2n (flag PIPE_STATUS.BUDGET_SHORT d) * 32 + b2n (flag FPA_STATUS.STRIPE d) * 16 +
  b2n d.en.per.low * 8 + b2n (outMode d == 2) * 4 + b2n (outMode d == 1) * 2 + b2n (flag PIPE_STATUS.SEED d)

/-- The frame of the slate under way, whose engine conditions have been taken, is fully corrected (17_flash_and_boot.md
R417): a take that ended COMMITTED since the last RESET is one that TAKE_COUNT shows. -/
def fullyCorrected (d : Dev) : Bool :=
  let f := frameFlags d
  !bitN f 0 && !bitN f 1 && !bitN f 2 && (List.range 1024).all (fun e => mget (fun _ => 0) d.en.pack.cond e == 0) &&
  fld TAKE_COUNT.COMMITTED d != 0

/-- The frame status block (R120). DEDUCED, log 19. -/
def statusBlock (d : Dev) : List (BitVec 8) :=
  let p := d.en.pack
  let held := outMode d == 1
  let rows := if held then 0 else activeRows d
  let mode := fld FPA_STATUS.INT_STEPS d * 2 ^ 24 + fld FPA_STATUS.RATE d * 2 ^ 20 + fld FPA_STATUS.STRIPE_POS d * 2 ^ 16 +
    fld FPA_STATUS.STRIPE_H d * 2 ^ 14 + b2n (flag FPA_STATUS.STRIPE d) * 2 ^ 13 + b2n d.en.per.low * 2 ^ 12 + rows
  let w (x : Nat) := leBytes 4 x
  w (slate32 d) ++ w (d.sl.start % 2 ^ 32) ++ w (frameFlags d) ++ w mode ++
  w (min p.lateRows 0xFFFF * 2 ^ 16 + min p.extrap 0xFFFF) ++ w p.replaced ++ w p.novalue ++
  w (fld PIPE_STATUS.AVAIL d * 2 ^ 18 + fld PIPE_STATUS.DIV d) ++ List.replicate 224 0 ++
  (List.range 256).map (fun b => BitVec.ofNat 8 ((List.range 4).foldl (fun a i =>
    a + mget (fun _ => 0) p.cond (4 * b + i) * 4 ^ i) 0)) ++
  (List.range 256).flatMap (fun b => w (mget (fun _ => 0) p.hist b)) ++
  (let l := if held then [] else p.status
   l.flatMap (fun x => w x.toNat) ++ List.replicate (12288 - 4 * l.length) 0) ++
  List.replicate 2560 0

/-- The room that the next piece of the frame wants on the ring of stream `k` after band `b`. -/
def needAfter (k b : Nat) (d : Dev) : Nat :=
  if 64 * (b + 1) < activeRows d then bandBytes else if k = carrier d then 16384 else 0

/-! ### Window rings (R244) -/

/-- The first 16 bytes of the piece header of a window: what the slate gives, then the first row and X0. -/
def windowSlate (d : Dev) : List (BitVec 8) :=
  leBytes 4 (slate32 d) ++ leBytes 4 (d.sl.start % 2 ^ 32) ++ leBytes 4 (frameFlags d)
def windowHead (r : Ring) (slate : List (BitVec 8)) (row : Nat) : List (BitVec 8) :=
  slate ++ leBytes 4 (row * 2 ^ 16 + r.x0)

/-- PART of a window piece. DESIGN CHOICE, log 29. -/
def windowPart (c : Cur) (last : Bool) : Nat := b2n last * 128 + c.band % 128

/-- Close the window piece under way. -/
def closeWindow (n : Nat) (last : Bool) (d : Dev) : Dev :=
  match (ring n d).cur with
  | none => d
  | some c => closeCur n (windowPart c last) d

/-- First row of a window that is read in the slate, and the row after its last. -/
def winFirst (r : Ring) (d : Dev) : Nat := max r.y0 (firstRow d)
def winEnd (r : Ring) (d : Dev) : Nat := min (r.y0 + r.h) (firstRow d + activeRows d)

/-- What the rows of a window carry beside their pixels: the slate, the header bytes that it gives, the window's first row
and the row after its last, and the deadline of their group. -/
structure WinCtx where
  slate : Nat
  hd : List (BitVec 8)
  first : Nat
  wend : Nat
  due : Nat
  deriving DecidableEq, Repr

/-- Start a window piece at row `row`, if a descriptor can be used. -/
def startWindow (n row : Nat) (x : WinCtx) (d : Dev) : Dev :=
  let d := takeUp n d
  let r := ring n d
  if r.cur.isSome || r.st != rgENABLED || linkBlocked d then d
  else match takeUsable r (row == x.first) with
    | none => d
    | some (y, rest) =>
      let c := { freshCur y r.piece d with used := 64, slate := x.slate, hd := windowHead r x.hd row }
      modRing n (fun r => { r with usable := rest, cur := some c, piece := r.piece + 1 }) d

/-- Add a row to the window piece under way; rows of one group share a write. DESIGN CHOICE, log 29. -/
def addWindowRow (n group row : Nat) (x : WinCtx) (bytes : List (BitVec 8)) (d : Dev) : Dev :=
  match (ring n d).cur with
  | none => d
  | some c =>
    let js := (ring n d).jobs
    let j : Job := { desc := c.desc, off := c.used, bytes := bytes, band := group, part := 0, doneLen := 0
                     closes := false, slate := c.slate, due := x.due, row := row, wend := x.wend, hd := c.hd
                     first := row == x.first }
    let js := match js.reverse with
      | l :: rest => if l.desc.pos = c.desc.pos ∧ l.band = group
          then ({ l with bytes := l.bytes ++ bytes } :: rest).reverse else js ++ [j]
      | [] => [j]
    modRing n (fun r => { r with jobs := js, cur := some { c with used := c.used + bytes.length } }) d

/-- The rows of a group, in order. The first row that finds no descriptor, or no memory request allowed (R226), drops the
rest of the group and ends the piece under way. DEDUCED, log 31. -/
def windowRows (n group : Nat) (x : WinCtx) : List (Nat × List (BitVec 8)) → Dev → Dev
  | [], d => d
  | (row, bytes) :: rest, d =>
    if linkBlocked d then
      d |> closeWindow n (((row, bytes) :: rest).any (fun y => y.1 + 1 == x.wend)) |> countDropped n
    else
      let full := match (ring n d).cur with
        | some c => decide (c.desc.len < c.used + bytes.length)
        | none => false
      let d := whenD full (closeWindow n false) d
      let d := startWindow n row x d
      if (ring n d).cur.isNone then countDropped n d
      else
        let d := addWindowRow n group row x bytes d
        let d := whenD (row + 1 == x.wend) (closeWindow n true) d
        windowRows n group x rest d

/-- What the rows of window ring `n` carry in the slate. -/
def winCtx (r : Ring) (d : Dev) : WinCtx :=
  { slate := slate32 d, hd := windowSlate d, first := winFirst r d, wend := winEnd r d, due := pieceDue d }

/-- The rows of a band that a window holds. -/
def windowBand (n k b : Nat) (rows : List RowOut) (d : Dev) : Dev :=
  let r := ring n d
  let mine := rows.filter (fun o => decide (winFirst r d ≤ o.row) && decide (o.row < winEnd r d))
  windowRows n b (winCtx r d) (mine.map (fun o => (o.row, halfBytes (((o.stream k).drop r.x0).take r.w)))) d

/-! ### Hand-overs of the packer (R242, R244) -/

/-- A full band is handed over to every ring of every enabled stream; in a HELD slate it goes nowhere (R183). -/
def bandHandover (d : Dev) : Dev :=
  let p := d.en.pack
  let d := { d with en := { d.en with pack := { p with band := [], bandNo := p.bandNo + 1 } } }
  if outMode d = 1 then d
  else forD [0, 1, 2] (fun k d =>
    if !streamOn k d then d
    else
      let d := forD (ringsOf 2 k d) (fun n d =>
        putPiece n (p.bandNo == 0) p.bandNo (needAfter k p.bandNo d) (slate32 d) (pieceDue d)
          (p.band.flatMap (fun o => halfBytes (o.stream k))) d) d
      forD (ringsOf 3 k d) (fun n d => windowBand n k p.bandNo p.band d) d) d

/-- The status block is handed over after frame close: to the rings of the stream that carries it, in a HELD slate to
every frame ring of an enabled stream; windows end their delivery (R120, R242, R244; 07_takes.md R183). -/
def statusHandover (d : Dev) : Dev :=
  let held := outMode d == 1
  let block (k : Nat) (d : Dev) : Dev :=
    forD (ringsOf 2 k d) (fun n d => putPiece n held 0x3F 0 (slate32 d) (pieceDue d) (statusBlock d) d) d
  let d := forD [0, 1, 2] (fun k d => whenD (streamOn k d && (held || k == carrier d)) (block k) d) d
  let d := if held then
      forD [0, 1, 2] (fun k d => if !streamOn k d then d else
        forD (ringsOf 3 k d) (fun n d =>
          let x := winCtx (ring n d) d
          if x.first < x.wend then
            let d := startWindow n x.first x d
            if (ring n d).cur.isNone then countDropped n d else closeWindow n true d
          else d) d) d
    else forD d.rings.tab (fun x d => whenD (x.2.typ == 3) (closeWindow x.1 true) d) d
  forD d.rings.tab (fun x d => whenD (x.2.typ == 3) (modRing x.1 (fun r => { r with piece := 0 })) d) d

/-! ### The ring writer's writes (R73, R242) -/

/-- The corrected pixels of a band written are counted for GAF_PWR.EPP (15_thermal_power.md R377). -/
def correctedPixels (n : Nat) (j : Job) (d : Dev) : Dev :=
  let r := ring n d
  if r.typ = 2 ∧ r.stream = 0 ∧ j.band ≠ 0x3F then
    { d with gaf := { d.gaf with px := d.gaf.px + j.bytes.length / 2 } }
  else d

/-- Descriptors that failed their checks complete once the pieces before them have been written. -/
def flushFailed (n : Nat) : List Job → Dev → Dev
  | [], d => d
  | j :: rest, d =>
    if j.status = dsOK then d
    else flushFailed n rest (d |> modRing n (fun r => { r with jobs := rest })
      |> descCompletes n j.desc j.status j.slate)

/-- The oldest piece of ring `n` is written whole. -/
def pieceWritten (n : Nat) (d : Dev) : Dev :=
  match (ring n d).jobs with
  | [] => d
  | j :: rest =>
    if linkBlocked d then d
    else d |> emitOut (.hostWrite (j.desc.addr + j.off) j.bytes) |> modRing n (fun r => { r with jobs := rest })
      |> correctedPixels n j
      |> whenD j.closes (completeHd n j.desc dsOK j.doneLen j.part j.slate (pieceHead (ring n d) j.hd j.doneLen))
      |> (fun d => flushFailed n (ring n d).jobs d)

/-- The deadline of the oldest piece of ring `n` has passed (R71). -/
def pieceLate (n : Nat) (d : Dev) : Bool := ((ring n d).jobs.head?).any (fun j => decide (j.due ≤ d.sl.slots))

/-- The writes of the oldest piece of ring `n` have all been issued, in time. -/
def bandWritten (n : Nat) (d : Dev) : Dev := if pieceLate n d then d else pieceWritten n d

/-- PART of the descriptor of the piece `j`, which is TRUNCATED: as it stands where the descriptor is being filled or `j`
is its last piece, else without what its later pieces would have brought (R240). -/
def truncatedPart (win : Bool) (j : Job) (rest : List Job) (cur : Option Cur) : Nat :=
  match cur.filter (fun c => c.desc.pos == j.desc.pos) with
  | some c => if win then windowPart c false else framePart c false
  | none =>
    if j.closes then j.part
    else match rest.find? (fun x => x.desc.pos == j.desc.pos && x.closes) with
      | some x => x.part % (if win then 128 else 64)
      | none => j.part

/-- The rows of a piece of a window, numbered from its first. -/
def rowsOf (w row : Nat) (bytes : List (BitVec 8)) : List (Nat × List (BitVec 8)) :=
  (List.range (bytes.length / (2 * w))).map (fun i => (row + i, (bytes.drop (2 * w * i)).take (2 * w)))

/-- The pieces behind one that its deadline has cut, without what is left of its own group, which is written no further
(R73), and without the failed descriptors among them; the rows of one group are one piece. -/
def piecesBehind (j : Job) (rest : List Job) : List Job :=
  ((rest.filter (fun x => x.status == dsOK && !(x.band == j.band && x.slate == j.slate))).foldl (fun l x =>
    match l with
    | y :: t => if y.band = x.band ∧ y.slate = x.slate then { y with bytes := y.bytes ++ x.bytes } :: t else x :: l
    | [] => [x]) []).reverse

/-- The descriptors that pieces behind `j` had been placed in, in ring order, with those that failed their checks. -/
def descsBehind (j : Job) (rest : List Job) (cur : Option Cur) : List Desc :=
  ((rest.map (·.desc) ++ (cur.map (·.desc)).toList).filter (fun x => x.pos != j.desc.pos)).eraseDups

/-- The piece `x` follows the piece `y` in the frame, so that both may stand in one descriptor. -/
def follows (r : Ring) (y x : Job) : Bool :=
  y.slate == x.slate &&
  (if r.typ = 3 then y.row + y.bytes.length / (2 * r.w) == x.row
   else if x.band = 0x3F then y.need != 0 && y.need != bandBytes else y.band + 1 == x.band)

/-- A piece is placed anew, with its own deadline: in the descriptor of the piece `y` before it where it follows that one, else
in the next. The pieces of a window are numbered anew in each frame. -/
def pieceMoves (n : Nat) (y x : Job) (d : Dev) : Dev :=
  let win := (ring n d).typ == 3
  let d := if follows (ring n d) y x then d
    else if win then closeWindow n false d
    else match (ring n d).cur with
      | some c => closeCur n (framePart c false) d
      | none => d
  let r := ring n d
  if win then
    d |> whenD (y.slate != x.slate) (modRing n (fun r => { r with piece := 0 }))
      |> windowRows n x.band { slate := x.slate, hd := x.hd.take 12, first := if x.first then x.row else x.wend
                               wend := x.wend, due := x.due } (rowsOf r.w x.row x.bytes)
  else putPiece n x.first x.band x.need x.slate x.due x.bytes d

/-- The pieces behind the piece `y` are placed anew, in order. -/
def piecesMove (n : Nat) (y : Job) : List Job → Dev → Dev
  | [], d => d
  | x :: l, d => piecesMove n x l (pieceMoves n y x d)

/-- Where the last descriptor had been closed before it was full, or at the end of a frame's delivery, so is the one that its
pieces have gone to. -/
def moveCloses (n : Nat) (last : Job) (d : Dev) : Dev :=
  match (ring n d).cur with
  | none => d
  | some c =>
    if last.closes && !(decide (last.desc.len < last.doneLen + last.need)) then
      closeCur n (if (ring n d).typ = 3 then windowPart c (bitN last.part 7) else framePart c (bitN last.part 7)) d
    else d

/-- The oldest piece of ring `n` reaches its deadline with `k` of its bytes written: TRUNCATED with the whole rows of a
window in its header. No write of any piece behind it has been issued, so that the rest of the frame goes to the next
descriptor whole, which holds what it held before behind what was meant for this one (R73, R243, R244). DEDUCED, log 31. -/
def bandDeadline (n k : Nat) (d : Dev) : Dev :=
  match (ring n d).jobs with
  | [] => d
  | j :: rest =>
    if !pieceLate n d then d
    else
      let k := if linkBlocked d then 0 else min k (j.bytes.length - 1)
      let r := ring n d
      let part := truncatedPart (r.typ == 3) j rest r.cur
      let last := (rest.filter (fun x => x.status == dsOK)).getLast?.getD j
      let d := d |> whenD (k != 0) (emitOut (.hostWrite (j.desc.addr + j.off) (j.bytes.take k)))
        |> modRing n (fun r => { r with
            jobs := [], cur := none, usable := descsBehind j rest r.cur ++ r.usable, piece := part % 128 + 1 })
        |> completeHd n j.desc dsTRUNCATED (j.off + k) part j.slate (pieceHead r j.hd (j.off + k))
        |> piecesMove n j (piecesBehind j rest)
        |> whenD r.cur.isNone (moveCloses n last) |> takeUp n
      whenD (last.slate != slate32 d) (modRing n (fun x => { x with piece := r.piece })) d

end Sys2Proof.Machine
end

