-- ==== Sys2Proof/Machine/Cards.lean ====
section
/-! DEFINITION. Card loads, ledgers, commits, seed cards and card read-back (06_calibration_cards.md). -/

namespace Sys2Proof.Machine

/-! ### Card-load descriptors (R156 to R160) -/

/-- The descriptor under way on card-load ring `n`. -/
def cardJob (n : Nat) (d : Dev) : Option CardJob := d.cal.jobs.find? (fun j => j.ring == n)

/-- Put back a changed descriptor. -/
def setCardJob (j : CardJob) (d : Dev) : Dev :=
  { d with cal := { d.cal with jobs := d.cal.jobs.map (fun k => if k.ring = j.ring then j else k) } }

/-- A block header (R157). -/
structure BlkHdr where
  kind : Nat
  checkGen : Bool
  gen : Nat
  e : Nat
  count : Nat
  crc : Nat
  rsvOk : Bool
  deriving DecidableEq, Repr

/-- Read a block header from the front of the bytes. -/
def blkHdr (bs : List (BitVec 8)) : BlkHdr :=
  let w (k : Nat) := leNat ((bs.drop (4 * k)).take 4)
  { kind := w 0 % 256, checkGen := bitN (w 0) 8, gen := bitsN (w 0) 23 16, e := w 1 % 1024, count := w 2 % 2048,
    crc := w 3,
    rsvOk := bitsN (w 0) 15 9 == 0 && bitsN (w 0) 31 24 == 0 && bitsN (w 1) 31 10 == 0 && bitsN (w 2) 31 11 == 0 &&
      leNat ((bs.drop 16).take 16) == 0 }

/-- The descriptor under way on ring `n` completes (R159); any status but OK writes a REFUSAL with the engine of the block at
its front, the generation that the block carries and the engine's (10_events_errors.md R258, R262, R449). DEDUCED, log 34. -/
def endCardJob (j : CardJob) (status : Nat) (d : Dev) : Dev :=
  let h := blkHdr j.rest
  { d with cal := { d.cal with jobs := d.cal.jobs.filter (fun k => k.ring != j.ring) } }
    |> ledgerFullBit
    |> whenD (status != dsOK) (refuseCmd j.ring 0 j.desc.tag status (if h.checkGen then h.gen else 0)
        (fld (ENG_STATE.GEN h.e) d) h.e (refusedStatus status))
    |> complete j.ring j.desc status j.done 0 (slate32 d)

/-- Length of a block of a known KIND. -/
def blkLen (h : BlkHdr) : Nat := if h.kind = 2 then 98880 else 32 + 16 * h.count

/-- Conditions 2 and 3 of R159 on the next block: BADLEN, BADREC, or 0. -/
def blkCheck (bs : List (BitVec 8)) : Nat :=
  if bs.length < 32 then dsBADLEN
  else
    let h := blkHdr bs
    if (h.kind = 1 ∨ h.kind = 2) ∧ bs.length < blkLen h then dsBADLEN
    else if (h.kind ≠ 1 ∧ h.kind ≠ 2) ∨ !h.rsvOk then dsBADREC
    else if h.kind = 1 ∧ (h.count = 0 ∨ 1024 < h.count) then dsBADREC
    else if h.kind = 2 ∧ h.count ≠ 0 then dsBADREC
    else 0

/-- Go on to the next block: the descriptor completes after its last one, or at one whose header fails (R159). -/
def nextBlock (j : CardJob) (d : Dev) : Dev :=
  if j.rest.isEmpty then endCardJob j dsOK d
  else
    let c := blkCheck j.rest
    if c = 0 then setCardJob j d else endCardJob j c d

/-- A descriptor of card-load ring `n` and its buffer have been read. -/
def cardFetched (n : Nat) (x : Desc) (buf : List (BitVec 8)) (d : Dev) : Dev :=
  let j : CardJob := { ring := n, desc := x, rest := buf, done := 0, wait := 0, slots := 0 }
  { d with cal := { d.cal with jobs := d.cal.jobs ++ [j] } } |> nextBlock j

/-- Conditions 4 and 5 of R159: STALE, STATE, or 0; the generation is compared once (10_events_errors.md R265). -/
def blkUnit (h : BlkHdr) (compared : Bool) (d : Dev) : Nat :=
  if h.checkGen && !compared && h.gen != fld (ENG_STATE.GEN h.e) d then dsSTALE
  else if engState h.e d = enFAULT then dsSTATE
  else 0

/-- An entry of an ENTRIES block (R158), with whether it is legal. -/
def entryOf (bs : List (BitVec 8)) : LedgerEnt × Bool :=
  let v := leNat (bs.take 8)
  let a := leNat ((bs.drop 8).take 2)
  let b := leNat ((bs.drop 10).take 2)
  let c := leNat ((bs.drop 12).take 4)
  let slot := a % 2 ^ 14
  let op := b % 16
  let fm := c % 16
  ({ slot := slot, op := op, value := BitVec.ofNat 64 v, fmask := fm, scene := false, frozen := false },
   decide (a < 2 ^ 14) && decide (b < 16) && decide (c < 16) && decide (slot ≤ 12355) &&
   (op == 1 || ((op == 2 || op == 3) && decide (slot ≤ 12351))) && (op == 2 || fm == 0) &&
   (op != 3 || decide (v < 256)))

/-- The entries of a payload. -/
def entriesOf : Nat → List (BitVec 8) → List (LedgerEnt × Bool)
  | 0, _ => []
  | n + 1, bs => entryOf (bs.take 16) :: entriesOf n (bs.drop 16)

/-- Stage the block's entries, or start waiting for room (R162). -/
def stageEntries (j : CardJob) (h : BlkHdr) (ents : List LedgerEnt) (d : Dev) : Dev :=
  if 1024 < (engOf h.e d).ledger.length + ents.length then
    d |> setCardJob { j with wait := 1, compared := true } |> ledgerFullBit |> whenD (j.wait != 1) (raise 129)
  else
    d |> modEng h.e (fun g => { g with ledger := g.ledger ++ ents })
      |> nextBlock { j with rest := j.rest.drop (blkLen h), done := j.done + blkLen h, wait := 0, compared := false }
      |> ledgerFullBit

/-- The ENTRIES block at the front of ring `n` is checked and staged (R158, R159, R162). -/
def cardEntries (n : Nat) (d : Dev) : Dev :=
  match cardJob n d with
  | none => d
  | some j =>
    let h := blkHdr j.rest
    if h.kind ≠ 1 ∨ 2 ≤ j.wait then d
    else
      let u := blkUnit h j.compared d
      if u ≠ 0 then endCardJob j u d
      else
        let pay := (j.rest.drop 32).take (16 * h.count)
        let es := entriesOf h.count pay
        if (crc32 pay).toNat ≠ h.crc ∨ es.any (fun x => !x.2) then endCardJob j dsBADREC d
        else stageEntries j h (es.map (·.1)) d

/-- A ring that waits for ledger room tries again (R162). -/
def ledgerResume (n : Nat) (d : Dev) : Dev :=
  match cardJob n d with
  | some j => if j.wait = 1 then cardEntries n d else d
  | none => d

/-- Write a bulk payload into card memory (R168). -/
def writeBulk (k : Nat) (pay : List (BitVec 8)) (g : Eng) : Eng :=
  ((List.range k).foldl (fun (x : Eng × List (BitVec 8)) n =>
    (setCard n (BitVec.ofNat 64 (leNat (x.2.take 8))) x.1, x.2.drop 8)) (g, pay)).1

/-- The BULK block at the front of ring `n`. One of a descriptor that was fetched before the module entered SAFE or COLD_HOLD
is still staged or written there, with its engine HALTED or in WARMUP, which R168 does not list, and leaves that state as it
is (DESIGN CHOICE, log 69). One that comes in a take waits until a slate boundary has ended the wait (R169,
`bulkTakeEnd`); accepted, it discards the engine's
staged entries (R164), moves a RUNNING engine to SETTLING, and writes the `k` slots that its payload read brings. -/
def cardBulk (n k : Nat) (d : Dev) : Dev :=
  match cardJob n d with
  | none => d
  | some j =>
    let h := blkHdr j.rest
    if h.kind ≠ 2 ∨ j.wait = 3 ∨ j.wait = 1 then d
    else
      let u := blkUnit h j.compared d
      if u ≠ 0 then endCardJob j u d
      else if inTake d || j.wait == 2 then setCardJob { j with wait := 2, compared := true } d
      else
        let k := min k 12356
        d |> ledgerDiscard h.e
          |> whenD (engState h.e d == enRUN) (setEngState h.e enSETTLE)
          |> modEng h.e (fun g => writeBulk k (j.rest.drop 32) { g with
               bulkWriting := true, bulkDone := false, bulkLater := g.bulkFrozen, bulkOwed := true })
          |> setCardJob { j with wait := 3, slots := k }

/-- The bulk payload on ring `n` has been written as far as it was read: CRC checked, descriptor or next block (R168,
R169). -/
def bulkComplete (n : Nat) (d : Dev) : Dev :=
  match cardJob n d with
  | none => d
  | some j =>
    if j.wait ≠ 3 then d
    else
      let h := blkHdr j.rest
      let d := modEng h.e (fun g => { g with bulkWriting := false }) d
      if j.slots < 12356 then d |> violLog 5 j.desc.addr 0 n |> endCardJob j dsRDERR
      else if (crc32 ((j.rest.drop 32).take 98848)).toNat ≠ h.crc then endCardJob j dsBADREC d
      else
        d |> modEng h.e (fun g => { g with bulkDone := true })
          |> nextBlock { j with rest := j.rest.drop 98880, done := j.done + 98880, wait := 0, slots := 0, compared := false }

/-- At the first slate boundary after the end of a take, BULK blocks that waited for it may be served (R169, R179). -/
def bulkTakeEnd (d : Dev) : Dev :=
  if phase d != phNONE then d
  else { d with cal := { d.cal with jobs := d.cal.jobs.map (fun j => if j.wait = 2 then { j with wait := 0 } else j) } }

/-! ### COMMIT (R165, R166) -/

/-- Cycles of one blanking slot at the clock and rate in force. -/
def blankCycles (d : Dev) : Nat := slotCycles (fld PIPE_STATUS.DIV d) (ticksInForce d)

/-- A HOST entry, a completed BULK block or a written gain table awaits a commit. -/
def commitPending (d : Dev) : Bool :=
  d.en.engs.any (fun x => x.2.ledger.any (fun y => !y.scene) || x.2.bulkDone) || flag CAL_STATUS.RG_DIRTY d

/-- The refusals of COMMIT (R166). -/
def commitRefused (d : Dev) : Bool :=
  !(mstate d == stIDLE || mstate d == stLIVE) || !commitPending d || decide (8 * blankCycles d < 4160)

/-- COMMIT_WAIT and HELD_BY_TAKE follow the commands (R165, R166). -/
def commitBits (d : Dev) : Dev :=
  d |> setFlag CAL_STATUS.COMMIT_WAIT (!d.cal.waiting.isEmpty || !d.cal.frozen.isEmpty)
    |> setFlag CAL_STATUS.HELD_BY_TAKE (inTake d && !d.cal.waiting.isEmpty)

/-- A COMMIT is accepted. -/
def commitAccept (c : CmdRef) (d : Dev) : Dev :=
  { d with cal := { d.cal with waiting := d.cal.waiting ++ [c] } } |> commitBits

/-- Commands whose set is not frozen complete with STATE (R166). R166 speaks of leaving LIVE: one accepted in IDLE that the
module's entry into SAFE, COLD_HOLD, RESET, AUX_ONLY or OFF overtakes is met in the same way. DESIGN CHOICE, log 69. -/
def commitAbandon (d : Dev) : Dev :=
  let l := d.cal.waiting
  { d with cal := { d.cal with waiting := [] } }
    |> forD l (fun c d => completeCmd c dsSTATE (slate32 d) (fld GLB_MSTATE.GEN d) d) |> commitBits

/-- Mark the entries of the committed sources (R163, R165). -/
def freezeEntries (host scene : Bool) (d : Dev) : Dev :=
  mapEngs (fun _ g => { g with
    ledger := g.ledger.map (fun x => if (host && !x.scene) || (scene && x.scene) then { x with frozen := true } else x)
    bulkFrozen := g.bulkFrozen || (host && g.bulkDone) }) d

/-- The freeze at a slate boundary (R165, R166, R194): host commits unless the new slate is in a take, and the scene-trim
commit due in the new slate. -/
def commitFreeze (d : Dev) : Dev :=
  let host := !d.cal.waiting.isEmpty && !inTake d
  let ok := mstate d == stIDLE || mstate d == stLIVE
  if host && !ok then commitAbandon d
  else
    let c := fld TAKE_ST.COMMIT d
    let scene := c != 0 && d.sl.no % c == 0 && !inTake d && d.en.engs.any (fun x => x.2.ledger.any (·.scene))
    let d := freezeEntries host scene d
    let n := (d.en.engs.filter (fun x => x.2.bulkFrozen)).length
    let cal := d.cal
    { d with cal := { cal with
        frozen := if host then cal.waiting else cal.frozen
        waiting := if host then [] else cal.waiting
        hostFrozen := cal.hostFrozen || host, sceneFrozen := scene
        rgFrozen := cal.rgFrozen || (host && flag CAL_STATUS.RG_DIRTY d)
        bulkCount := if host then n else cal.bulkCount } } |> commitBits

/-- The staged gain table is copied, to be in force from the next slate (R155). -/
def rgCopy (d : Dev) : Dev :=
  { d with cal := { d.cal with rgNext := some (rgStaged d) } } |> setFlag CAL_STATUS.RG_DIRTY false

/-- Blanking slots 24 to 31: the frozen sets are applied, and a frozen bulk load no longer awaits its commit (R167, R194). DEDUCED, log 17. -/
def commitApply (d : Dev) : Dev :=
  let d := whenD d.cal.rgFrozen rgCopy d
  let d := mapEngs (fun _ g => if g.ledger.any (·.frozen) then applyLedger g else g) d
  let d := mapEngs (fun _ g => if g.bulkFrozen && !g.bulkLater then { g with bulkDone := false } else g) d
  let d := whenD d.cal.sceneFrozen (raise 140) d
  { d with cal := { d.cal with
      sceneFrozen := false, rgFrozen := false, applied := d.cal.applied || d.cal.hostFrozen, hostFrozen := false } }

/-- The copied gain table comes into force (R155). -/
def rgInForceNow (d : Dev) : Dev :=
  match d.cal.rgNext with
  | none => d
  | some t =>
    let d := forD (t.zipIdx) (fun x d =>
      if x.2 % 2 = 0 then setFld (CAL_RGAIN_IF.ENTRY_LO (x.2 / 2)) x.1 d
      else setFld (CAL_RGAIN_IF.ENTRY_HI (x.2 / 2)) x.1 d) d
    { d with cal := { d.cal with rgNext := none } }

/-- SEED_COUNT and PIPE_STATUS.SEED; source 130 when the count reaches 0 (R171). -/
def setSeedCount (n : Nat) (d : Dev) : Dev :=
  let old := fld CAL_STATUS.SEED_COUNT d
  d |> setFld CAL_STATUS.SEED_COUNT n |> setFlag PIPE_STATUS.SEED (n != 0) |> whenD (old != 0 && n == 0) (raise 130)

/-- An applied host commit is in force at the start of this slate (R165, R168, R171). DEDUCED, log 17. -/
def commitInForce (d : Dev) : Dev :=
  if !d.cal.applied then d
  else
    let l := d.cal.frozen
    let bulk := d.en.engs.filter (fun x => x.2.bulkFrozen)
    let d := forD bulk (fun x d => setFlag (ENG_STATE.SEED x.1) false d) d
    let left := (allEngs.filter (fun e => flag (ENG_STATE.SEED e) d)).length
    let d := mapEngs (fun _ g => if g.bulkFrozen then
      { g with bulkFrozen := false, bulkLater := false, bulkOwed := g.bulkLater } else g) d
    let n := d.cal.bulkCount
    let d := { d with cal := { d.cal with applied := false, frozen := [], bulkCount := 0 } }
    d |> setSeedCount left |> addFld CAL_STATUS.COMMIT_GEN 1
      |> setFld CAL_LAST_COMMIT.SLATE d.sl.no |> setFld CAL_LAST_COMMIT.BULK n
      |> raise 128 |> forD l (fun c d => completeCmd c dsOK (slate32 d) (fld GLB_MSTATE.GEN d) d) |> commitBits

/-! ### SETTLING and RESTART at the slate boundary (R106, R168) -/

/-- Engines leave SETTLING when no commit is owed; a RESTART is applied after this at a boundary, so that a restarted
engine has passed one complete slate. -/
def settlingExit (d : Dev) : Dev :=
  forD allEngs (fun e d => whenD (engState e d == enSETTLE && !(engOf e d).bulkOwed) (setEngState e enRUN) d) d

/-! ### Seed cards (R170, R171) -/

/-- Base words of a column anchor slot from four bases. -/
def anchorSlot (bs : List Nat) : BitVec 64 :=
  BitVec.ofNat 64 ((List.range 4).foldl (fun a k => a + (bs.getD k 0 % 65536) * 65536 ^ k) 0)

/-- The seed card: gain 1.0, DEAD for a named defect. DESIGN CHOICE, log 5. -/
def seedCard (dead : Bool) : BitVec 64 := BitVec.ofNat 64 (0x400 * 2 ^ 52 + b2n dead * 8)

/-- The seed cards of engine `e`: anchors from the column table, DEAD slots from the defect list. -/
def seedEngine (e : Nat) (cols : Option (List Nat)) (dead : List Nat) (g : Eng) : Eng :=
  let base (c k : Nat) : Nat := match cols with
    | none => 8192
    | some t => t.getD (4 * c + k) 0
  let defects := dead.foldl (fun m n => mset cardD m n (seedCard true)) []
  let cards := (List.range 4).foldl (fun m i =>
    mset cardD m (12352 + i) (anchorSlot ((List.range 4).map (base (4 * e + i))))) defects
  { g with cards := cards, badCards := [] }

/-- A seed defect entry: column [11:0], active row or blind index [23:12], BLIND [24]; `none` if it names no pixel. -/
def defectSlot (w : Nat) : Option (Nat × Nat) :=
  let c := w % 4096
  let r := bitsN w 23 12
  if bitsN w 31 25 ≠ 0 then none
  else if bitN w 24 then (if 15 < r then none else some (c / 4, slotBlind r (c % 4)))
  else if 3071 < r then none else some (c / 4, slotActive r (c % 4))

/-- BOOT writes the seed cards into every engine (R170, R171). DEDUCED, log 30. -/
def seedLoad (cols defects : Option (List Nat)) (d : Dev) : Dev :=
  let l := defects.getD []
  let named := l.filterMap defectSlot
  let bad := (l.zipIdx).filter (fun x => (defectSlot x.1).isNone)
  let d := d |> whenD cols.isNone (note 128 [1]) |> whenD defects.isNone (note 128 [2])
    |> whenD (!bad.isEmpty) (note 128 [bad.length, match bad with | x :: _ => x.2 | [] => 0])
  let d := mapEngs (fun e g => seedEngine e cols ((named.filter (fun x => x.1 == e)).map (·.2)) g) d
  forD allEngs (fun e d => setFlag (ENG_STATE.SEED e) true d) d |> setSeedCount 1024

/-! ### Reading cards back (R172) -/

/-- A write of CAL_RD_CMD. R172 does not say what a later accepted read does to ERR and DONE: both stay until they are written
1. DESIGN CHOICE, log 69. -/
def calRdCmd (v : BitVec 32) (d : Dev) : Dev :=
  let kind := getBits v 31 30
  let count := if getBits v 5 0 = 0 then 64 else getBits v 5 0
  let e := getBits v 29 20
  let refused := refuseRegT kind CAL_RD_CMD.addr 0 e (fld (ENG_STATE.GEN e) d)
  if flag CAL_RD_STATUS.BUSY d then refused d
  else if kind = 3 ∨ (kind = 0 ∧ 12800 < getBits v 19 6 + count) then
    d |> setFlag CAL_RD_STATUS.ERR true |> refused |> raise 132
  else { d with cal := { d.cal with rd := some v } } |> setFlag CAL_RD_STATUS.BUSY true

/-- A slot of engine `e` as a card read finds it: with an uncorrectable error, R172 says "as read" and no value. DESIGN
CHOICE, log 65. -/
def slotRead (e n : Nat) (d : Dev) : BitVec 64 :=
  if (engOf e d).badCards.contains n then BitVec.ofNat 64 (Config.undefByte e (131072 + n) (slate32 d))
  else card (engOf e d) n

/-- The CRC-32 of slots 0 to 12,355 as read. -/
def cardCrc (e : Nat) (d : Dev) : BitVec 32 :=
  ((List.range 12356).foldl (fun c n => (leBytes 8 (slotRead e n d).toNat).foldl crc32Step c) 0xFFFFFFFF#32) ^^^ 0xFFFFFFFF#32

/-- The read completes: the result registers, DONE and source 132. -/
def calRdDone (d : Dev) : Dev :=
  match d.cal.rd with
  | none => d
  | some v =>
    let e := getBits v 29 20
    let g := engOf e d
    let slot := getBits v 19 6
    let count := if getBits v 5 0 = 0 then 64 else getBits v 5 0
    let kind := getBits v 31 30
    let d :=
      if kind = 0 then
        let bad (from_ : Nat) : Nat := bitsOf ((List.range 32).filter (fun k =>
          decide (from_ + k < count) && g.badCards.contains (slot + from_ + k)))
        let got := (List.range count).map (fun k => (k, slotRead e (slot + k) d))
        forD got (fun x d =>
          d |> wrReg (CAL_RD_DATA.addr (2 * x.1)) (BitVec.ofNat 32 x.2.toNat)
            |> wrReg (CAL_RD_DATA.addr (2 * x.1 + 1)) (BitVec.ofNat 32 (x.2.toNat / 2 ^ 32))) d
          |> wrReg CAL_RD_DBE_0.addr (BitVec.ofNat 32 (bad 0)) |> wrReg CAL_RD_DBE_1.addr (BitVec.ofNat 32 (bad 32))
      else if kind = 1 then
        d |> wrReg (CAL_RD_DATA.addr 0) (BitVec.ofNat 32 (sceneCount g * 2 ^ 16 + hostCount g))
          |> wrReg (CAL_RD_DATA.addr 1) (BitVec.ofNat 32 (2 * b2n g.bulkWriting + b2n g.bulkDone))
      else wrReg (CAL_RD_DATA.addr 0) (cardCrc e d) d
    { d with cal := { d.cal with rd := none, rdCards := kind == 0 } } |> setFlag CAL_RD_STATUS.BUSY false
      |> setFlag CAL_RD_STATUS.DONE true |> raise 132

/-! ### The staged gain table (R155) -/

/-- A write of CAL_RGAIN_n sets RG_DIRTY, whatever it writes. -/
def rgainWrite (addr : Nat) (v : BitVec 32) (d : Dev) : Dev := d |> wrReg addr v |> setFlag CAL_STATUS.RG_DIRTY true

end Sys2Proof.Machine
end

