-- ==== Sys2Proof/Machine/Cells.lean ====
section
/-! DEFINITION. The cell watch: radiometric tables, the cell map, evaluation, records, the alarm map and the relay
request (08_cell_watch.md). -/

namespace Sys2Proof.Machine

/-- Change the cell watch's own state. -/
def modCw (f : CellWatch → CellWatch) (d : Dev) : Dev := { d with cw := f d.cw }

/-! ### Radiometric tables (R202, R203) -/

/-- Staged entry `i`. -/
def rtEntry (i : Nat) (d : Dev) : Nat := mget (fun _ => 0) d.cw.rtStage i

/-- A write of CELL_RT_IDX: no effect while BUSY. -/
def rtIdxWrite (v : BitVec 32) (d : Dev) : Dev :=
  if flag CELL_RT_STATUS.BUSY d then refuseReg 0 CELL_RT_IDX.addr 0 d else setFld CELL_RT_IDX.IDX (getBits v 11 0) d

/-- A write of CELL_RT_DATA stores two entries and advances IDX; no effect while BUSY. -/
def rtDataWrite (v : BitVec 32) (d : Dev) : Dev :=
  if flag CELL_RT_STATUS.BUSY d then refuseReg 0 CELL_RT_DATA.addr 0 d
  else
    let i := fld CELL_RT_IDX.IDX d
    d |> modCw (fun c => { c with rtStage := msetList (fun _ => 0) c.rtStage i [getBits v 15 0, getBits v 31 16] })
      |> setFld CELL_RT_IDX.IDX ((i + 2) % 4096)

/-- A CELL_RT_CMD action 1 to 4: COMMIT_HIGH, COMMIT_LOW, CLEAR_HIGH, CLEAR_LOW. -/
def rtCmd (a : Nat) (d : Dev) : Dev :=
  if flag CELL_RT_STATUS.BUSY d then refuseReg a CELL_RT_CMD.addr 0 d
  else d |> setFlag CELL_RT_STATUS.BUSY true |> modCw (fun c => { c with rtAction := some a })

/-- The staged table, and the lowest index that breaks its order. -/
def rtTable (d : Dev) : List Nat := mgetList (fun _ => 0) d.cw.rtStage 0 4096
def rtFail : Nat → List Nat → Option Nat
  | i, a :: b :: r => if b < a then some i else rtFail (i + 1) (b :: r)
  | _, _ => none

/-- Which copies exist (R203). -/
def rtStatus (d : Dev) : Dev :=
  d |> setFlag CELL_STATUS.RT_HIGH d.en.radHigh.isSome |> setFlag CELL_STATUS.RT_LOW d.en.radLow.isSome

/-- The control cores' copy of a gain changes; the engines' tables follow where it is for the gain in force or for the
gain whose table they hold (R203). -/
def setCopy (low : Bool) (t : Option (List Nat)) (d : Dev) : Dev :=
  let held := d.fpa.low == low || d.en.radNext == (if low then 2 else 1)
  { d with en := if low then { d.en with radLow := t } else { d.en with radHigh := t } }
    |> whenD held (modCw (fun c => { c with rtDirty := true })) |> rtStatus

/-- A radiometric table command ends (R202); source 150. DEDUCED, log 30. -/
def rtDone (d : Dev) : Dev :=
  match d.cw.rtAction with
  | none => d
  | some a =>
    let t := rtTable d
    let d := modCw (fun c => { c with rtAction := none }) d
    let d := setFlag CELL_RT_STATUS.BUSY false d
    (if a = 1 ∨ a = 2 then
      match rtFail 0 t with
      | some i => d |> setFld CELL_RT_STATUS.RESULT 2 |> setFld CELL_RT_STATUS.ERR_IDX i |> note 144 [i, a]
      | none => d |> setFld CELL_RT_STATUS.RESULT 1 |> setCopy (a == 2) (some t)
    else d |> setFld CELL_RT_STATUS.RESULT 1 |> setCopy (a == 4) none) |> raise 150

/-- A take in progress ends at the coming boundary: in its last slate, or by a STOP that waits. -/
def takeEnds (d : Dev) : Bool := takeLast d || (inTake d && d.waits.any (fun w => w.kind == 2))

/-- The gain that will be in force in the next slate: a staged gain that the coming boundary applies, in IDLE or LIVE and
neither within a take nor at its start (02_focal_plane.md R57), else the gain applied last. -/
def comingLow (d : Dev) : Bool :=
  if flag FPA_STATUS.PENDING d && (mstate d == stIDLE || mstate d == stLIVE) && (!inTake d || takeEnds d) &&
    !takeComes d then flag FPA_MODE.GAIN d
  else d.fpa.low

/-- Write a copy into every engine's table area; with none, "no table" (R203). Rise windows restart where a table comes or
goes (R209). -/
def writeTables (low : Bool) (d : Dev) : Dev :=
  let t := if low then d.en.radLow else d.en.radHigh
  let new := t.isSome || d.en.radNext != 0
  let d := match t with
    | none => d
    | some l => mapEngs (fun e g => if engState e d = enFAULT then g
        else setBytes 0 (halfBytes l) g) d
  { d with en := { d.en with radNext := if t.isNone then 0 else if low then 2 else 1 } }
    |> modCw (fun c => { c with rtDirty := false, rvAll := c.rvAll || new })

/-- Blanking slots 12 to 23: the tables are written where a copy for the coming gain is not what the engines hold
(R203). -/
def rtWrite (d : Dev) : Dev :=
  if !(mstate d == stIDLE || mstate d == stLIVE) || takeWork d then d
  else
    let low := comingLow d
    let have_ := if low then d.en.radLow.isSome else d.en.radHigh.isSome
    let want := if !have_ then 0 else if low then 2 else 1
    if d.cw.rtDirty || want != d.en.radNext then writeTables low d else d

/-! ### Map and zone classes (R204 to R206) -/

/-- Map entries. -/
def mapEntry (i : Nat) (d : Dev) : BitVec 32 := mget (fun _ => 0#32) d.cw.mapIn i
def mapStaged (i : Nat) (d : Dev) : BitVec 32 := mget (fun _ => 0#32) d.cw.mapSt i

/-- The staged entry that CELL_MAPW_n reaches. -/
def mapwIndex (n : Nat) (d : Dev) : Nat := 512 * fld CELL_MAP_CTRL.BASE d + n

/-- A write of CELL_MAPW_n: discarded and recorded while MAP_BUSY is 1 (R204). Bits [31:25] of an entry are reserved: they
hold 0 (00_scope.md R21). DEDUCED, log 50. -/
def mapwWrite (n : Nat) (v : BitVec 32) (d : Dev) : Dev :=
  if flag CELL_STATUS.MAP_BUSY d then refuseReg 0 (CELL_MAPW.addr n) 0 d
  else
    let i := mapwIndex n d
    modCw (fun c => { c with mapSt := mset (fun _ => 0#32) c.mapSt i (v &&& 0x01FFFFFF#32) }) d

/-- APPLY (R204). -/
def mapApply (d : Dev) : Dev :=
  if flag CELL_STATUS.MAP_BUSY d then refuseReg 1 CELL_MAP_CTRL.addr 0 d
  else modCw (fun c => { c with apply := true }) d

/-- Zone class words at reset. -/
def zoneD : Nat → BitVec 32 := fun i => if i % 3 = 0 then 0xFFFFFFFF#32 else if i % 3 = 1 then 0x00000007#32 else 0x031E0100#32

/-- Word `k` of class `n` in force. -/
def zoneIn (n k : Nat) (d : Dev) : BitVec 32 := mget zoneD d.cw.zones (3 * n + k)

/-- Word `k` of class `n` as its register stands. -/
def zoneReg (n k : Nat) (d : Dev) : BitVec 32 :=
  rdReg (if k = 0 then CELL_ZONE0.addr n else if k = 1 then CELL_ZONE1.addr n else CELL_ZONE2.addr n) d

/-- The zone class of cell `i`. -/
def cellZone (i : Nat) (d : Dev) : Nat := getBits (mapEntry i d) 5 0

def cellD : Nat → Cell := fun _ => {}

/-- Cell `i`. -/
def cellOf (i : Nat) (d : Dev) : Cell := mget cellD d.cw.cells i

/-- Change cell `i`. -/
def modCell (i : Nat) (f : Cell → Cell) (d : Dev) : Dev :=
  modCw (fun c => { c with cells := mmod cellD c.cells i f }) d

/-- Blanking slot 28: the staged map becomes the bank in force; persistence restarts where a class changes, and the
rise window where its RWIN changes (R204, R205, R209). The banks change places: until the copy has ended the window shows
the bank that was in force, on which R204 says nothing. DESIGN CHOICE, log 67. -/
def mapSwitch (d : Dev) : Dev :=
  if !d.cw.apply then d
  else
    let old := fun i => cellZone i d
    let d' := modCw (fun c => { c with mapIn := c.mapSt, mapSt := c.mapIn, apply := false }) d
    let moved := (d'.cw.cells.filter (fun x => cellZone x.1 d' != old x.1)).map (·.1)
    let rv := moved.filter (fun i => getBits (zoneReg (cellZone i d') 1 d') 4 0 != getBits (zoneIn (old i) 1 d) 4 0)
    d' |> forD moved (fun i => modCell i (fun c => { c with p := 0 }))
      |> modCw (fun c => { c with rvSome := c.rvSome ++ rv })
      |> setFlag CELL_STATUS.MAP_BUSY true

/-- The copy of the new bank into the staged bank ends (R204, R219). -/
def mapCopyDone (d : Dev) : Dev :=
  if !flag CELL_STATUS.MAP_BUSY d then d
  else d |> modCw (fun c => { c with mapSt := c.mapIn }) |> setFlag CELL_STATUS.MAP_BUSY false |> raise 152

/-- Blanking slot 28: the class registers come into force for the next evaluation (R205). -/
def zonesLatch (d : Dev) : Dev :=
  let changed := (List.range 64).filter (fun n => (List.range 3).any (fun k => zoneReg n k d != zoneIn n k d))
  if changed.isEmpty then d
  else
    let cells := (d.cw.cells.filter (fun x => changed.contains (cellZone x.1 d))).map (·.1)
    let z := (List.range 192).foldl (fun z i => mset zoneD z i (zoneReg (i / 3) (i % 3) d)) d.cw.zones
    d |> modCw (fun c => { c with zones := z }) |> forD cells (fun i => modCell i (fun c => { c with p := 0 }))

/-- Cell index of record `k` of engine `e` (R95, R201). -/
def cellOfRec (e k : Nat) : Nat := 512 * (if e % 2 = 0 then k else 256 + k) + e / 2

/-- THR of every record of engine `e`: the WARN of its cell's class in force for the next slate (R206). -/
def reloadThr (e : Nat) (d : Dev) (g : Eng) : Eng :=
  (List.range 256).foldl (fun g k =>
    setData (0x2C00 + 16 * k + 10) 2 (getBits (zoneIn (cellZone (cellOfRec e k) d) 0 d) 15 0) g) g

/-- Blanking slots 28 to 31: THR is written into every engine that is not FAULTED, outside the take slates of a
shuttered take (R206); in its last slate, once the work area is restored, THR follows the classes of the next slate as
R184 has it. DESIGN CHOICE, log 29. -/
def thrWrite (d : Dev) : Dev :=
  if takeWork d && !d.take.worked then d
  else mapEngs (fun e g => if engState e d = enFAULT then g else reloadThr e d g) d

/-! ### Releases (R210) -/

/-- A write of CELL_ACK. -/
def cellAck (all : Bool) (i : Nat) (d : Dev) : Dev :=
  modCw (fun c => if all then { c with ackAll := true } else { c with acks := c.acks ++ [i] }) d

/-- Blanking slot 4: releases written until now act in the coming evaluation; those that find a cell NORMAL do nothing. -/
def latchAcks (d : Dev) : Dev :=
  if mstate d != stLIVE then d
  else
    let c := d.cw
    modCw (fun _ => { c with
      acks := [], ackAll := false
      cells := c.cells.map (fun x =>
        if x.2.st != 0 && (c.ackAll || c.acks.contains x.1) then (x.1, { x.2 with rel := true }) else x) }) d

/-! ### Evaluation (R207, R208) -/

/-- A class as the evaluation uses it. -/
structure Zone where
  alarm : Nat
  warn : Nat
  riseLim : Nat
  rwin : Nat
  persist : Nat
  clear : Nat
  area : Nat
  riseAlarm : Bool
  relay : Bool
  summary : Bool
  enable : Bool
  deriving DecidableEq, Repr

/-- Class `n` in force. -/
def zone (n : Nat) (d : Dev) : Zone :=
  let a := zoneIn n 0 d
  let b := zoneIn n 1 d
  let c := zoneIn n 2 d
  { alarm := getBits a 31 16, warn := getBits a 15 0, riseLim := getBits b 31 16, rwin := getBits b 4 0
    persist := getBits c 31 24, clear := getBits c 23 16, area := getBits c 13 8, riseAlarm := getBits c 4 4 == 1
    relay := getBits c 3 3 == 1, summary := getBits c 2 2 == 1, enable := getBits c 0 0 == 1 }

/-- mean and rise window of R208: the cell after its first part. -/
def riseStep (z : Zone) (slateTicks : Nat) (mean : Int) (c : Cell) : Cell :=
  if !c.rv then { c with ref := mean, age := 0, rise := 0, rv := true }
  else
    let age := c.age + 1
    let window := 8 * (z.rwin + 1)
    if window ≤ age then
      { c with age := 0, ref := mean,
               rise := sat (tdiv ((mean - c.ref) * 400000000) (window * slateTicks : Nat)) (-32768) 32767 }
    else { c with age := age }

/-- The rise test holds. -/
def riseHolds (z : Zone) (c : Cell) : Bool := z.enable && z.riseLim != 0 && decide ((z.riseLim : Int) ≤ c.rise)

/-- lvl of R208. -/
def levelOf (z : Zone) (r : CellRec) (c : Cell) : Nat :=
  if !z.enable then 0
  else
    let lvl := if z.area ≤ r.above then (if z.alarm ≤ r.max then 2 else 1) else 0
    if riseHolds z c then max lvl (if z.riseAlarm then 2 else 1) else lvl

/-- The persistence part of R208: the cell, and the count that completed a change. -/
def persistStep (z : Zone) (lvl : Nat) (c : Cell) : Cell × Option Nat :=
  if lvl = c.st then ({ c with p := 0 }, none)
  else
    let up := decide (c.st < lvl)
    let c := if c.p = 0 ∨ up ≠ c.up then { c with p := 0, up := up } else c
    if !up && z.clear == 0 then ({ c with p := 0 }, none)
    else
      let p := min (c.p + 1) 255
      if (if up then z.persist else z.clear) ≤ p then ({ c with st := lvl, p := 0 }, some p)
      else ({ c with p := p }, none)

/-- The outcome of one cell's evaluation: its kept values, its CHANGE records as (from, to, count), and the fields of
its record. -/
structure CellOut where
  cell : Cell
  changes : List (Nat × Nat × Nat)
  released : Bool
  nosee : Bool
  riseOn : Bool
  mean : Nat
  deriving DecidableEq, Repr

/-- One cell's evaluation (R208, R210). -/
def evalCell (z : Zone) (slateTicks : Nat) (r : CellRec) (c : Cell) : CellOut :=
  let rel := c.rel && c.st != 0
  let ch0 := if rel then [(c.st, 0, 0)] else []
  let c := if rel then { c with st := 0, p := 0, rel := false } else { c with rel := false }
  if r.count = 0 then ⟨c, ch0, rel, true, false, 0⟩
  else
    let mean := r.sum / r.count
    let c := riseStep z slateTicks mean c
    let old := c.st
    let x := persistStep z (levelOf z r c) c
    ⟨x.1, ch0 ++ (match x.2 with | some n => [(old, x.1.st, n)] | none => []), rel, false, riseHolds z c, mean⟩

/-- The 16-byte cell record of R211. -/
def cellRecord (r : CellRec) (x : CellOut) (st persist zn : Nat) (skipped : Bool) : List (BitVec 8) :=
  let blank := x.nosee || skipped
  let v (n : Nat) := if blank then 0 else n
  let flags := st * 64 + b2n skipped * 32 + b2n (x.nosee && !skipped) * 16 + b2n (x.riseOn && !skipped) * 8 +
    b2n (!blank && decide (r.count ≤ 47)) * 4 + b2n x.released * 2
  leBytes 2 (v r.max) ++ leBytes 2 (v r.min) ++ leBytes 2 (v x.mean) ++ leBytes 1 (v r.above) ++ leBytes 1 flags ++
  leBytes 2 (ux 16 x.cell.rise) ++ leBytes 1 persist ++ leBytes 1 zn ++ List.replicate 4 0

/-- The 32-byte ring record of R212; KIND 1 CHANGE, 2 SUMMARY. -/
def cellRingRecord (kind from_ i : Nat) (rec : List (BitVec 8)) (d : Dev) : List (BitVec 8) :=
  leBytes 4 (kind + 256 * from_) ++ leBytes 4 i ++ leBytes 4 (slate32 d) ++ leBytes 4 (d.sl.start % 2 ^ 32) ++ rec

/-- CELL_DROP counts; source 151 when a count goes from 0 to 1 (R219). DESIGN CHOICE, log 29. -/
def cellDropped (d : Dev) : Dev :=
  let first := fld CELL_DROP.DROPPED d == 0
  d |> addFldSat CELL_DROP.DROPPED 1 |> whenD first (raise 151)
/-- DESIGN CHOICE, log 29. -/
def cellMisrouted (d : Dev) : Dev :=
  let first := fld CELL_DROP.MISROUTED d == 0
  d |> addFldSat CELL_DROP.MISROUTED 1 |> whenD first (raise 151)

/-- An ENABLED ring of a type. -/
def ringReady (t n : Nat) (d : Dev) : Bool := (ring n d).st == rgENABLED && (ring n d).typ == t

/-- The ring writer takes the oldest record of the queue (R213, R245). -/
def recordDequeue (d : Dev) : Dev :=
  match d.cw.queue with
  | [] => d
  | (n, bytes) :: rest => d |> modCw (fun c => { c with queue := rest }) |> putRecord n bytes

/-- A record enters the queue of 4,096. A full queue drops it, unless the ring writer is still to take one of the
`kept` records that it takes while the evaluation runs. -/
def enqueueRecord (n : Nat) (bytes : List (BitVec 8)) (x : Nat × Dev) : Nat × Dev :=
  let push (d : Dev) : Dev := modCw (fun c => { c with queue := c.queue ++ [(n, bytes)] }) d
  if x.2.cw.queue.length < 4096 then (x.1, push x.2)
  else if 0 < x.1 then (x.1 - 1, push (recordDequeue x.2))
  else (0, cellDropped x.2)

/-- The ring of a CHANGE record, with the counts of R213. -/
def putChange (i : Nat) (bytes : List (BitVec 8)) (x : Nat × Dev) : Nat × Dev :=
  let d := x.2
  let m := mapEntry i d
  let bound := getBits m 24 24 == 1
  let own := getBits m 23 6
  let dflt := fld CELL_CFG.DEF_RING d
  if bound && ringReady 4 own d then enqueueRecord own bytes x
  else
    let d := whenD bound cellMisrouted d
    if ringReady 4 dflt d then enqueueRecord dflt bytes (x.1, d) else (x.1, cellDropped d)

/-- A SUMMARY record to CELL_SUM_RING (R214). -/
def putSummary (bytes : List (BitVec 8)) (x : Nat × Dev) : Nat × Dev :=
  let n := fld CELL_SUM_RING.RING x.2
  if ringReady 5 n x.2 then enqueueRecord n bytes x else (x.1, cellDropped x.2)

/-- What the slate's evaluation has gathered beside the cells. -/
structure EvalSum where
  alarm : Bool := false
  warn : Bool := false
  fall : Bool := false
  skipped : Nat := 0
  kept : Nat := 0
  deriving DecidableEq, Repr

/-- Evaluate cell `i`, or skip it; its records go out (R207 to R214). -/
def evalOne (skip : Nat → Bool) (i : Nat) (x : EvalSum × Dev) : EvalSum × Dev :=
  let d := x.2
  let p := i % 512
  let q := i / 512
  let e := if q < 256 then 2 * p else 2 * p + 1
  let r := mget cellRecD d.en.handed (256 * e + q % 256)
  let c := cellOf i d
  let zn := cellZone i d
  let z := zone zn d
  let skipped := skip i
  let o : CellOut := if skipped then ⟨c, [], false, false, false, 0⟩
    else evalCell z (nslots d * ticksInForce d) r c
  let d := if o.cell = c then d else modCell i (fun _ => o.cell) d
  let s := x.1
  let (k, d) := o.changes.foldl (fun y ch =>
    putChange i (cellRingRecord 1 ch.1 i (cellRecord r o ch.2.1 ch.2.2 zn false) y.2) y) (s.kept, d)
  let n := fld CELL_CFG.SUM_DIV d
  let sum := n != 0 && d.sl.no % n == 0 && (o.cell.st != 0 || z.summary)
  let (k, d) := if sum then
      putSummary (cellRingRecord 2 c.st i (cellRecord r o o.cell.st
        (match o.changes.find? (fun ch => ch.2.2 != 0) with | some ch => ch.2.2 | none => o.cell.p) zn skipped) d) (k, d)
    else (k, d)
  ({ alarm := s.alarm || o.changes.any (fun ch => ch.2.1 == 2)
     warn := s.warn || o.changes.any (fun ch => ch.1 == 0 && ch.2.1 == 1)
     fall := s.fall || o.changes.any (fun ch => decide (ch.2.1 < ch.1))
     skipped := s.skipped + b2n skipped
     kept := k }, d)

/-- Evaluation order: cell rows ascending, the eight cell columns of every cluster in step, clusters ascending within a
cycle (R207; the order within a cycle is the model's). DESIGN CHOICE, log 29. -/
def evalOrder : List Nat :=
  (List.range 512).flatMap (fun q => (List.range 8).flatMap (fun j => (List.range 64).map (fun k => 512 * q + 8 * k + j)))

/-- Cells to which a column of an engine that missed frame close contributes (R72, R207). DEDUCED, log 47. -/
def missedCell (d : Dev) (i : Nat) : Bool :=
  d.en.missed.contains (2 * (i % 512)) || d.en.missed.contains (2 * (i % 512) + 1)

/-- The cells in ALARM in the last completed map. -/
def amapAlarms (d : Dev) : List Nat :=
  (d.aux.filter (fun x => decide (0x30000 ≤ x.1) && decide (x.1 < 0x38000) && decide (x.1 % 4 = 0))).flatMap (fun x =>
    (onesBelow 32 (rdReg x.1 d).toNat).map (fun b => 8 * (x.1 - 0x30000) + b))

/-- The evaluated map becomes the last completed map (R216); MGP_ATTN.AMAP when it differs (R289). A SKIPPED cell keeps the
bit that it had (R207; 01_architecture.md R29), in the first evaluation after RESET too, where the aux domain has kept the
map. -/
def amapComplete (skip : Nat → Bool) (watching : Bool) (d : Dev) : Dev :=
  let old := amapAlarms d
  let new := mwhere cellD (fun c => c.st == 2) d.cw.cells
  let new := new.filter (fun i => !skip i) ++ old.filter skip
  let d := { d with aux := d.aux.filter (fun x => decide (x.1 < 0x30000) || decide (0x38000 ≤ x.1)) }
  let d := forD new (fun i d => setFlag ⟨AMAP_BIT.addr (i / 32), i % 32, i % 32⟩ true d) d
  d |> setFlag AMAP_INFO.VALID true |> setFlag AMAP_INFO.WATCHING watching |> setFld AMAP_INFO.ALARMS new.length
    |> setFld AMAP_SLATE.SLATE (slate32 d) |> whenD (new.any (fun i => !old.contains i) || old.any (fun i => !new.contains i)) (attn 0)

/-- Blanking slots 4 to 27, then 28: every cell is evaluated or SKIPPED and the map completes; only in LIVE (R207 to
R216). `unevaluated` names the cells that the evaluators did not reach, `kept` is how many records the ring writer
took meanwhile. DESIGN CHOICE, log 29. -/
def cellEvaluate (unevaluated : List Nat) (kept : Nat) (d : Dev) : Dev :=
  if mstate d != stLIVE then d
  else
    let skip (i : Nat) : Bool := missedCell d i || unevaluated.contains i
    let (s, d) := evalOrder.foldl (fun x i => evalOne skip i x) (({ kept := kept } : EvalSum), d)
    let watching := radInForce d && s.skipped == 0 && !(allEngs.any (fun e => engState e d == enFAULT)) && !cellsZero d
    d |> whenD s.alarm (raise 144) |> whenD s.warn (raise 145) |> whenD s.fall (raise 146)
      |> whenD (s.skipped != 0) (fun d => d |> raise 148 |> note 144 [s.skipped])
      |> setFld CELL_STATUS.SKIPPED s.skipped
      |> setFld CELL_ALARMS.COUNT (mwhere cellD (fun c => c.st == 2) d.cw.cells).length
      |> setFld CELL_WARNS.COUNT (mwhere cellD (fun c => c.st == 1) d.cw.cells).length
      |> amapComplete skip watching |> setWatching watching

/-! ### The relay request (R218) -/

/-- The relay request of the slate. -/
def relayWanted (d : Dev) : Bool :=
  (amapAlarms d).any (fun i => (zone (cellZone i d) d).relay) || flag CELL_RELAY.TEST_ALARM d ||
  (flag CELL_RELAY.BLIND_ALARM d && !flag GLB_MSTATE.WATCHING d)

/-- Blanking slot 28: the request is set (R218, R219, R289). -/
def relayRequest (d : Dev) : Dev :=
  let r := relayWanted d
  let was := flag CELL_RELAY.REQ d
  d |> setFlag CELL_RELAY.REQ r |> whenD (mstate d == stLIVE) (setFlag AMAP_INFO.RELAY_REQ r)
    |> whenD (r && !was) (countUp 13) |> whenD (r != was) (fun d => d |> raise 149 |> attn 1)

/-! ### The slate boundary (R203, R209) -/

/-- New tables come into force; rise windows restart (R203, R209). `changed` says that NSLOTS, TICKS or the gain in force
changes at this boundary. -/
def cellBoundary (changed : Bool) (d : Dev) : Dev :=
  let d := { d with en := { d.en with radTag := d.en.radNext, handed := [], missed := [] } }
  let all := d.cw.rvAll || changed
  let some_ := d.cw.rvSome
  modCw (fun c => { c with
    rvAll := false, rvSome := []
    cells := c.cells.filterMap (fun x =>
      let y := if all || some_.contains x.1 then { x.2 with rv := false } else x.2
      if y = {} then none else some (x.1, y)) }) d

end Sys2Proof.Machine
end

