-- ==== Sys2Proof/Machine/Crossing.lean ====
section
/-! DEFINITION. The crossing: messages, queues and sending of both ends, and the host end's tagged messages
(12_field_side.md R293 to R297, R304, R305). -/

namespace Sys2Proof.Machine

/-! ### Message types and words (R293 to R296) -/

def xHBEAT_H : Nat := 0x01
def xSLATE_MARK : Nat := 0x02
def xSAFE : Nat := 0x03
def xACT_CMD : Nat := 0x04
def xSHOT_WR : Nat := 0x05
def xREG_WR : Nat := 0x06
def xHK_CMD : Nat := 0x07
def xIND_DATA : Nat := 0x08
def xIND_LATCH : Nat := 0x09
def xMIRROR_REQ : Nat := 0x0A
def xECHO_REQ : Nat := 0x0B
def xSHOT_RD : Nat := 0x0C
def xHBEAT_F : Nat := 0x10
def xACK : Nat := 0x11
def xMIRROR : Nat := 0x12
def xHK_RESULT : Nat := 0x13
def xHK_EVENT : Nat := 0x14
def xACT_EVENT : Nat := 0x15
def xSHOT_STATUS : Nat := 0x16
def xIND_STATUS : Nat := 0x17
def xFIELD_EVENT : Nat := 0x18
def xBOOT_F : Nat := 0x19
def xECHO : Nat := 0x1A
def xSHOT_DATA : Nat := 0x1B

/-- A field of a payload: `v` in bits `hi` down to `lo`. -/
def pf (hi lo v : Nat) : Nat := v % 2 ^ (hi + 1 - lo) * 2 ^ lo

/-- Payload bits that a type uses, as one mask (R295, R341, R356). -/
def xUsed (t : Nat) : Nat :=
  let ones (hi lo : Nat) : Nat := 2 ^ (hi + 1) - 2 ^ lo
  if t = 0x01 then ones 46 17 else if t = 0x02 then ones 46 30 else if t = 0x03 then 0
  else if t = 0x04 then ones 46 23 else if t = 0x05 then ones 46 31 + ones 23 0
  else if t = 0x07 then ones 46 26 else if t = 0x08 then ones 46 17 else if t = 0x09 then ones 46 24
  else if t = 0x0A then ones 46 39 else if t = 0x0C then ones 46 31
  else if t = 0x11 then ones 46 28 else if t = 0x17 then ones 46 31 + ones 21 0
  else if t = 0x18 then ones 46 31 else if t = 0x19 then ones 46 39
  else if t = 0x1B then ones 46 31 + ones 23 0
  else ones 46 0

/-- The types of a channel (R295). -/
def xDefined (toField : Bool) (t : Nat) : Bool :=
  if toField then decide (0x01 ≤ t) && decide (t ≤ 0x0C) else decide (0x10 ≤ t) && decide (t ≤ 0x1B)

/-- The 64 bits of a message (R293). -/
def xWord (m : XMsg) : BitVec 64 :=
  let hi := pf 63 59 m.typ + pf 58 55 m.seq + pf 54 8 m.p
  let bytes := (List.range 7).map (fun i => BitVec.ofNat 8 (hi >>> (56 - 8 * i)))
  BitVec.ofNat 64 (hi + (crc8 bytes).toNat)

/-- A received word has a correct CRC; its TYPE is defined and its unused bits are 0 (R294). -/
def xCrcOk (w : BitVec 64) : Bool :=
  let bytes := (List.range 7).map (fun i => BitVec.ofNat 8 (w.toNat >>> (56 - 8 * i)))
  crc8 bytes == BitVec.ofNat 8 w.toNat
def xTypeOk (toField : Bool) (w : BitVec 64) : Bool :=
  let t := bitsN w.toNat 63 59
  xDefined toField t && (bitsN w.toNat 54 8 &&& (2 ^ 47 - 1 - xUsed t)) == 0

/-- Send priority (R296). -/
def xPrio (t : Nat) : Nat :=
  if t = 0x03 ∨ t = 0x10 then 1
  else if t = 0x01 ∨ t = 0x02 ∨ t = 0x18 ∨ t = 0x11 ∨ t = 0x19 then 2
  else if t = 0x0A ∨ t = 0x0B ∨ t = 0x0C ∨ t = 0x12 ∨ t = 0x1B then 4
  else if t = 0x13 then 5 else 3

/-- The first item of the lowest priority number, and the rest. -/
def xPick (l : List XItem) : Option (XItem × List XItem) :=
  match (List.range 6).find? (fun k => l.any (fun i => xPrio i.typ == k)) with
  | none => none
  | some k => (l.find? (fun i => xPrio i.typ == k)).map (fun i => (i, l.eraseP (fun j => xPrio j.typ == k)))

/-- The end sends its next message if it sends none (R296). -/
def XTx.pump (x : XTx) : XTx :=
  match x.cur with
  | some _ => x
  | none => match xPick x.queue with
    | none => x
    | some (i, rest) => { queue := rest, cur := some (i, x.seq), seq := (x.seq + 1) % 16 }

/-! ### Sending -/

def modXh (f : XHost → XHost) (d : Dev) : Dev := { d with xh := f d.xh }
def modFl (f : Field → Field) (d : Dev) : Dev := { d with fl := f d.fl }

/-- The host end is powered and out of reset (R297). -/
def hostEndOn (d : Dev) : Bool := mainRuns d

/-- TAG of a payload. -/
def pTag (p : Nat) : Nat := bitsN p 46 39

/-- The host end's sender goes on; an ECHO_REQ is timed from here (R319). -/
def hostPump (d : Dev) : Dev :=
  let idle := d.xh.tx.cur.isNone
  let d := modXh (fun x => { x with tx := x.tx.pump }) d
  match d.xh.tx.cur with
  | some (i, _) =>
    if idle && i.typ == xECHO_REQ then modXh (fun x => { x with echo := some (pTag i.p, d.sl.tick) }) d else d
  | none => d

/-- The host end queues a message. -/
def hostSend (t p : Nat) (d : Dev) : Dev :=
  if !hostEndOn d then d
  else d |> modXh (fun x => { x with tx := { x.tx with queue := x.tx.queue ++ [⟨t, p, none⟩] } }) |> hostPump

/-- FT: the field companion's microsecond counter (R295). DESIGN CHOICE, log 39. -/
def fieldFT (d : Dev) : Nat := (d.sl.tick - d.fl.t0) / 400 % 2 ^ 22

/-- The field companion's sender goes on: with nothing else queued it drains its buffer (R316); an HBEAT_F takes its FT
as it is sent (R295). -/
def fieldPump (d : Dev) : Dev :=
  let f := d.fl
  let f := match f.tx.cur, f.tx.queue, f.hk.buf with
    | none, [], p :: rest => { f with hk := { f.hk with buf := rest }, tx := { f.tx with queue := [⟨xHK_RESULT, p, none⟩] } }
    | _, _, _ => f
  let tx := f.tx.pump
  let tx := match f.tx.cur, tx.cur with
    | none, some (i, s) => if i.typ = xHBEAT_F
        then { tx with cur := some ({ i with p := i.p / 2 ^ 22 * 2 ^ 22 + fieldFT d }, s) } else tx
    | _, _ => tx
  { d with fl := { f with tx := tx } }

/-- The field companion queues a message. -/
def fieldSendAck (t p : Nat) (ack : Option Nat) (d : Dev) : Dev :=
  if !d.fl.on then d
  else d |> modFl (fun f => { f with tx := { f.tx with queue := f.tx.queue ++ [⟨t, p, ack⟩] } }) |> fieldPump
def fieldSend (t p : Nat) : Dev → Dev := fieldSendAck t p none

/-- ACK of a TAG with its status and the unit's GEN; the last 16 TAGs are remembered (R304, R305). -/
def ackPayload (tag status gen : Nat) : Nat := pf 46 39 tag + pf 38 36 status + pf 35 28 gen
def fieldAck (tag status gen : Nat) (d : Dev) : Dev :=
  d |> modFl (fun f => { f with tags := ((tag, status, gen) :: f.tags.filter (fun x => x.1 != tag)).take 16 })
    |> fieldSend xACK (ackPayload tag status gen)

/-- A message ends after 3.2 µs: it is on its way to the other end, if that end is powered; an ACK that waits for it is
queued, and the sender goes on (R293, R296, R309). DESIGN CHOICE, log 39. -/
def hostMsgSent (d : Dev) : Dev :=
  match d.xh.tx.cur with
  | none => d
  | some (i, s) =>
    let d := modXh (fun x => { x with tx := { x.tx with cur := none } }) d
    d |> whenD d.fl.on (modFl (fun f => { f with wire := f.wire ++ [⟨i.typ, s, i.p⟩] })) |> hostPump
/-- DESIGN CHOICE, log 39. -/
def fieldMsgSent (d : Dev) : Dev :=
  match d.fl.tx.cur with
  | none => d
  | some (i, s) =>
    let d := modFl (fun f => { f with tx := { f.tx with cur := none } }) d
    let d := whenD (hostEndOn d) (modXh (fun x => { x with wire := x.wire ++ [⟨i.typ, s, i.p⟩] })) d
    let d := match i.ack with
      | some tag => fieldAck tag 0 d.fl.gen d
      | none => d
    fieldPump d

/-- An invalid message at an end is dropped; the host end counts it by its failure (R294). -/
def invalidMsg (toField : Bool) (w : BitVec 64) (d : Dev) : Dev :=
  if xCrcOk w && xTypeOk toField w then d
  else if toField then modFl (fun f => { f with wire := f.wire.drop 1 }) d
  else
    let d := modXh (fun x => { x with wire := x.wire.drop 1 }) d
    if !hostEndOn d then d
    else if xCrcOk w then addFldSat FLD_XERR.TYPE 1 d else addFldSat FLD_XERR.CRC 1 d

/-! ### Tagged messages of the host end (R304, R305) -/

/-- The crossing state; UP. -/
def xState (d : Dev) : Nat := fld FLD_XSTATE.STATE d
def xUp (d : Dev) : Bool := xState d == 2

/-- Queue a tagged message with the next TAG. -/
def hostRequest (t p : Nat) (act : XAct) (d : Dev) : Dev :=
  let tag := d.xh.tag
  let p := pf 46 39 tag + p % 2 ^ 39
  d |> modXh (fun x => { x with tag := (tag + 1) % 256, pend := x.pend ++ [⟨tag, t, p, 1, act⟩] }) |> hostSend t p

/-- Queue a write of the host-side register `addr`: one message at a time, in the order of writing (R308). -/
def hostWriteRequest (t p : Nat) (act : XAct) (busy : XAct → Bool) (d : Dev) : Dev :=
  if d.xh.pend.any (fun e => busy e.act) then
    let tag := d.xh.tag
    modXh (fun x => { x with
      tag := (tag + 1) % 256, pend := x.pend ++ [⟨tag, t, pf 46 39 tag + p % 2 ^ 39, 0, act⟩] }) d
  else hostRequest t p act d

/-- The oldest write that waited for an earlier one of its register, now answered, is sent. -/
def hostWriteNext (busy : XAct → Bool) (d : Dev) : Dev :=
  match d.xh.pend.find? (fun e => busy e.act) with
  | some e =>
    if e.tries = 0 then
      d |> modXh (fun x => { x with pend := x.pend.map (fun y => if y.tag = e.tag then { y with tries := 1 } else y) })
        |> hostSend e.typ e.p
    else d
  | none => d

/-- The pending message of a TAG. -/
def xPendOf (tag : Nat) (d : Dev) : Option XPend := d.xh.pend.find? (fun e => e.tag == tag)
def dropPend (tag : Nat) : Dev → Dev := modXh (fun x => { x with pend := x.pend.eraseP (fun e => e.tag == tag) })

/-- Writes that await ACK (R308, R345). -/
def wrPend (d : Dev) : Nat :=
  (d.xh.pend.filter (fun e => e.typ == xREG_WR || e.typ == xSHOT_WR)).length

/-- The message of a TAG has been sent: it is neither queued nor being sent. -/
def xIsSent (tag : Nat) (d : Dev) : Bool :=
  let same (i : XItem) : Bool := pTag i.p == tag && (decide (4 ≤ i.typ) && decide (i.typ ≤ 0x0C) && i.typ != xECHO_REQ)
  !(d.xh.tx.queue.any same) && (match d.xh.tx.cur with
    | some (i, _) => !same i
    | none => true)

/-! ### The wire -/

/-- The message that arrives next at the field companion, if it is of the type; and the wire without it. -/
def fieldArrives (t : Nat) (d : Dev) : Option XMsg :=
  match d.fl.wire with
  | m :: _ => if d.fl.on && m.typ == t then some m else none
  | [] => none
def fieldTaken : Dev → Dev := modFl (fun f => { f with wire := f.wire.drop 1 })
def hostArrives (t : Nat) (d : Dev) : Option XMsg :=
  match d.xh.wire with
  | m :: _ => if hostEndOn d && m.typ == t then some m else none
  | [] => none
def hostTaken : Dev → Dev := modXh (fun x => { x with wire := x.wire.drop 1 })

/-! ### Field registers (R307, R319) -/

def fReg (a : Nat) (d : Dev) : BitVec 32 := mget regReset d.fl.regs a
def fWr (a : Nat) (v : BitVec 32) (d : Dev) : Dev := modFl (fun f => { f with regs := mset regReset f.regs a v }) d
def fFld (x : Fld) (d : Dev) : Nat := getBits (fReg x.addr d) x.hi x.lo
def fFlag (x : Fld) (d : Dev) : Bool := fFld x d != 0
def fSet (x : Fld) (v : Nat) (d : Dev) : Dev := fWr x.addr (setBits (fReg x.addr d) x.hi x.lo v) d

/-! ### The field companion's state word (R302) -/

/-- FIELD_EVENT, HBEAT_F payload without the entries and FT. -/
def fieldPayload (d : Dev) : Nat :=
  pf 46 45 d.fl.mode + pf 44 44 (b2n d.fl.inh) + pf 43 43 (b2n d.fl.plaus) + pf 42 35 d.fl.gen + pf 34 31 d.fl.cause

/-- A change of MODE, INHIBIT or PLAUS_FAULT: GEN advances unless the companion is fresh, and FIELD_EVENT is sent. -/
def fieldChanged (d : Dev) : Dev :=
  let d := modFl (fun f => { f with gen := if f.fresh then f.gen else (f.gen + 1) % 256 }) d
  fieldSend xFIELD_EVENT (fieldPayload d) d

/-- INHIBIT from the four thermal sensors, in 1/64 degree (R303). -/
def inhibitOf (was : Bool) (temps : List Int) : Bool :=
  if temps.any (fun t => decide (t < -2880)) then true
  else if temps.all (fun t => decide (-2752 ≤ t)) then false else was
def inhibitChange (temps : List Int) (d : Dev) : Dev :=
  let n := inhibitOf d.fl.inh temps
  if !d.fl.on || n == d.fl.inh then d
  else d |> modFl (fun f => { f with inh := n }) |> fieldChanged

end Sys2Proof.Machine
end

