-- ==== Sys2Proof/Machine/Housekeeping.lean ====
section
/-! DEFINITION. The housekeeping converters of the field companion: scans, injected conversions, open-wire tests,
self-calibration and results (12_field_side.md R310 to R316). -/

namespace Sys2Proof.Machine

def modHk (f : Hk → Hk) (d : Dev) : Dev := modFl (fun x => { x with hk := f x.hk }) d

/-- Converter HKA (`false`) or HKB (`true`). -/
def hkConv (b : Bool) (d : Dev) : HkConv := if b then d.fl.hk.b else d.fl.hk.a
def modConv (b : Bool) (f : HkConv → HkConv) : Dev → Dev :=
  modHk (fun h => if b then { h with b := f h.b } else { h with a := f h.a })

/-- Channel `n` of the field companion. -/
def chanD : Nat → Chan := fun _ => {}
def chan (n : Nat) (d : Dev) : Chan := mget chanD d.fl.chans n
def modChan (n : Nat) (f : Chan → Chan) : Dev → Dev :=
  modFl (fun x => { x with chans := mmod chanD x.chans n f })

/-- HK_EVENT (R295, R317). -/
def hkEvent (kind ch value : Nat) (d : Dev) : Dev :=
  fieldSend xHK_EVENT (pf 46 43 kind + pf 42 38 ch + pf 37 22 value + pf 21 0 (fieldFT d)) d

/-- A channel that R310 reserves. -/
def hkReserved (c : Nat) : Bool := (decide (19 ≤ c) && decide (c ≤ 22)) || decide (23 < c)

/-- The converter that HK_ASSIGN selects for a channel; HKA serves the shared channel (R314). -/
def hkServes (c : Nat) (d : Dev) : Bool :=
  if c = fFld HK_CFG.SHARED d then false else bitN (fFld HK_ASSIGN.CONV d) c

/-- The channels of a converter's scan, ascending (R311). -/
def hkList (b : Bool) (d : Dev) : List Nat :=
  (List.range 24).filter (fun c =>
    c == fFld HK_CFG.SHARED d || (bitN (fFld HK_MASK.MASK d) c && bitN (fFld HK_ASSIGN.CONV d) c == b && !hkReserved c))

/-- Mode of the open-wire test of a thermistor channel (R313). -/
def owMode (c : Nat) (d : Dev) : Nat := if c < 6 then bitsN (fFld HK_OW.MODES d) (2 * c + 1) (2 * c) else 0

/-- OPEN flag of a channel. -/
def hkOpen (c : Nat) (d : Dev) : Bool := decide (c < 6) && bitN (fFld HK_STAT.OPEN d) c

/-- HK_STAT.CAL_A and CAL_B (R319). -/
def hkCalBit (b : Bool) (d : Dev) : Dev :=
  let c := hkConv b d
  fSet (if b then HK_STAT.CAL_B else HK_STAT.CAL_A) (b2n (c.busy == 3 || c.cal)) d

/-- The plausibility comparison of a scan (R312). -/
def hkCompare (d : Dev) : Dev :=
  match d.fl.hk.a.shared, d.fl.hk.b.shared with
  | some a, some b =>
    if d.fl.hk.a.called || d.fl.hk.b.called then d
    else
      let diff := absDiff a b
      let n := fFld HK_PLAUS.COUNT d
      let d := d |> fSet HK_SHARED.A a |> fSet HK_SHARED.B b
      if fFld HK_PLAUS.WIN d < diff then
        let d := d |> modHk (fun h => { h with pass := 0, fail := h.fail + 1 })
          |> fSet HK_STAT.PFAIL (fFld HK_STAT.PFAIL d + 1) |> hkEvent 1 d.fl.hk.shCh diff
        if n ≤ d.fl.hk.fail && !d.fl.plaus then
          d |> modFl (fun f => { f with plaus := true }) |> fieldChanged |> hkEvent 2 d.fl.hk.shCh diff
        else d
      else
        let d := modHk (fun h => { h with fail := 0, pass := h.pass + 1 }) d
        if n ≤ d.fl.hk.pass && d.fl.plaus then
          d |> modFl (fun f => { f with plaus := false }) |> fieldChanged |> hkEvent 3 d.fl.hk.shCh diff
        else d
  | _, _ => d

/-- The scan ends once both converters have nothing left of it. -/
def hkScanEnd (d : Dev) : Dev :=
  let h := d.fl.hk
  let left (c : HkConv) : Bool := !c.rest.isEmpty || (c.inj.isNone && (c.busy == 1 || c.busy == 2))
  if h.scanning && !left h.a && !left h.b then
    d |> hkCompare |> modHk (fun h => { h with scanning := false })
  else d

/-- What a converter does next (R314): a pending injected conversion, a pending calibration, the scan. -/
def hkNext (b : Bool) (d : Dev) : Dev :=
  let c := hkConv b d
  if c.busy != 0 then d
  else match c.pend with
    | i :: rest => modConv b (fun c => { c with busy := 1, ch := i.ch, ow := false, inj := some i, pend := rest }) d
    | [] =>
      if c.cal then d |> modConv b (fun c => { c with busy := 3, cal := false, called := true }) |> hkCalBit b
      else match c.rest with
        | x :: rest => modConv b (fun c => { c with busy := 1, ch := x, ow := false, inj := none, rest := rest }) d
        | [] => d

/-- A scan start falls due (R311): it is skipped while the previous scan runs; otherwise both converters start. -/
def hkScanStart (d : Dev) : Dev :=
  if !d.fl.on || !fFlag HK_CFG.RUN d then d
  else if d.fl.hk.scanning then
    let d := fSet HK_STAT.SKIP (fFld HK_STAT.SKIP d + 1) d
    hkEvent 9 0 (fFld HK_STAT.SKIP d) d
  else
    let n := fFld HK_OW.TEST_DIV d
    let div := d.fl.hk.div + 1
    let test := n != 0 && decide (n ≤ div)
    let la := hkList false d
    let lb := hkList true d
    let sh := fFld HK_CFG.SHARED d
    d |> modHk (fun h => { h with
          scanning := true, shCh := sh, test := test, div := if test then 0 else div
          a := { h.a with rest := la, called := h.a.busy == 3, shared := none }
          b := { h.b with rest := lb, called := h.b.busy == 3, shared := none } })
      |> hkNext false |> hkNext true

/-- A result enters the field-side buffer, or is dropped at a full one (R316). -/
def hkBuffer (payload ch : Nat) (d : Dev) : Dev :=
  if d.fl.hk.buf.length < 256 then
    d |> modHk (fun h => { h with buf := h.buf ++ [payload], ovr := false }) |> fieldPump
  else
    let run := d.fl.hk.ovr
    let d := d |> fSet HK_STAT.OVR (fFld HK_STAT.OVR d + 1) |> modHk (fun h => { h with ovr := true })
    whenD (!run) (hkEvent 8 ch (fFld HK_STAT.OVR d)) d

/-- The result of an injected conversion reaches the shot list and the resistance measurement that asked (R314, R328,
R335). -/
def hkToChan (i : HkInj) (code : Nat) (d : Dev) : Dev :=
  let n := i.chan
  let pl := d.fl.plaus
  let d := if i.shot then
      d |> fWr (ACT_INJ.addr n) (BitVec.ofNat 32 (2 ^ 31 + b2n pl * 2 ^ 30 + b2n i.late * 2 ^ 29 + i.ch * 2 ^ 24 + code))
        |> modChan n (fun c => { c with got := c.got ||
            (i.wait && c.wait && i.ch == bitsN (c.list.getD c.step 0) 4 0) })
    else d
  if i.meas then
    if i.ch = 6 + n then modChan n (fun c => { c with measI := some (code, pl) }) d
    else modChan n (fun c => { c with measV := some (code, pl) }) d
  else d

/-- HK_RES of a result (R316). -/
def hkRes (ch code : Nat) (inj late : Bool) (d : Dev) : Dev :=
  fWr (HK_RES.addr ch) (BitVec.ofNat 32 (2 ^ 31 + b2n (hkOpen ch d) * 2 ^ 30 + b2n d.fl.plaus * 2 ^ 29 +
    b2n inj * 2 ^ 28 + b2n late * 2 ^ 27 + code)) d

/-- The OPEN flag of a thermistor channel after its test (R313). -/
def hkOpenTest (ch code : Nat) (d : Dev) : Dev :=
  let o := if owMode ch d = 2 then decide (code ≤ 0x40) else decide (0xFFC0 ≤ code)
  if o = hkOpen ch d then d
  else d |> fSet ⟨HK_STAT.addr, ch, ch⟩ (b2n o) |> hkEvent (if o then 4 else 5) ch code

/-- The destinations of a result (R316): the registers, unless it is an open-wire test or HKB's of the shared channel;
the buffer. -/
def hkDeliver (b : Bool) (ch code : Nat) (ow : Bool) (inj : Option HkInj) (d : Dev) : Dev :=
  let late := match inj with
    | some i => i.late
    | none => false
  let dest := fFld HK_CFG.DEST d
  let sharedB := b && ch == d.fl.hk.shCh && inj.isNone
  let d := if ow || sharedB then d
    else d |> modHk (fun h => { h with last := mput h.last ch code })
      |> whenD (dest != 1) (hkRes ch code inj.isSome late)
  let p := pf 46 42 ch + pf 41 41 (b2n b) + pf 40 40 (b2n inj.isSome) + pf 39 39 (b2n late) + pf 38 38 (b2n ow) +
    pf 37 22 code + pf 21 0 (fieldFT d)
  whenD (dest != 0) (hkBuffer p ch) d

/-- A conversion ends with its code (R310 to R316). -/
def hkDone (b : Bool) (code : Nat) (d : Dev) : Dev :=
  let c := hkConv b d
  if !d.fl.on || c.busy != 1 then d
  else
    let shared := c.inj.isNone && !c.ow && c.ch == d.fl.hk.shCh
    let test := c.inj.isNone && !c.ow && d.fl.hk.test && owMode c.ch d != 0
    let d := d |> whenD c.ow (hkOpenTest c.ch code) |> hkDeliver b c.ch code c.ow c.inj
      |> modConv b (fun x => { x with
          busy := if test then 2 else 0, ow := false, inj := none
          shared := if shared then some code else x.shared })
    let d := match c.inj with
      | some i => hkToChan i code d
      | none => d
    d |> hkNext b |> hkScanEnd

/-- The 50 µs of an open-wire test end and its conversion starts (R313). -/
def hkWaitEnd (b : Bool) (d : Dev) : Dev :=
  if !d.fl.on || (hkConv b d).busy != 2 then d else modConv b (fun c => { c with busy := 1, ow := true }) d

/-- A calibration is requested: it joins one that runs or is pending (R315). -/
def hkCalRequest (b : Bool) (d : Dev) : Dev :=
  if (hkConv b d).busy == 3 then d
  else d |> modConv b (fun c => { c with cal := true }) |> hkCalBit b |> hkNext b

/-- A calibration ends (R315). -/
def hkCalDone (b : Bool) (d : Dev) : Dev :=
  if !d.fl.on || (hkConv b d).busy != 3 then d
  else d |> modConv b (fun c => { c with busy := 0 }) |> hkCalBit b |> hkEvent (if b then 7 else 6) 0 0 |> hkNext b
    |> hkCalBit b |> hkScanEnd

/-- CAL_MIN minutes have passed (R315). -/
def hkCalTimer (d : Dev) : Dev :=
  if !d.fl.on || fFld HK_CFG.CAL_MIN d == 0 then d else d |> hkCalRequest false |> hkCalRequest true

/-- An injected conversion is requested (R314): a second request of the channel for the same input joins one that
waits; a request that arrives during a calibration is LATE. -/
def hkInject (n ch : Nat) (shot wait meas : Bool) (d : Dev) : Dev :=
  let b := hkServes ch d
  let c := hkConv b d
  let same (i : HkInj) : Bool := i.chan == n && i.ch == ch
  if c.pend.any same then
    modConv b (fun c => { c with pend := c.pend.map (fun i =>
      if same i then { i with shot := i.shot || shot, wait := i.wait || wait, meas := i.meas || meas } else i) }) d
  else
    let i : HkInj := { chan := n, ch := ch, late := c.busy == 3, shot := shot, wait := wait, meas := meas }
    d |> modConv b (fun c => { c with pend := c.pend ++ [i] }) |> hkNext b

/-- HK_CMD actions (R306); `none` for a reserved one. -/
def hkAction (a : Nat) : Option (Dev → Dev) :=
  if a = 1 then some (fSet HK_CFG.RUN 1)
  else if a = 2 then some (fSet HK_CFG.RUN 0)
  else if a = 3 then some (hkCalRequest false)
  else if a = 4 then some (hkCalRequest true)
  else if a = 5 then some (fun d => d |> hkCalRequest false |> hkCalRequest true)
  else if a = 6 then some (modHk (fun h => { h with buf := [], ovr := false }))
  else none

/-- Temperature of the field companion's own sensor CH18, in 1/128 degree (19_electrical_mechanical.md R435), if it has
been converted. -/
def fieldDieTemp (d : Dev) : Option Int := (mfind d.fl.hk.last 18).map (fun c => (c : Int) - 32768)

end Sys2Proof.Machine
end

