-- ==== Sys2Proof/Machine/Actuators.lean ====
section
/-! DEFINITION. The actuator channels of the field companion: requests, shot lists, switches, the coil model and the
alarm relay (13_actuators.md R320 to R339). -/

namespace Sys2Proof.Machine

/-! ### Channels (R325, R326, R341) -/

def acOFF : Nat := 0
def acWAITING : Nat := 1
def acRUNNING : Nat := 2
def acHOLDING : Nat := 3
def acDECAY : Nat := 4
def acSLAVE : Nat := 5

def ocOK : Nat := 0
def ocTIMEOUT : Nat := 1
def ocREFUSED : Nat := 2
def ocSHORTENED : Nat := 3
def ocSTOPPED : Nat := 4
def ocSAFE : Nat := 5
def ocFAULT : Nat := 6
def ocBADSEQ : Nat := 7

/-- Current flows by the channel's own drive. -/
def Chan.driven (c : Chan) : Bool := c.st == acRUNNING || c.st == acHOLDING
/-- RUNNING, HOLDING or in DECAY (R332). -/
def Chan.busy (c : Chan) : Bool := c.driven || c.st == acDECAY

/-- ACT_EVENT (R341). -/
def actEvent (ch kind gen value : Nat) (d : Dev) : Dev :=
  fieldSend xACT_EVENT (pf 46 44 ch + pf 43 40 kind + pf 39 32 gen + pf 31 22 (min 1023 value) + pf 21 0 (fieldFT d)) d

/-- SHOT_STATUS at the end of a sequence (R326, R341). -/
def shotStatus (n oc : Nat) (d : Dev) : Dev :=
  let c := chan n d
  fieldSend xSHOT_STATUS (pf 46 44 n + pf 43 39 c.step + pf 38 36 oc + pf 35 28 c.gen +
    pf 27 22 (min 63 (c.peak / 1024)) + pf 21 0 (fieldFT d)) d

/-- A request accepted, a relay change or an own switch-off: the record and GEN (R325). -/
def actRecord (n req : Nat) : Dev → Dev := modChan n (fun c => { c with gen := (c.gen + 1) % 256, req := req })

/-- The pair of channel `n` is EXCLUSIVE (R331). -/
def exclusive (n : Nat) (d : Dev) : Bool := !fFlag (HS_CFG.MODE (n / 2)) d
def partner (n : Nat) : Nat := if n % 2 = 0 then n + 1 else n - 1

/-- PAR in force on the pair of channel `n` (R323). -/
def paralleled (n : Nat) (d : Dev) : Bool := d.fl.par.getD (n / 2) false

/-! ### Shot lists (R327, R329) -/

/-- Step `s` of channel `n`. -/
def shotD : Nat → Nat := fun k => (shotPowerUp (k / 32)).getD (k % 32) 0
def shotStep (n s : Nat) (d : Dev) : Nat := mget shotD d.fl.lists (32 * n + s)
def shotList (n : Nat) (d : Dev) : List Nat := (List.range 32).map (fun s => shotStep n s d)

def stOp (w : Nat) : Nat := bitsN w 23 20
def unitPeriods (u : Nat) : Nat := if u = 0 then 1 else if u = 1 then 20 else if u = 2 then 200 else 2000

/-- PWM periods that a timed step takes at most: REG, HOLD and WAIT. -/
def stPeriods (w : Nat) : Nat :=
  if stOp w = 3 then bitsN w 5 0 * unitPeriods (bitsN w 7 6) else bitsN w 17 12 * unitPeriods (bitsN w 19 18)

/-- The encoding of a step is defined, with a current limit in mA (R327). -/
def stepOk (limit w : Nat) : Bool :=
  let op := stOp w
  if op = 1 then decide (bitsN w 11 0 ≤ limit)
  else if op = 2 then decide (bitsN w 11 0 ≤ limit) && decide (1 ≤ bitsN w 17 12)
  else if op = 3 then decide (2 * bitsN w 18 8 ≤ limit) && decide (1 ≤ bitsN w 5 0)
  else if op = 4 then bitsN w 18 5 == 0 && !hkReserved (bitsN w 4 0)
  else if op = 5 then decide (1 ≤ bitsN w 14 7) && bitsN w 6 0 == 0
  else if op = 6 then bitsN w 18 0 == 0
  else false

/-- Current limit of a channel's steps. -/
def stepLimit (n : Nat) (d : Dev) : Nat := if paralleled n d then 4000 else 2000

/-- The checks of R329 from step `i` on. -/
def listOkFrom (limit : Nat) (l : List Nat) (i : Nat) : Nat → Bool
  | 0 => false
  | k + 1 =>
    let w := l.getD i 0
    if !stepOk limit w then false
    else if stOp w = 6 then true
    else if stOp w = 5 then
      let t := bitsN w 19 15
      decide (t < i) && !((l.take i).drop t).any (fun x => stOp x == 5) && listOkFrom limit l (i + 1) k
    else listOkFrom limit l (i + 1) k
def listOk (limit : Nat) (l : List Nat) : Bool := listOkFrom limit l 0 32

/-- Where a LOOP step at `i` goes: the next step and the LOOP under way with its runs left (R327). -/
def loopNext (i w : Nat) (loop : Option (Nat × Nat)) : Nat × Option (Nat × Nat) :=
  let left := match loop with
    | some (s, k) => if s = i then k else bitsN w 14 7 - 1
    | none => bitsN w 14 7 - 1
  if left = 0 then (i + 1, none) else (bitsN w 19 15, some (i, left - 1))

/-- Sum of target² x time of the timed steps, in mA² x 50 µs, the last target, and whether the list ends in HOLDING
(R336). -/
def heatWalk (l : List Nat) : Nat → Nat → Option (Nat × Nat) → Nat → Nat → Nat × Nat × Bool
  | 0, _, _, t, s => (s, t, false)
  | k + 1, i, loop, t, s =>
    let w := l.getD i 0
    let op := stOp w
    if op = 1 ∨ op = 2 then
      let t' := bitsN w 11 0
      heatWalk l k (i + 1) loop t' (s + t' * t' * stPeriods w)
    else if op = 3 then heatWalk l k (i + 1) loop t (s + t * t * stPeriods w)
    else if op = 5 then
      let n := loopNext i w loop
      heatWalk l k n.1 n.2 t s
    else if op = 6 then (s, t, bitN w 19)
    else heatWalk l k (i + 1) loop t s

/-! ### The coil model (R334 to R336) -/

def r20 (n : Nat) (d : Dev) : Rat := (fFld (ACT_COILP.R21 n) d : Rat) / 100
def rth (n : Nat) (d : Dev) : Rat := (fFld (ACT_COILP.RTH n) d : Rat) / 10
def tau (n : Nat) (d : Dev) : Rat := (fFld (ACT_COILP.TAU n) d : Rat)
def coilLimit (n : Nat) (d : Dev) : Rat := (fFld (ACT_COILT.LIMIT n) d : Rat)
def modelOn (n : Nat) (d : Dev) : Bool := fFld (ACT_COILP.R21 n) d != 0

/-- The ambient that ACT_COILT selects, in degrees, once it has been converted (R334). DESIGN CHOICE, log 15. -/
def ambient (n : Nat) (d : Dev) : Option Rat :=
  let a := fFld (ACT_COILT.AMB n) d
  let die := (fieldDieTemp d).map (fun t => (t : Rat) / 128)
  if a < 6 && !hkOpen a d then (mfind d.fl.hk.last a).map (fun c => (Config.thermistorTemp c : Rat) / 128) else die

/-- Resistance at a temperature. -/
def coilR (n : Nat) (t : Rat) (d : Dev) : Rat := r20 n d * (1 + 393 / 100000 * (t - 20))

/-- The prediction of R336 exceeds LIMIT: the adiabatic heating, or the steady state of a hold. -/
def heatRefused (n : Nat) (l : List Nat) (d : Dev) : Bool :=
  match (chan n d).theta with
  | none => false
  | some th =>
    let rl := coilR n (coilLimit n d) d
    let w := heatWalk l 8192 0 none 0 0
    let e : Rat := (w.1 : Rat) / 1000000 * rl * (50 / 1000000)
    let ih : Rat := (w.2.1 : Rat) / 1000
    let steady := match ambient n d with
      | some t => w.2.2 && decide (coilLimit n d < t + ih * ih * rl * rth n d)
      | none => false
    decide (coilLimit n d < th + rth n d / tau n d * e) || steady

/-! ### Sequences (R324 to R330) -/

/-- A sequence ends at once, nothing having flowed: REFUSED or BADSEQ (R329, R336). A channel that holds is switched off
into DECAY (R325, R326), but `keep`, by INHIBIT, leaves it HOLDING (R324). DEDUCED, log 40. -/
def seqNever (n oc : Nat) (keep : Bool) (d : Dev) : Dev :=
  let holds := (chan n d).st == acHOLDING
  d |> modChan n (fun c =>
        let c := { c with step := 0, peak := 0, cause := oc }
        if holds && keep then c
        else { c with st := if holds then acDECAY else acOFF, ends := false, due := false, target := 0 })
    |> actRecord n 6 |> fSet (ACT_MEAS.PEAK n) 0 |> shotStatus n oc

/-- A sequence starts (R328, R329, R336): it takes its copy of the list and step 0 is due. `since` is when a RUN held
for the partner was accepted (R332). -/
def seqStart (n : Nat) (since : Option Nat) (d : Dev) : Dev :=
  let d := modChan n (fun c => { c with held := false, auto := false }) d
  if d.fl.inh then seqNever n ocREFUSED true d
  else
    let d := match since with
      | some t => actEvent n 1 (chan n d).gen ((d.sl.tick - t) / 400000) d
      | none => d
    let l := shotList n d
    if !listOk (stepLimit n d) l then seqNever n ocBADSEQ false d
    else if modelOn n d && !fFlag (ACT_CFG.POLICY n) d && heatRefused n l d then seqNever n ocREFUSED false d
    else
      let on := (chan n d).driven || (chan (partner n) d).driven
      let per := d.fl.period
      d |> whenD (!on) (modFl (fun f => { f with hsAge := f.hsAge.set (n / 2) 0 }))
        |> modChan n (fun c => { c with
            st := acRUNNING, step := 0, list := l, due := true, left := 0, loop := none, target := 0,
            clip := false, startPer := per, peak := 0, wait := false, got := false, duties := [] })

/-- A held RUN of channel `n` waits on for its partner; once it would start it is discarded in field SAFE, or starts (R324,
R332). -/
def heldNext (n : Nat) (d : Dev) : Dev :=
  let c := chan n d
  if !c.held || c.st == acRUNNING || c.st == acDECAY then d
  else if exclusive n d && (chan (partner n) d).busy then
    modChan n (fun c => { c with st := if c.st = acOFF then acWAITING else c.st }) d
  else if d.fl.mode = 0 && !c.auto then
    modChan n (fun c => { c with held := false, st := if c.st = acWAITING then acOFF else c.st }) d
  else seqStart n (if c.st = acWAITING then some c.heldAt else none) d

/-- A change of PAR on switch `m` takes effect when both channels are OFF and no RUN is held on them (R323). -/
def parNext (m : Nat) (d : Dev) : Dev :=
  let want := fFlag (ACT_CFG.PAR (2 * m)) d
  let rest (c : Chan) : Bool := (c.st == acOFF || c.st == acSLAVE) && !c.held
  if want != d.fl.par.getD m false && rest (chan (2 * m) d) && rest (chan (2 * m + 1) d) then
    d |> modFl (fun f => { f with par := f.par.set m want })
      |> modChan (2 * m + 1) (fun c => { c with st := if want then acSLAVE else acOFF })
  else d

/-- The pair of switch `m` once one of its channels has ended a sequence or a hold: RUNs held, in the order of their
acceptance, the first once more where the second came to nothing, and a change of PAR before and after (R323, R324,
R332). -/
def pairNext (m : Nat) (d : Dev) : Dev :=
  let a := chan (2 * m) d
  let b := chan (2 * m + 1) d
  let x := if b.held && (!a.held || decide (b.heldNo < a.heldNo)) then (2 * m + 1, 2 * m) else (2 * m, 2 * m + 1)
  d |> parNext m |> heldNext x.1 |> heldNext x.2 |> heldNext x.1 |> parNext m

/-- A channel is switched off (R322, R324, R325): into DECAY, with the outcome of its sequence; `req` records a
switch-off of the channel's own. A channel that only waited is OFF. DEDUCED, log 40. -/
def switchOff (n oc req : Nat) (d : Dev) : Dev :=
  let c := chan n d
  if c.st = acWAITING then d |> modChan n (fun c => { c with st := acOFF }) |> pairNext (n / 2)
  else if !c.driven then d
  else
    let ends := c.st == acRUNNING || oc == ocSHORTENED || oc == ocFAULT
    d |> modChan n (fun c => { c with
          st := acDECAY, oc := oc, ends := ends, due := false, target := 0, wait := false, loop := none })
      |> whenD (req != 0) (actRecord n req)

/-- DECAY ends (R326): the channel is OFF, the sequence ends, and what waited for it goes on. DEDUCED, log 40. -/
def decayEnd (n : Nat) (d : Dev) : Dev :=
  let c := chan n d
  if !d.fl.on || c.st != acDECAY then d
  else
    let d := modChan n (fun c => { c with st := acOFF, cause := if c.ends && c.oc != 0 then c.oc else c.cause }) d
    d |> whenD c.ends (fun d => d |> fSet (ACT_MEAS.PEAK n) (min 255 (c.peak / 256)) |> shotStatus n c.oc)
      |> pairNext (n / 2)

/-- A RUN accepted on channel `n` starts, is held, or merges with a held one (R324, R332). -/
def runAccepted (n : Nat) (d : Dev) : Dev :=
  let c := chan n d
  if c.held then d
  else if c.st = acRUNNING ∨ c.st = acDECAY ∨ (exclusive n d && (chan (partner n) d).busy) then
    let no := d.fl.count
    d |> modFl (fun f => { f with count := no + 1 })
      |> modChan n (fun c => { c with held := true, heldAt := d.sl.tick, heldNo := no, auto := false,
                                      st := if c.st = acOFF then acWAITING else c.st })
  else seqStart n none d

/-- OFF on channel `n` (R324). -/
def offAccepted (n : Nat) (d : Dev) : Dev :=
  d |> modChan n (fun c => { c with held := false, auto := false }) |> switchOff n ocSTOPPED 0

/-! ### Steps (R327, R328) -/

/-- The step at STEP goes on to the next one, which is due. -/
def stepOn (n : Nat) : Dev → Dev := modChan n (fun c => { c with step := c.step + 1, due := true, left := 0, wait := false })

/-- The target of a REG or HOLD. -/
def setTarget (n w : Nat) : Dev → Dev :=
  modChan n (fun c => { c with target := bitsN w 11 0, clip := false, duties := [], left := stPeriods w, due := false })

/-- REG: the target for its time; COUNT 0 goes on at once. -/
def stepReg (n w : Nat) (d : Dev) : Dev := d |> setTarget n w |> whenD (stPeriods w == 0) (stepOn n)
/-- HOLD: as REG; its measurement follows at its end. -/
def stepHold (n w : Nat) (d : Dev) : Dev := setTarget n w d
/-- WAIT keeps the target in force. -/
def stepWait (n w : Nat) (d : Dev) : Dev := modChan n (fun c => { c with left := stPeriods w, due := false }) d
/-- INJECT requests a conversion; with WAITRES the step waits for it, at most 6 ms. -/
def stepInject (n w : Nat) (d : Dev) : Dev :=
  let d := modChan n (fun c => { c with got := false }) d
  if bitN w 19 then
    d |> modChan n (fun c => { c with wait := true, left := 120, due := false }) |> hkInject n (bitsN w 4 0) true true false
  else d |> hkInject n (bitsN w 4 0) true false false |> stepOn n
/-- LOOP. -/
def stepLoop (n w : Nat) (d : Dev) : Dev :=
  modChan n (fun c =>
    let x := loopNext c.step w c.loop
    { c with step := x.1, loop := x.2, due := true }) d
/-- END: into DECAY, or HOLDING, which ends the sequence OK (R326). -/
def stepEnd (n w : Nat) (d : Dev) : Dev :=
  if bitN w 19 then
    let d := modChan n (fun c => { c with st := acHOLDING, due := false }) d
    d |> fSet (ACT_MEAS.PEAK n) (min 255 ((chan n d).peak / 256)) |> shotStatus n ocOK |> pairNext (n / 2)
  else switchOff n ocOK 0 d

/-- The step that is due on channel `n` starts, if it is of the kind `op`. -/
def stepDue (op n : Nat) (d : Dev) : Dev :=
  let c := chan n d
  let w := c.list.getD c.step 0
  if !d.fl.on || c.st != acRUNNING || !c.due || stOp w != op then d
  else if op = 1 then stepReg n w d
  else if op = 2 then stepHold n w d
  else if op = 3 then stepWait n w d
  else if op = 4 then stepInject n w d
  else if op = 5 then stepLoop n w d
  else if op = 6 then stepEnd n w d
  else d

/-- Steps start on channel `n` until one takes time (R328). DEDUCED, log 40. -/
def runDue : Nat → Nat → Dev → Dev
  | 0, _, d => d
  | k + 1, n, d =>
    let c := chan n d
    if c.st == acRUNNING && c.due then runDue k n (stepDue (stOp (c.list.getD c.step 0)) n d) else d

/-! ### The PWM period (R328, R333) -/

/-- A channel's granted target; a cut is reported once a step. -/
def grantTo (n g : Nat) (d : Dev) : Dev :=
  let c := chan n d
  let cut := decide (g < c.target)
  d |> modChan n (fun c => { c with clip := c.clip || cut })
    |> whenD (cut && !c.clip) (actEvent n 2 c.gen (g / 4))

/-- Targets granted on the pair of switch `m`, even and odd channel: the channel that started earlier has its own, the
other what is left of ILIM; of two that started in the same period the even one is the earlier (R333). -/
def grantsOf (m : Nat) (d : Dev) : Nat × Nat :=
  let a := chan (2 * m) d
  let b := chan (2 * m + 1) d
  let lim := fFld (HS_CFG.ILIM m) d
  if a.driven && b.driven then
    if a.startPer ≤ b.startPer then (a.target, min b.target (lim - a.target))
    else (min a.target (lim - b.target), b.target)
  else (if a.driven then a.target else 0, if b.driven then b.target else 0)

/-- The grants of a period reach the regulators. -/
def grantPair (m : Nat) (d : Dev) : Dev :=
  let g := grantsOf m d
  d |> whenD (chan (2 * m) d).driven (grantTo (2 * m) g.1)
    |> whenD (chan (2 * m + 1) d).driven (grantTo (2 * m + 1) g.2)

/-- The mean duty of a step's last millisecond. -/
def meanDuty (l : List Nat) : Rat := if l.isEmpty then 0 else (l.foldl (· + ·) 0 : Nat) / (l.length * 65536 : Nat)

/-- The period of the step under way ends on channel `n`, with the current sensed (R328). -/
def stepPeriod (n code : Nat) (d : Dev) : Dev :=
  let c := chan n d
  let w := c.list.getD c.step 0
  let op := stOp w
  if c.st != acRUNNING || c.due then d
  else
    let last := decide (c.left ≤ 1)
    let d := modChan n (fun c => { c with left := c.left - 1 }) d
    if op = 3 then
      let met := if bitN w 19 then decide (code ≤ 32 * bitsN w 18 8) else decide (32 * bitsN w 18 8 ≤ code)
      if met then stepOn n d else if last then switchOff n ocTIMEOUT 6 d else d
    else if op = 4 then
      if c.got then stepOn n d else if last then switchOff n ocTIMEOUT 6 d else d
    else if last then
      d |> whenD (op == 2) (fun d => d
          |> modChan n (fun c => { c with meas := some (meanDuty c.duties, c.step), measI := none, measV := none })
          |> hkInject n (6 + n) false false true |> hkInject n (12 + n / 2) false false true)
        |> stepOn n
    else d

/-- What channel `n` senses in a period. -/
def sensePeriod (n : Nat) (x : PwmIn) : Dev → Dev :=
  modChan n (fun c => { c with
    isum := c.isum + x.code, icnt := c.icnt + 1
    peak := if c.busy then max c.peak x.code else c.peak
    duties := (x.duty :: c.duties).take 20 })

/-- FAULT of a switch ends 200 µs after the switch has turned on without a fault (R322). -/
def switchPeriod (m : Nat) (d : Dev) : Dev :=
  if (chan (2 * m) d).driven || (chan (2 * m + 1) d).driven then
    let a := d.fl.hsAge.getD m 0 + 1
    d |> modFl (fun f => { f with hsAge := f.hsAge.set m a }) |> whenD (a == 4) (fSet (HS_STAT.FAULT m) 0)
  else d

/-- A 50 µs PWM period ends (R328, R333). -/
def pwmPeriod (ins : List PwmIn) (d : Dev) : Dev :=
  if !d.fl.on then d
  else
    let x (n : Nat) : PwmIn := ins.getD n ⟨0, 0⟩
    d |> forD (List.range 6) (runDue 8192) |> forD (List.range 3) grantPair
      |> forD (List.range 6) (fun n => sensePeriod n (x n))
      |> forD (List.range 6) (fun n => stepPeriod n (x n).code)
      |> forD (List.range 3) switchPeriod |> modFl (fun f => { f with period := f.period + 1 })

/-! ### Faults and the coil model in operation (R322, R334, R335, R337) -/

/-- OVERCURRENT of channel `n`. -/
def overcurrent (n : Nat) (d : Dev) : Dev :=
  let c := chan n d
  if !d.fl.on || !c.driven then d else d |> actEvent n 3 c.gen c.step |> switchOff n ocFAULT 6

/-- HS_FAULT of switch `m`: both its channels stop. -/
def hsFault (m : Nat) (d : Dev) : Dev :=
  if !d.fl.on || !((chan (2 * m) d).driven || (chan (2 * m + 1) d).driven) then d
  else d |> fSet (HS_STAT.FAULT m) 1 |> actEvent 7 4 d.fl.gen m |> switchOff (2 * m) ocFAULT 6
    |> switchOff (2 * m + 1) ocFAULT 6

/-- A driven channel whose estimate has reached LIMIT is switched off at once (R337). -/
def limitTest (n : Nat) (d : Dev) : Dev :=
  match (chan n d).theta with
  | some th => if decide (coilLimit n d ≤ th) && (chan n d).driven then switchOff n ocSHORTENED 6 d else d
  | none => d

/-- The 1 ms update of a channel's estimate, and its limit (R334, R337). DEDUCED, log 40. -/
def coilUpdate (n : Nat) (d : Dev) : Dev :=
  let c := chan n d
  let d := modChan n (fun c => { c with isum := 0, icnt := 0 }) d
  if !modelOn n d then d
  else match ambient n d with
    | none => d
    | some ta =>
      let th := c.theta.getD ta
      let i : Rat := if c.icnt = 0 then 0 else (c.isum : Rat) / (c.icnt : Rat) / 16000
      let th' := th + (i * i * coilR n th d * rth n d - (th - ta)) / 1000 / tau n d
      d |> modChan n (fun c => { c with theta := some th' }) |> limitTest n
def coilModelUpdate (d : Dev) : Dev := if !d.fl.on then d else forD (List.range 6) coilUpdate d

/-- A value in whole units, kept within a field. -/
def clampRat (x : Rat) (hi : Nat) : Nat := min hi x.floor.toNat

/-- Both results of a resistance measurement are in (R335, R337). DESIGN CHOICE, log 12; DEDUCED, log 40. -/
def resistance (n : Nat) (d : Dev) : Dev :=
  let c := chan n d
  match c.meas, c.measI, c.measV with
  | some (duty, step), some (i, pi), some (v, pv) =>
    if !d.fl.on then d
    else
      let d := modChan n (fun c => { c with meas := none, measI := none, measV := none }) d
      if pi || pv || decide (i < 800) then actEvent n 6 c.gen step d
      else
        let r : Rat := (v : Rat) / 1000 * duty / ((i : Rat) / 16000)
        let d := fSet (ACT_MEAS.RMEAS n) (clampRat (r * 100) 0xFFFF) d
        if modelOn n d then
          let th : Rat := 20 + (r / r20 n d - 1) / (393 / 100000)
          d |> modChan n (fun c => { c with theta := some th }) |> actEvent n 5 c.gen (clampRat (th + 100) 1023)
            |> limitTest n
        else d |> actEvent n 5 c.gen (freeVal d % 1024) |> freeTaken
  | _, _, _ => d

/-! ### The alarm relay and field SAFE (R300, R338, R339) -/

/-- LS4 follows a relay request that has turned (R338). -/
def relayTurn (alarm : Bool) (d : Dev) : Dev :=
  let c := chan 4 d
  let on := c.driven || c.st == acWAITING
  let d := actRecord 4 (if alarm then 4 else 3) d
  let d := actEvent 4 7 (chan 4 d).gen (if alarm then 0 else 1) d
  if alarm then offAccepted 4 d else if on then d else runAccepted 4 d

/-- The request of a valid HBEAT_H or SLATE_MARK (R338); after field SAFE, or with FOLLOW newly set, the next one acts
by itself (R339). DEDUCED, log 40. -/
def relayTake (alarm : Bool) (d : Dev) : Dev :=
  if d.fl.mode = 0 || !fFlag (ACT_CFG.FOLLOW 4) d then modFl (fun f => { f with rq := none }) d
  else
    let c := chan 4 d
    let on := c.driven || c.st == acWAITING || c.held
    let turn := match d.fl.rq with
      | some r => r != alarm
      | none => on == alarm
    d |> modFl (fun f => { f with rq := some alarm }) |> whenD turn (relayTurn alarm)

/-- The channels on entry into field SAFE (R300, R324, R339). DEDUCED, log 40. -/
def actSafe (d : Dev) : Dev :=
  let d := forD [0, 1, 2, 3, 5] (fun n => switchOff n ocSAFE 5) d
  let c := chan 4 d
  if !fFlag (ACT_CFG.FAIL 4) d then switchOff 4 ocSAFE 5 d
  else if c.driven then d
  else if c.st = acDECAY then modChan 4 (fun c => { c with held := true, auto := true }) d
  else d |> modChan 4 (fun c => { c with held := true, auto := true, heldAt := d.sl.tick }) |> heldNext 4

/-! ### Registers of the channels and switches (R344) -/

def actStateReg (n : Nat) (d : Dev) : Nat :=
  let c := chan n d
  pf 31 24 c.gen + pf 23 20 c.cause + pf 19 15 c.step + pf 14 12 c.req + pf 11 11 (b2n c.held) + pf 2 0 c.st
def actMeasReg (n : Nat) (d : Dev) : Nat :=
  let t := match (chan n d).theta with
    | some th => clampRat (th + 64) 255
    | none => 0
  (setBits (fReg (ACT_MEAS.addr n) d) 15 8 t).toNat
def hsStatReg (m : Nat) (d : Dev) : Nat :=
  let a := chan (2 * m) d
  let b := chan (2 * m + 1) d
  let g := grantsOf m d
  b2n (a.driven || b.driven) * 2 ^ 31 + b2n (fFlag (HS_STAT.FAULT m) d) * 2 ^ 30 +
    b2n ((a.driven && decide (g.1 < a.target)) || (b.driven && decide (g.2 < b.target))) * 2 ^ 29 +
    pf 11 0 (min 0xFFF (g.1 + g.2))

/-! ### Requests over the crossing (R304, R323, R341) -/

/-- Whether ACT_CMD on channel `n` is refused with STATE (R300, R303, R323, R338). -/
def actRefused (n : Nat) (d : Dev) : Bool :=
  d.fl.mode == 0 || d.fl.inh || (n % 2 == 1 && paralleled n d) || (n == 4 && fFlag (ACT_CFG.FOLLOW 4) d)

/-- ACT_CMD: ACK status and GEN of the unit, and the channel after it. -/
def actCmd (p : Nat) (d : Dev) : Nat × Nat × Dev :=
  let n := bitsN p 29 27
  let a := bitsN p 26 23
  if 6 ≤ n ∨ (a ≠ 1 ∧ a ≠ 2) then (3, 0, d)
  else
    let g := (chan n d).gen
    if bitN p 38 && bitsN p 37 30 != g then (1, g, d)
    else if actRefused n d then (2, g, d)
    else
      let d := actRecord n a d
      (0, g, if a = 1 then runAccepted n d else offAccepted n d)

/-- SHOT_WR (R341): a defined step is written. -/
def shotWr (p : Nat) (d : Dev) : Nat × Dev :=
  let n := bitsN p 38 36
  let w := bitsN p 23 0
  if 6 ≤ n || !stepOk (stepLimit n d) w then (3, d)
  else (0, modFl (fun f => { f with lists := mset shotD f.lists (32 * n + bitsN p 35 31) w }) d)

end Sys2Proof.Machine
end

