-- ==== Sys2Proof/Machine/Indicator.lean ====
section
/-! DEFINITION. The indicator chain on the field side, and entering and leaving field SAFE
(14_emitters_indicators.md R354 to R359, 12_field_side.md R299 to R302). -/

namespace Sys2Proof.Machine

/-- Words 0 to `last` of the field companion's table. -/
def indWords (last : Nat) (d : Dev) : List Nat := mgetList (fun _ => 0) d.fl.table 0 (last + 1)

/-- LAST of the last accepted IND_LATCH; 63 before the first (R362). -/
def indLast (d : Dev) : Nat := d.fl.latch.getD 63

/-- A frame starts with its words as they stand now (R357, R359). -/
def indStart (q : IndItem) (d : Dev) : Dev :=
  let words := match q with
    | .table last => indWords last d
    | .latch last => indWords last d
    | .safe =>
      let n := match d.fl.latch with
        | some l => l + 1
        | none => 63
      List.replicate n (fFld IND_CFG.SAFE_WORD d)
  d |> modFl (fun f => { f with frame := some { words := words, safe := q == .safe, start := d.sl.tick } })
    |> emitOut (.indFrame (words.map (BitVec.ofNat 16)))

/-- The next queued frame starts when none is being sent. -/
def indNext (d : Dev) : Dev :=
  match d.fl.frame, d.fl.queue with
  | none, q :: rest => d |> modFl (fun f => { f with queue := rest }) |> indStart q
  | _, _ => d

/-- The queued frame is that of an IND_LATCH. -/
def IndItem.isLatch : IndItem → Bool
  | .latch _ => true
  | _ => false

/-- IND_LATCH accepted: a frame of words 0 to LAST, or in the queue's one place for an IND_LATCH (R357); the frame that field
SAFE or the leaving of it has queued stays (R359). -/
def indLatch (last : Nat) (d : Dev) : Dev :=
  d |> modFl (fun f => { f with latch := some last, queue := f.queue.filter (fun q => !q.isLatch) ++ [.latch last] }) |> indNext

/-- The latch period of the frame ends: IND_STATUS, and the next frame (R357, R358). `differs` says that a reading of
IND_OUT differed in it. -/
def indFrameEnd (differs : Bool) (d : Dev) : Dev :=
  match d.fl.frame with
  | none => d
  | some x =>
    if !d.fl.on then d
    else
      let res := if differs then 2 else if x.safe then 1 else 0
      d |> modFl (fun f => { f with frame := none }) |> fSet IND_FSTAT.FAULT (b2n differs)
        |> fieldSend xIND_STATUS (pf 46 45 res + pf 44 39 (x.words.length - 1) + pf 38 31 d.fl.gen + pf 21 0 (fieldFT d))
        |> indNext

/-- IND_FSTAT (R362): LATCHING from the end of the last cell, 16 cells of 2.5 µs a word. -/
def indFstatReg (d : Dev) : Nat :=
  let st := match d.fl.frame with
    | none => 0
    | some x => if d.sl.tick - x.start < x.words.length * 16000 then 1 else 2
  pf 31 30 st + pf 29 29 (fFld IND_FSTAT.FAULT d) + pf 28 28 (b2n (d.fl.queue.any (· != .safe))) + pf 27 22 (indLast d)

/-- The indicator chain on entry into field SAFE (R359). DESIGN CHOICE, log 41. -/
def indSafe (d : Dev) : Dev :=
  d |> modFl (fun f => { f with queue := if fFlag IND_CFG.SAFE_SEND d then [.safe] else [] }) |> indNext

/-- The indicator chain on leaving field SAFE (R359). DESIGN CHOICE, log 41. -/
def indRun (d : Dev) : Dev :=
  d |> modFl (fun f => { f with queue := f.queue ++ [.table (indLast d)] }) |> indNext

/-! ### Field SAFE (R299 to R301) -/

def fcHEARTBEAT : Nat := 2
def fcSAFE_MSG : Nat := 3
def fcVVEH_LOW : Nat := 4
def fcDIE_TEMP : Nat := 5

/-- The field companion enters field SAFE; one that is in it stays as it is (R299, R300). -/
def fieldSafe (cause : Nat) (d : Dev) : Dev :=
  if !d.fl.on || d.fl.mode = 0 then d
  else
    d |> modFl (fun f => { f with mode := 0, cause := cause, rq := none }) |> fieldChanged |> actSafe |> indSafe

/-- CH18 above 125 degrees holds DIE_TEMP (R299). -/
def dieTemp (d : Dev) : Dev :=
  match fieldDieTemp d with
  | none => d
  | some t =>
    let hot := decide (16000 < t)
    let d := modFl (fun f => { f with die := hot }) d
    whenD hot (fieldSafe fcDIE_TEMP) d

/-- VVEH below 14.0 V for 120 ms, and its end at 15.0 V (R299, 19_electrical_mechanical.md R430). -/
def vvehLow (d : Dev) : Dev :=
  if !d.fl.on then d else d |> modFl (fun f => { f with low := true }) |> fieldSafe fcVVEH_LOW
def vvehLowClear (d : Dev) : Dev := modFl (fun f => { f with low := false }) d

/-- The first valid HBEAT_H after the entry: a fresh companion takes GBASE, and field SAFE is left unless VVEH_LOW or
DIE_TEMP holds (R301, R302). -/
def fieldHeartbeat (gbase : Nat) (d : Dev) : Dev :=
  let d := if d.fl.fresh then modFl (fun f => { f with fresh := false, gen := gbase }) d else d
  if d.fl.mode = 0 && !d.fl.low && !d.fl.die then
    d |> modFl (fun f => { f with mode := 1 }) |> fieldChanged |> indRun
  else d

/-- The field companion powers up (R27, R299, R315, R359): reset values, field SAFE with cause POWER_UP, both
converters calibrating, the field SAFE frame. SEQ and FT start at 0, a choice of the model. DESIGN CHOICE, log 39. -/
def fieldPowerUp (d : Dev) : Dev :=
  { d with fl := { on := true, t0 := d.sl.tick } } |> hkCalRequest false |> hkCalRequest true |> indSafe

/-- The field companion loses power (R27). -/
def fieldPowerDown (d : Dev) : Dev := { d with fl := {} }

/-! ### Field registers as the companion reads them (R307, R309, R344, R362) -/

/-- Index `k` is implemented. -/
def mirrorOk (k : Nat) : Bool := decide (k < 128) && (regInfo (0xD100 + 4 * k)).isSome

/-- Value of field register `k`. -/
def fieldValue (k : Nat) (d : Dev) : Nat :=
  let n := (k - 64) / 6
  if k = 0 then pf 31 24 d.fl.gen + pf 23 20 d.fl.cause + pf 3 3 (b2n d.fl.plaus) + pf 2 2 (b2n d.fl.inh) + pf 1 0 d.fl.mode
  else if 64 ≤ k ∧ k < 100 ∧ (k - 64) % 6 = 0 then actStateReg n d
  else if 64 ≤ k ∧ k < 100 ∧ (k - 64) % 6 = 4 then actMeasReg n d
  else if k = 101 ∨ k = 103 ∨ k = 105 then hsStatReg ((k - 101) / 2) d
  else if k = 113 then indFstatReg d
  else (fReg (0xD100 + 4 * k) d).toNat

/-- Generation of the unit that owns field register `k`. -/
def fieldGen (k : Nat) (d : Dev) : Nat := if 64 ≤ k ∧ k < 100 then (chan ((k - 64) / 6) d).gen else d.fl.gen

/-- MIRROR for register `k` (R309), with the TAG that is acknowledged after it. -/
def mirrorSend (k : Nat) (ack : Option Nat) (d : Dev) : Dev :=
  let v := fieldValue k d
  let g := fieldGen k d
  d |> modFl (fun f => { f with sent := mput f.sent k (v, g) })
    |> fieldSendAck xMIRROR (pf 46 39 g + pf 38 32 k + pf 31 0 v) ack

/-- MIRROR falls due for register `k`: its value or GEN has changed, or its 100 ms have passed (R309). -/
def mirrorDue (k : Nat) (limit : Bool) (d : Dev) : Dev :=
  if !d.fl.on || !mirrorOk k then d
  else if limit || mfind d.fl.sent k != some (fieldValue k d, fieldGen k d) then mirrorSend k none d
  else d

/-- MIRROR_REQ: every implemented register once, ascending, then the ACK (R309). -/
def mirrorAll (tag : Nat) (d : Dev) : Dev :=
  let ks := (List.range 128).filter mirrorOk
  d |> forD ks (fun k => mirrorSend k (if k = 113 then some tag else none))

/-! ### REG_WR (R308, R319, R344, R362) -/

/-- A value is defined for field register `k`. -/
def regWrOk (k v : Nat) : Bool :=
  let n := (k - 64) / 6
  let w := BitVec.ofNat 32 v
  let g (hi lo : Nat) : Nat := getBits w hi lo
  if k = 2 then g 7 0 != 0
  else if k = 16 then g 29 28 != 3 && !hkReserved (g 20 16)
  else if k = 17 then g 22 19 == 0
  else if k = 19 then g 31 28 != 0
  else if k = 20 then (List.range 6).all (fun t => g (2 * t + 1) (2 * t) != 3)
  else if 64 ≤ k ∧ k < 100 ∧ (k - 64) % 6 = 1 then
    (n == 4 || g 4 3 == 0) && (n == 2 || n == 4 || g 2 2 == 0)
  else if 64 ≤ k ∧ k < 100 ∧ (k - 64) % 6 = 2 then g 31 16 == 0 || (g 15 8 != 0 && g 7 0 != 0)
  else if 64 ≤ k ∧ k < 100 ∧ (k - 64) % 6 = 3 then decide (40 ≤ g 31 24) && decide (g 31 24 ≤ 220) && g 18 16 != 7
  else if k = 100 ∨ k = 102 ∨ k = 104 then decide (100 ≤ g 15 4) && decide (g 15 4 ≤ 4000)
  else true

/-- The register takes a value in its RW fields; a change of PAR may take effect (R323). HS0's MODE is read-only. -/
def regWrApply (k v : Nat) (d : Dev) : Dev :=
  let a := 0xD100 + 4 * k
  let rw : BitVec 32 := match regInfo a with
    | some r => if k = 100 then r.rw &&& 0xFFFFFFFE#32 else r.rw
    | none => 0
  let d := fWr a ((fReg a d &&& ~~~rw) ||| (BitVec.ofNat 32 v &&& rw)) d
  if k = 65 + 12 ∨ k = 65 + 24 then pairNext ((k - 65) / 12) d else d

end Sys2Proof.Machine
end

