-- ==== Sys2Proof/Machine/FieldEnd.lean ====
section
/-! DEFINITION. Messages that arrive at the field companion, and its answers (12_field_side.md R299 to R309,
13_actuators.md R338, R341, 14_emitters_indicators.md R357). -/

namespace Sys2Proof.Machine

/-- Receive the next message if it is of the type and `sel` accepts its payload. -/
def fieldReceive (t : Nat) (sel : Nat → Bool) (act : Nat → Dev → Dev) (d : Dev) : Dev :=
  match fieldArrives t d with
  | none => d
  | some m => if sel m.p then d |> fieldTaken |> act m.p else d

/-- A tagged message: a TAG among the last 16 acted on is acknowledged again with what was first sent, and the message
is not acted on (R305). `act` answers the status, the GEN of the unit checked and the machine after it. -/
def fieldTagged (t : Nat) (sel : Nat → Bool) (act : Nat → Dev → Nat × Nat × Dev) : Dev → Dev :=
  fieldReceive t sel (fun p d =>
    match d.fl.tags.find? (fun x => x.1 == pTag p) with
    | some x => fieldSend xACK (ackPayload x.1 x.2.1 x.2.2) d
    | none =>
      let r := act p d
      fieldAck (pTag p) r.1 r.2.1 r.2.2)

/-- Any payload. -/
def anyP (_ : Nat) : Bool := true

/-- HBEAT_H (R301, R302, R338): the relay request is taken in field RUN. -/
def onHbeatH (p : Nat) (d : Dev) : Dev := d |> fieldHeartbeat (bitsN p 24 17) |> relayTake (bitN p 42)
/-- SLATE_MARK (R338). -/
def onSlateMark (p : Nat) : Dev → Dev := relayTake (bitN p 46)
/-- SAFE (R299). -/
def onSafe (_ : Nat) : Dev → Dev := fieldSafe fcSAFE_MSG

/-- ACT_CMD with ACTION OFF, and any other. -/
def isOff (p : Nat) : Bool := bitsN p 26 23 == 2
def notOff (p : Nat) : Bool := !isOff p

/-- SHOT_WR. -/
def onShotWr (p : Nat) (d : Dev) : Nat × Nat × Dev :=
  let r := shotWr p d
  (r.1, d.fl.gen, r.2)

/-- REG_WR (R308): a value with a reserved encoding, or a register that takes no write, is refused with BADVAL. -/
def onRegWr (p : Nat) (d : Dev) : Nat × Nat × Dev :=
  let k := bitsN p 38 32
  let v := bitsN p 31 0
  if mirrorOk k && regWrOk k v then (0, d.fl.gen, regWrApply k v d) else (3, d.fl.gen, d)

/-- HK_CMD of one ACTION (R265, R306). -/
def isHk (a p : Nat) : Bool := bitsN p 29 26 == a
def onHkCmd (p : Nat) (d : Dev) : Nat × Nat × Dev :=
  if bitN p 38 && bitsN p 37 30 != d.fl.gen then (1, d.fl.gen, d)
  else match hkAction (bitsN p 29 26) with
    | some f => (0, d.fl.gen, f d)
    | none => (3, d.fl.gen, d)

/-- IND_DATA (R357). -/
def onIndData (p : Nat) (d : Dev) : Nat × Nat × Dev :=
  (0, d.fl.gen, modFl (fun f => { f with table := mset (fun _ => 0) f.table (bitsN p 38 33) (bitsN p 32 17) }) d)

/-- IND_LATCH (R265, R357): the generation is compared once, at acceptance, and field SAFE refuses it. -/
def onIndLatch (p : Nat) (d : Dev) : Nat × Nat × Dev :=
  if bitN p 32 && bitsN p 31 24 != d.fl.gen then (1, d.fl.gen, d)
  else if d.fl.mode = 0 then (2, d.fl.gen, d)
  else (0, d.fl.gen, indLatch (bitsN p 38 33) d)

/-- MIRROR_REQ (R309): every implemented register once, then ACK. One whose TAG has been acted on is acknowledged again,
and one still being acted on is acknowledged at its end (R305). DEDUCED, log 38. -/
def onMirrorReq (p : Nat) (d : Dev) : Dev :=
  let tag := pTag p
  let open_ := d.fl.tx.queue.any (fun i => i.ack == some tag) || d.fl.tx.cur.any (fun i => i.1.ack == some tag)
  match d.fl.tags.find? (fun x => x.1 == tag) with
  | some x => fieldSend xACK (ackPayload x.1 x.2.1 x.2.2) d
  | none => if open_ then d else mirrorAll tag d

/-- ECHO_REQ (R295). -/
def onEchoReq (p : Nat) : Dev → Dev := fieldSend xECHO p

/-- SHOT_RD (R341). -/
def onShotRd (p : Nat) (d : Dev) : Dev :=
  let n := bitsN p 38 36
  let s := bitsN p 35 31
  if 6 ≤ n then fieldAck (pTag p) 3 d.fl.gen d
  else fieldSend xSHOT_DATA (pf 46 31 (bitsN p 46 31) + pf 23 0 (shotStep n s d)) d

/-- Five milliseconds have passed at the field companion without a valid message (R299). -/
def fieldTimeout : Dev → Dev := fieldSafe fcHEARTBEAT

/-- HBEAT_F falls due (R295). -/
def sendHbeatF (d : Dev) : Dev :=
  fieldSend xHBEAT_F (fieldPayload d + pf 30 22 d.fl.hk.buf.length) d

/-- BOOT_F is sent, once, 1 ms after field power-up; the revision register holds it from here on (R295, R319). -/
def sendBootF (d : Dev) : Dev :=
  if !d.fl.on || fFld FLD_FID.REV d == 1 then d
  else d |> fSet FLD_FID.REV 1 |> fieldSend xBOOT_F (pf 46 39 1)

end Sys2Proof.Machine
end

