-- ==== Sys2Proof/Machine/Emitters.lean ====
section
/-! DEFINITION. The emitter matrix driver (14_emitters_indicators.md R346 to R353, R360). -/

namespace Sys2Proof.Machine

def modEmt (f : Emt → Emt) (d : Dev) : Dev := { d with emt := f d.emt }

def eoOFF : Nat := 0
def eoCHECK : Nat := 1
def eoHOST : Nat := 2
def eoTAKE : Nat := 3

def emD : Nat → Emitter := fun _ => {}
def emitter (n : Nat) (d : Dev) : Emitter := mget emD d.emt.ems n

/-- The owner by R352; `take` says that the slate is a take slate. -/
def emtOwner (take : Bool) (d : Dev) : Nat :=
  if mstate d != stIDLE && mstate d != stLIVE then eoOFF
  else if take then eoTAKE
  else if flag EMT_CTRL.PATTERN d then eoHOST
  else if flag EMT_CTRL.ENABLE d then eoCHECK
  else eoOFF

/-- The host's pattern as EMT_PAT stands (R353, R361). -/
def emtPattern (d : Dev) : List (Nat × Nat) :=
  mbuild (fun _ => 0) 192 (fun n => if n % 2 = 0 then fld (EMT_PAT.CODE_LO (n / 2)) d else fld (EMT_PAT.CODE_HI (n / 2)) d)

/-- The driver stops: all lines and sinks are off (R347). -/
def emtStop (d : Dev) : Dev :=
  d |> whenD d.emt.line.isSome (emitOut .emittersOff) |> modEmt (fun e => { e with line := none, codes := [] })
    |> setFld EMT_STATUS.OWNER eoOFF

/-- Sink current target of a code, in µA (R349). -/
def emtTarget (code : Nat) : Nat := if code < 1024 then 3000 else 3000 + (code - 1024) * 9000 / 3071

/-- Width of the pulse of codes 1 to 1,023, in 62.5 ns steps (R349). -/
def emtPulse (code : Nat) : Nat := max 64 ((code * 968 + 512) / 1024)

/-- The drive of a code (R348, R349): current in µA and width in 62.5 ns steps. Code 0 gets the check pulse of 1.0 µs, codes
up to 1,023 a pulse, the others the whole drive window. -/
def emtDrive (code : Nat) : Nat × Nat :=
  (emtTarget code, if code = 0 then 16 else if code < 1024 then emtPulse code else 968)

/-- The code an emitter receives: a SHORT one has the check pulse only (R350). -/
def emtCode (n : Nat) (d : Dev) : Nat := if (emitter n d).st = 2 then 0 else mget (fun _ => 0) d.emt.codes n

/-- The slot of line `k` starts (R348). -/
def emtLineStart (k : Nat) (d : Dev) : Dev :=
  d |> modEmt (fun e => { e with line := some k })
    |> emitOut (.emitterLine k ((List.range 12).map (fun j => emtDrive (emtCode (16 * j + k) d))))

/-- A scan starts, or the driver stops (R347, R353). DESIGN CHOICE, log 41. -/
def scanStart (d : Dev) : Dev :=
  let own := d.emt.due
  if own = eoOFF then emtStop d
  else
    let d := if flag EMT_STATUS.PENDING d then
        let p := emtPattern d
        d |> modEmt (fun e => { e with pat := p }) |> setFlag EMT_STATUS.PENDING false
      else d
    let was := fld EMT_STATUS.OWNER d
    let code := d.emt.dueCode
    let codes := if own = eoTAKE then mbuild (fun _ => 0) 192 (fun _ => code) else if own = eoHOST then d.emt.pat else []
    d |> whenD (was == eoHOST && own == eoTAKE) (raise 227)
      |> setFld EMT_STATUS.OWNER own |> addFld EMT_STATUS.SCANS 1
      |> modEmt (fun e => { e with codes := codes }) |> emtLineStart 0

/-- The owner and the take's lighting fall due at a slate boundary; the first scan starts there (R347, R353). -/
def emtBoundary (take : Bool) (code : Nat) (d : Dev) : Dev :=
  let own := emtOwner take d
  let d := modEmt (fun e => { e with due := own, dueCode := code }) d
  if d.emt.line.isNone && own != eoOFF then scanStart d else d

/-- Leaving IDLE and LIVE turns the driver off at once (R347). -/
def emtOff (d : Dev) : Dev := d |> emtStop |> modEmt (fun e => { e with due := eoOFF })

/-- Result of a test: 0 pass, 1 OPEN, 2 SHORT (R350). DESIGN CHOICE, log 41. -/
def emtTest (code : Nat) (x : EmSample) : Nat := if 2 * x.ua < emtTarget code then 1 else if x.mv < 250 then 2 else 0

/-- The fault state of an emitter, in the state and in EMT_FLT. -/
def setEmitter (n : Nat) (x : Emitter) (d : Dev) : Dev :=
  d |> modEmt (fun e => { e with ems := mset emD e.ems n x })
    |> setFld ⟨EMT_FLT.addr (n / 16), 2 * (n % 16) + 1, 2 * (n % 16)⟩ x.st

/-- An entry into OPEN or SHORT (R360). -/
def emtEnter (n kind : Nat) (d : Dev) : Dev :=
  let was := (emitter n d).st
  d |> whenD (was == 0) (raise 224) |> addFldSat EMT_FLT_CNT.SETS 1
    |> wrReg EMT_FLT_LOG.addr (BitVec.ofNat 32 (kind * 2 ^ 28 + d.sl.no % 2 ^ 16 * 2 ^ 12 + n))
    |> note 224 [n, kind]

/-- One emitter's test in a scan (R350, R351). -/
def emtSample (n : Nat) (x : EmSample) (d : Dev) : Dev :=
  let e := emitter n d
  let k := emtTest (emtCode n d) x
  let d :=
    if k = 0 then
      let back := e.st != 0 && decide (16 ≤ e.pass + 1)
      d |> setEmitter n { st := if back then 0 else e.st, fail := 0, pass := e.pass + 1 } |> whenD back (raise 225)
    else
      let ent := decide (2 ≤ e.fail + 1) && e.st != k
      d |> addFldSat EMT_FLT_CNT.FAILS 1 |> whenD ent (emtEnter n k)
        |> setEmitter n { st := if ent then k else e.st, fail := e.fail + 1, pass := 0 }
  whenD (inTake d && (emitter n d).st != 0) (setFlag ⟨EMT_TFLT.addr (n / 32), n % 32, n % 32⟩ true) d

/-- Lines (0 to 15) and sinks (16 to 27) of which every emitter is OPEN (R360). -/
def emtFull (d : Dev) : List Nat :=
  let o (n : Nat) : Bool := (emitter n d).st == 1
  (List.range 16).filter (fun i => (List.range 12).all (fun j => o (16 * j + i))) ++
  ((List.range 12).filter (fun j => (List.range 16).all (fun i => o (16 * j + i)))).map (· + 16)

/-- A line slot ends: its emitters have been tested, and the next line or scan starts (R348, R350). -/
def emtLineEnd (xs : List EmSample) (d : Dev) : Dev :=
  match d.emt.line with
  | none => d
  | some k =>
    let d := forD (List.range 12) (fun j => emtSample (16 * j + k) (xs.getD j ⟨0, 0⟩)) d
    let full := emtFull d
    let new := full.any (fun x => !d.emt.full.contains x)
    let cnt := ((List.range 192).filter (fun n => (emitter n d).st != 0)).length
    let d := d |> whenD new (raise 226) |> modEmt (fun e => { e with full := full }) |> setFld EMT_STATUS.FAULTS cnt
    if k < 15 then emtLineStart (k + 1) d else scanStart d

/-- EMT_CTRL.APPLY (R353). -/
def emtApply (d : Dev) : Dev := setFlag EMT_STATUS.PENDING true d

/-- A take starts: EMT_TFLT is cleared (R351). -/
def emtTakeStart (d : Dev) : Dev := forD (List.range 6) (fun n => wrReg (EMT_TFLT.addr n) 0) d

end Sys2Proof.Machine
end

