-- ==== Sys2Proof/Machine/Thermal.lean ====
section
/-! DEFINITION. The thermal map, the hot and cold tests, power and the hardware loop (15_thermal_power.md). -/

namespace Sys2Proof.Machine

def modGaf (f : Gaf → Gaf) (d : Dev) : Dev := { d with gaf := f d.gaf }

/-! ### Sensors (R364 to R367) -/

def sensD : Nat → Sensor := fun _ => {}
/-- DESIGN CHOICE, log 6. -/
def sensor (n : Nat) (d : Dev) : Sensor := mget sensD d.gaf.sens n

/-- Nominal trim: slope 1, offset 0. -/
def trimD : Nat → Nat × Int := fun _ => (16384, 0)

/-- The reading of sensor `n` whose count nominal trim takes to `x`: its slope times that, in whole 1/64 degree, and its
offset (R365). PRESUMED, log 53. -/
def trimmed (n : Nat) (x : SensCount) (d : Dev) : Int :=
  let t := mget trimD d.gaf.trims n
  x * (t.1 : Int) / 16384 + t.2

/-- What a BROKEN sensor is taken as: 125 degrees. -/
def brokenTemp : Int := 8000

/-- floor((2 S + n) / (2 n)). -/
def tMean (s : Int) (n : Nat) : Int := (2 * s + n) / (2 * n : Nat)

/-- The count of a reading lies in the band that the trim maps to -70 to +160 degrees (R366). -/
def inBand (temp : Int) : Bool := decide (-4480 ≤ temp) && decide (temp ≤ 10240)

/-- One window of a sensor with count `x`, which its trim takes to `temp` (R365, R366). DESIGN CHOICE, log 6; DEDUCED, log
42. -/
def sensorWindow (x : SensCount) (temp : Int) (s : Sensor) : Sensor :=
  let outs := if inBand temp then 0 else s.outs + 1
  let reps := if s.prev = some x then s.reps + 1 else 0
  let valid := inBand temp && decide (reps < 16)
  let good := if s.broken && valid then s.good + 1 else 0
  let broken := if s.broken then decide (good < 4000) else decide (4 ≤ outs) || decide (16 ≤ reps)
  let last := if valid then (temp :: s.last).take 4 else s.last
  { last := last
    fast := if broken then brokenTemp else if last.isEmpty then s.fast
      else tMean (last.foldl (· + ·) 0) last.length
    sum := if valid then s.sum + temp else s.sum
    cnt := if valid then s.cnt + 1 else s.cnt
    slate := if broken then brokenTemp else s.slate
    outs := outs, reps := reps, good := if broken then good else 0, broken := broken, prev := some x }

/-- Sensor `n` is ignored (R367). -/
def ignored (n : Nat) (d : Dev) : Bool := bitN (rdReg (GAF_IGN.addr (n / 32)) d).toNat (n % 32)

/-- The sensors of a range that are not ignored, with a value of each. -/
def sensorsOf (lo n : Nat) (f : Sensor → Int) (d : Dev) : List (Nat × Int) :=
  ((List.range n).map (· + lo)).filterMap (fun k => if ignored k d then none else some (k, f (sensor k d)))

/-- The hottest, and the coldest, of a list; the lowest number among equals. -/
def hottestIn : List (Nat × Int) → Nat × Int
  | [] => (0, 0)
  | x :: r => r.foldl (fun a y => if a.2 < y.2 then y else a) x
def coldestIn : List (Nat × Int) → Nat × Int
  | [] => (0, 0)
  | x :: r => r.foldl (fun a y => if y.2 < a.2 then y else a) x

/-- The hottest sensor and the coldest array sensor (R364). DEDUCED, log 42. -/
def hottest (d : Dev) : Nat × Int := hottestIn (sensorsOf 0 200 (·.fast) d)
/-- DEDUCED, log 42. -/
def coldest (d : Dev) : Nat × Int := coldestIn (sensorsOf 0 192 (·.fast) d)

/-- The snapshot of R107: slate values of the array sensors. -/
def snapshot (d : Dev) : List Int := (List.range 192).map (fun n => (sensor n d).slate)

/-- A sensor becomes BROKEN or stops being BROKEN (R379). DEDUCED, log 30. -/
def brokenChanged (n : Nat) (d : Dev) : Dev := d |> raise 235 |> note 232 [n]

/-- GAF_STATUS.BROKEN. -/
def brokenCount (d : Dev) : Nat := ((List.range 200).filter (fun n => (sensor n d).broken)).length

/-- Every sensor's window ends; sensors beyond `xs` give `rest`. DEDUCED, log 42. -/
def sensorWindows (rest : SensCount) (xs : List SensCount) (d : Dev) : Dev :=
  let was (n : Nat) : Bool := (sensor n d).broken
  let d' := modGaf (fun g => { g with
    sens := mmapAll sensD 200 (fun n s =>
      let x := xs.getD n rest
      sensorWindow x (trimmed n x d) s) g.sens }) d
  let moved := (List.range 200).filter (fun n => (sensor n d').broken != was n)
  d' |> forD moved brokenChanged |> setFld GAF_STATUS.BROKEN (brokenCount d')

/-- The slate values are formed; a sensor with no valid reading keeps its own (R365, R366). -/
def slateValue (s : Sensor) : Sensor :=
  { s with
    slate := if s.broken then brokenTemp else if s.cnt = 0 then s.slate else tMean s.sum s.cnt
    sum := 0, cnt := 0 }

/-- The spread in 10 mK (R375). -/
def spreadOf (d : Dev) : Nat :=
  let l := sensorsOf 0 192 (·.slate) d
  (tdiv (((hottestIn l).2 - (coldestIn l).2) * 100) 64).toNat

def slateValues (d : Dev) : Dev :=
  let d := modGaf (fun g => { g with win := 0, sens := mmapAll sensD 200 (fun _ s => slateValue s) g.sens }) d
  setFld GAF_SPREAD.SPREAD (spreadOf d) d

/-- While the slate timer is stopped the slate values are formed every 16.0 ms (R365). -/
def windowCount (d : Dev) : Dev :=
  if d.sl.running then d
  else if 64 ≤ d.gaf.win + 1 then slateValues d
  else modGaf (fun g => { g with win := g.win + 1 }) d

/-! ### Hot and cold tests (R368 to R371) -/

/-- Thresholds and release values of the levels, in 1/64 degree. -/
def hotThr (l : Nat) : Int := if l = 1 then 6080 else if l = 2 then 6720 else if l = 3 then 7360 else 8000
def hotRel (l : Nat) : Int := if l = 1 then 5888 else if l = 2 then 6528 else if l = 3 then 7168 else 7808

/-- The hot level after a window. -/
def hotLevel (old : Nat) (t : Int) : Nat :=
  ([4, 3, 2, 1].find? (fun l => decide (hotThr l ≤ t) || (decide (l ≤ old) && decide (hotRel l ≤ t)))).getD 0

/-- A loop condition starts to hold. -/
def condStart (d : Dev) : Dev := modGaf (fun g => { g with start := true }) d

/-- HOT follows the hottest sensor (R368, R373, R379). -/
def hotUpdate (d : Dev) : Dev :=
  let old := fld GAF_STATUS.HOT d
  let new := hotLevel old (hottest d).2
  let shown (l : Nat) : Bool := decide (1 ≤ l) && decide (l ≤ 3)
  d |> setFld GAF_STATUS.HOT new |> whenD (old != new && (shown old || shown new)) (raise 232)
    |> whenD (decide (old < 2) && decide (2 ≤ new)) condStart

/-- COLD_NV (R371); the coldest array sensor decides where all of sensors 196 to 199 are ignored (R399). -/
def coldNvUpdate (d : Dev) : Dev :=
  let own := (sensorsOf 196 4 (·.fast) d).map (·.2)
  let l := if own.isEmpty then [(coldest d).2] else own
  let was := flag GAF_STATUS.COLD_NV d
  let new := if l.any (fun t => decide (t < -2560)) then true
    else if l.all (fun t => decide (-2432 ≤ t)) then false else was
  d |> setFlag GAF_STATUS.COLD_NV new |> whenD (was != new) (raise 238)

/-- The conditions of WARM_OK hold (R370). -/
def warmHolds (d : Dev) : Bool := decide (-2560 ≤ (coldest d).2) && decide (fld GAF_SPREAD.SPREAD d ≤ 200)

/-- WARM_OK, and its change. -/
def setWarmOk (b : Bool) (d : Dev) : Dev :=
  if flag GAF_STATUS.WARM_OK d = b then d else d |> setFlag GAF_STATUS.WARM_OK b |> raise 238
def warmCheck (d : Dev) : Dev := if warmHolds d then d else setWarmOk false d

/-- The array is below the cold limit (R33, R369). -/
def coldLimit (d : Dev) : Bool := decide ((coldest d).2 < -2688)

/-! ### Power (R373, R377) -/

/-- OVER over the last second of measurements. -/
def overUpdate (d : Dev) : Dev :=
  let l := d.gaf.hist
  let s := l.foldl (· + ·) 0
  let lim := fld GAF_PLIM.LIMIT d * 100
  let was := flag GAF_STATUS.OVER d
  if !was && decide (lim * l.length < s) then d |> setFlag GAF_STATUS.OVER true |> raise 237 |> condStart
  else if was && decide (100 * s ≤ 85 * lim * l.length) then setFlag GAF_STATUS.OVER false d
  else d

/-- One measurement of HOST_12V power, in mW; none is made while the main domain is unpowered (R380). DEDUCED, log 42. -/
def powerMeasured (mw : Nat) (d : Dev) : Dev :=
  let st := mstate d
  if st = stAUX ∨ st = stOFF then d
  else
    d |> modGaf (fun g => { g with hist := (mw :: g.hist).take 4000, psum := g.psum + mw, pcnt := g.pcnt + 1 })
      |> overUpdate

/-- GAF_PWR at a slate boundary: `ticks` is the length of the slate that has ended, in 2.5 ns. -/
def powerSlate (ticks : Nat) (d : Dev) : Dev :=
  let g := d.gaf
  let pwr := if g.pcnt = 0 then fld GAF_PWR.PWR d else min 0xFFFF (g.psum / g.pcnt)
  d |> setFld GAF_PWR.PWR pwr
    |> setFld GAF_PWR.EPP (if g.px = 0 then 0xFFFF else min 0xFFFE (pwr * ticks / (4 * g.px)))
    |> modGaf (fun g => { g with psum := 0, pcnt := 0, px := 0 })

/-! ### The loop (R372 to R376) -/

/-- The module reads a stripe in the new slate. -/
def stripeNext (d : Dev) : Bool := if fpaWillApply d then flag FPA_MODE.STRIPE d else flag FPA_STATUS.STRIPE d

/-- GRAD at a slate boundary, in the mode of the new slate (R373). DESIGN CHOICE, log 41. -/
def gradUpdate (d : Dev) : Dev :=
  let was := flag GAF_STATUS.GRAD d
  let lim := fld GAF_GRAD.LIMIT d
  let s := fld GAF_SPREAD.SPREAD d
  let off := stripeNext d || !flag GAF_GRAD.EN d
  let new := if off then false else if lim < s then true else if s ≤ 2 * lim / 3 then false else was
  d |> setFlag GAF_STATUS.GRAD new |> whenD (was != new) (raise 234) |> whenD (!was && new) condStart

/-- The loop's conditions other than GRAD. -/
def hardCond (d : Dev) : Bool := decide (2 ≤ fld GAF_STATUS.HOT d) || flag GAF_STATUS.OVER d

/-- A time has passed since the last step; none has been made: it has. -/
def stepAged (ticks : Nat) (d : Dev) : Bool :=
  match d.gaf.step with
  | none => true
  | some t => decide (t + ticks ≤ d.sl.tick)

/-- The step that is due: 1 down, 2 up, 0 none (R373). A condition that has started to hold since the last boundary brings its
step down though it has stopped by now. A step down that waited for the end of a take or of a change of
settings is made though no condition holds by then, and a condition that has started by then turns a step up that waited
into one down. DEDUCED, log 42. -/
def loopDue (d : Dev) : Nat :=
  let stripe := flag FPA_STATUS.STRIPE d
  let hard := hardCond d
  let grad := flag GAF_STATUS.GRAD d
  let level := if stripe then fld GAF_LOOP.PAUSE d else fld GAF_LOOP.ALLOWED d
  let floor := fld GAF_GRAD.FLOOR d
  let max := if !hard && grad then floor else 8
  let min := if !hard && grad then floor else 0
  let down := d.gaf.late == 1 || d.gaf.start || ((hard || grad) && stepAged 400000000 d)
  let up := !hard && (d.gaf.late == 2 || stepAged 800000000 d)
  if down && decide (level < max) then 1 else if up && decide (min < level) then 2 else 0

/-- The loop's part of a slate boundary: a due step is made, or waits while the new slate is in a take or a staged
change of settings is applied (R373, R179). `blocked` says so. DEDUCED, log 42. -/
def loopStep (blocked : Bool) (d : Dev) : Dev :=
  let k := loopDue d
  let d := modGaf (fun g => { g with start := false, late := if !blocked then 0 else if k = 0 then g.late else k }) d
  if k = 0 ∨ blocked then d
  else
    let f := if flag FPA_STATUS.STRIPE d then GAF_LOOP.PAUSE else GAF_LOOP.ALLOWED
    let v := fld f d
    let t := d.sl.tick
    d |> setFld f (if k = 1 then v + 1 else v - 1) |> setFld GAF_LOOP.LAST_STEP d.sl.no |> raise 233
      |> modGaf (fun g => { g with step := some t })

/-- PAUSE becomes 0 where stripe mode starts or ends (R372). -/
def pauseReset (was : Bool) (d : Dev) : Dev :=
  if flag FPA_STATUS.STRIPE d = was then d else setFld GAF_LOOP.PAUSE 0 d

/-- PWR_HELD, PAUSING and source 236, once the rates of the new slate are known (R376). -/
def loopStatus (d : Dev) : Dev :=
  let was := flag GAF_STATUS.PWR_HELD d
  let new := flag FPA_STATUS.RATE_LIMITED d
  d |> setFlag GAF_STATUS.PWR_HELD new |> setFlag GAF_STATUS.PAUSING (fld GAF_LOOP.PAUSE d != 0)
    |> whenD (was != new) (raise 236)

/-- The end of BOOT (R372). -/
def loopBootEnd (d : Dev) : Dev :=
  d |> setFld GAF_LOOP.ALLOWED 0 |> setFld GAF_LOOP.PAUSE 0 |> setFlag GAF_STATUS.PAUSING false

/-- The warm-up load of the slate (R369). -/
def warmLoad (d : Dev) : Dev :=
  let w := if mstate d = stCOLD then min (fld GAF_WARM.POWER d) (fld GAF_PLIM.LIMIT d) else 0
  modGaf (fun g => { g with load := w }) d

end Sys2Proof.Machine
end

