-- ==== Sys2Proof/Machine/HerdLane.lean ====
section
/-! DEFINITION. The herd lane: what a member sends, its roster, and the leader's count of takes
(03_slate_and_herd.md R82, R84, R86 to R89). -/

namespace Sys2Proof.Machine

def modHerd (f : HerdCtl → HerdCtl) (d : Dev) : Dev := { d with herd := f d.herd }

/-- The position that the straps give (R82). -/
def posOf (d : Dev) : Nat := d.pw.pos

/-- Message types (R88). -/
def hmROSTER : Nat := 1
def hmSLATE_INFO : Nat := 2
def hmTAKE_REQ : Nat := 3
def hmTAKE_GRANT : Nat := 4
def hmTAKE_DENY : Nat := 5
def hmTAKE_DONE : Nat := 6
def hmSEAM : Nat := 7

/-- The device ID (R82). -/
def deviceId (d : Dev) : Nat := 16 * hcFld HERD_CFG.HERD_ID d + posOf d

/-- A message goes out; a module with DUP set originates none (R84, R88). DEST of a broadcast message is 0: R87 gives it no
value. DESIGN CHOICE, log 61. -/
def laneSend (typ dest : Nat) (bcast : Bool) (payload : List Nat) (d : Dev) : Dev :=
  if !mainRuns d || flag HERD_STATUS.DUP d then d
  else
    let s := d.herd.seq
    d |> emitOut (.herd ⟨typ, posOf d, if bcast then 0 else dest, bcast, s, payload⟩)
      |> modHerd (fun h => { h with seq := (s + 1) % 256 })

/-- A member originates a message. -/
def herdSend (typ dest : Nat) (bcast : Bool) (payload : List Nat) (d : Dev) : Dev :=
  if herdOn d then laneSend typ dest bcast payload d else d

/-- The 24 bytes of a message on the lane (R87): the header, 16 bytes of payload, CRC and zeros. The CRC stands low byte
first, and how a payload's values lie in its 16 bytes the spec does not give. DESIGN CHOICE, log 51. -/
def HerdMsg.bytes (m : HerdMsg) : List (BitVec 8) :=
  let pay := (List.range 16).map (fun i => BitVec.ofNat 8 (Config.herdPayload m.typ m.payload i))
  let head := [BitVec.ofNat 8 m.typ, BitVec.ofNat 8 (16 * m.origin + m.dest), BitVec.ofNat 8 (b2n m.bcast),
    BitVec.ofNat 8 m.seq] ++ pay
  head ++ leBytes 2 (crc16 head).toNat ++ [0#8, 0#8]

/-- The CRC of received bytes agrees. -/
def laneCrcOk (w : List (BitVec 8)) : Bool := (crc16 (w.take 20)).toNat == leNat ((w.drop 20).take 2)

/-- TYPE and ORIGIN of received bytes. -/
def laneType (w : List (BitVec 8)) : Nat := (w.getD 0 0).toNat
def laneOrigin (w : List (BitVec 8)) : Nat := (w.getD 1 0).toNat / 16

/-- k of R86 of a position under this leader: 1 for itself and for one not heard yet; `none` excludes it. -/
def memberK (p : Nat) (d : Dev) : Option Nat :=
  if p = posOf d then (if flag HERD_STATUS.RATE_MISMATCH d || flag HERD_STATUS.DUP d then none else some 1)
  else match member p d with
    | none => some 1
    | some m => rateK m.period (ownPeriod d)

/-- BLIND of a leader: the grants whose start slate has come and whose TAKE_DONE has not arrived (R89). -/
def blindCount (d : Dev) : Nat := (d.herd.blind.filter (fun x => slateReached x.2 d)).length

/-- BLIND allows a grant (R89). Grants whose start slate is still to come count here, so that the herd never has more members
in a take than MAX_BLIND, as the rule ends. DEDUCED, log 27. -/
def blindAllows (d : Dev) : Bool := decide (d.herd.blind.length < hcFld HERD_CFG.MAX_BLIND d)

/-- The start slate of a grant (R89), on the 48-bit circle: 0, which every k divides, follows the largest number. -/
def grantSlate (k : Nat) (d : Dev) : Nat :=
  let s := ((d.sl.no + 2) % 2 ^ 48 + k - 1) / k * k
  if s < 2 ^ 48 then s else 0

/-- What a leader answers to a request. -/
inductive HerdAns where
  | grant (s : Nat)
  | deny (reason : Nat)
  | queued
  deriving DecidableEq, Repr

/-- Reasons of TAKE_DENY: FULL, WAIT_EXPIRED, EXCLUDED. -/
def hdFULL : Nat := 0
def hdWAIT_EXPIRED : Nat := 1
def hdEXCLUDED : Nat := 2

/-- A grant is counted, and its start slate chosen (DEDUCED, log 27). R89 does not say whether a herd-schedule grant skips a
member whose earlier grant or take still counts: it is made, it takes the place of that member's one entry in BLIND, and the
TAKE_DONE with which the member answers a grant that it cannot use clears that entry while its take still runs. DESIGN CHOICE,
log 70. -/
def leaderGrant (p k : Nat) (d : Dev) : Nat × Dev :=
  let s := grantSlate k d
  (s, modHerd (fun h => { h with blind := h.blind.filter (·.1 != p) ++ [(p, s)] }) d)

/-- The leader serves a request of position `p`; `auto` for an interval or map trigger (R89). DEDUCED, log 27. -/
def leaderServe (p : Nat) (auto : Bool) (d : Dev) : HerdAns × Dev :=
  match memberK p d with
  | none => (.deny hdEXCLUDED, d)
  | some k =>
    if blindAllows d then (fun x => (.grant x.1, x.2)) (leaderGrant p k d)
    else if !auto || fld HERD_TAKE.WAIT d == 0 then (.deny hdFULL, d)
    else if d.herd.queue.any (·.1 == p) then (.queued, d)
    else (.queued, modHerd (fun h => { h with queue := h.queue ++ [(p, 0)] }) d)

/-- The answer goes to a member over the lane. -/
def sendAnswer (p : Nat) (a : HerdAns) (d : Dev) : Dev :=
  match a with
  | .grant s => herdSend hmTAKE_GRANT p false [s] d
  | .deny r => herdSend hmTAKE_DENY p false [r] d
  | .queued => d

/-- HERD_STATUS.TAKE_PENDING follows the request. DEDUCED, log 27. -/
def setReq (r : Option HerdReq) (d : Dev) : Dev :=
  d |> modHerd (fun h => { h with req := r }) |> setFlag HERD_STATUS.TAKE_PENDING r.isSome

end Sys2Proof.Machine
end

