-- ==== Sys2Proof/Machine/Takes.lean ====
section
/-! DEFINITION. Takes: triggers, acceptance, phases, decisions, the take commit, depot re-anchoring and the scene-trim
gates (07_takes.md). -/

namespace Sys2Proof.Machine

def modTake (f : Take → Take) (d : Dev) : Dev := { d with take := f d.take }

/-- Modes (R177), triggers (R175), outcomes, causes (R190, R200), shutter positions (R181). -/
def tmAUTO : Nat := 0
def tmSHUTTERED : Nat := 1
def tmSHUTTERLESS : Nat := 2
def tmDEPOT_LO : Nat := 3
def tmDEPOT_HI : Nat := 4
def tmDEPOT_REF : Nat := 5
def ttHOST : Nat := 0
def ttINTERVAL : Nat := 1
def ttMAP : Nat := 2
def ttHERD : Nat := 3
def toCOMMITTED : Nat := 1
def toEMPTY : Nat := 2
def toABANDONED : Nat := 3
def toRECORDED : Nat := 4
def tcSTOP : Nat := 1
def tcSTATE : Nat := 2
def tcFIELD : Nat := 3
def tcSHUTTER : Nat := 4
def tcSPREAD : Nat := 5
def tcDRIFT : Nat := 6
def tcFLAG_LIMIT : Nat := 7
def tcNO_EMITTER : Nat := 8
def tcSTRIPE : Nat := 9
def tcDEPOT_REJECT : Nat := 10
def tcREF_WRITE : Nat := 11
def tcGRANT : Nat := 12
def shOPEN : Nat := 0
def shCLOSED : Nat := 1
def shMOVING : Nat := 2
def shUNKNOWN : Nat := 3

/-- SHUTTER as what the host end knows of the shutter gives it: UNKNOWN during FIELD_ABSENT and always on a TH8840-S,
MOVING while LS0 or LS1 moves, else the last position (R181; 13_actuators.md R342). -/
def shutterShow (d : Dev) : Dev :=
  let t := d.take
  setFld TAKE_STATUS.SHUTTER (if isS d || flag GLB_MSTATE.FIELD_ABSENT d then shUNKNOWN
    else if t.shMove.1 || t.shMove.2 then shMOVING else t.shPos) d

/-- LS`ch` is known to move, or to rest (13_actuators.md R342). -/
def shutterMoves (ch : Nat) (b : Bool) (d : Dev) : Dev :=
  d |> modTake (fun t => { t with shMove := if ch = 0 then (b, t.shMove.2) else (t.shMove.1, b) }) |> shutterShow

/-- A sequence of LS`ch` has ended with the position `v`. -/
def setShutter (ch v : Nat) (d : Dev) : Dev := d |> modTake (fun t => { t with shPos := v }) |> shutterMoves ch false

/-- A sequence has failed or the field side is lost: SHUTTER reads UNKNOWN until LS0 or LS1 reports again (R181). -/
def shutterLost (d : Dev) : Dev :=
  d |> modTake (fun t => { t with shPos := shUNKNOWN, shMove := (false, false), stopOpen := false }) |> shutterShow

/-- The mean of the array sensors of a snapshot, truncated. -/
def snapMean (l : List Int) : Int := tdiv (l.foldl (· + ·) 0) 192

/-- The registers' values come into force (R200). -/
def takeRegs (d : Dev) : Dev :=
  let w := (List.range 6).map (fun k => rdReg (0x4C00 + 4 * k) d)
  modTake (fun t => { t with cfg := w }) d

/-! ### Refusals and records (R176, R178, R197) -/

/-- The drive in force. -/
def dselInForce (d : Dev) : Nat := tkFld TAKE_EMIT.DSEL d

/-- The field side is present and does not report actuation inhibited. -/
def fieldReady (d : Dev) : Bool := !flag GLB_MSTATE.FIELD_ABSENT d && !d.xh.inh && !isS d

/-- AUTO resolves at acceptance (R177). -/
def resolveMode (m : Nat) (d : Dev) : Nat :=
  if m = tmAUTO then (if fieldReady d then tmSHUTTERED else tmSHUTTERLESS) else m

/-- The integrator region is open for writing (16_nonvolatile_store.md R392). -/
def integratorOpen (d : Dev) : Bool := bitN (fld NVS_ACCESS.INTEGRATOR d) 6

/-- The conditions of R178 on a resolved mode. -/
def modeRefused (m : Nat) (d : Dev) : Bool :=
  let shuttered := m == tmSHUTTERED || m == tmDEPOT_REF
  (shuttered && (!fieldReady d || decide (28 * slotCycles (fld PIPE_STATUS.DIV d) (ticksInForce d) < 14336))) ||
  ((m == tmSHUTTERLESS || m == tmDEPOT_LO || m == tmDEPOT_HI) && flag FPA_STATUS.STRIPE d) ||
  (m == tmDEPOT_HI && !flag TAKE_DEPOT.LO_VALID d) || (m == tmDEPOT_REF && !integratorOpen d)

/-- A take is in progress, accepted, or asked of the herd: no trigger is served (R178). -/
def takeBusy (d : Dev) : Bool := inTake d || d.take.next.isSome || flag HERD_STATUS.TAKE_PENDING d

/-- The take record (R197). DEDUCED, log 28. -/
def takeRecord (seq s last outcome cause mode trigger dsel occupied : Nat) (m0 m1 : Int) (rest : List Nat) :
    Dev → Dev :=
  daily 4 136 ([seq, s % 2 ^ 32, last % 2 ^ 32,
    outcome * 2 ^ 28 + cause * 2 ^ 24 + mode * 2 ^ 21 + trigger * 2 ^ 19 + dsel * 2 ^ 17 + min 0xFFFF occupied,
    ux 16 m1 * 2 ^ 16 + ux 16 m0] ++ rest)

/-- The record of a trigger refused, denied or dropped. DEDUCED, log 28. -/
def refusedRecord (mode trigger : Nat) (d : Dev) : Dev :=
  let m := snapMean d.en.per.snap
  takeRecord 0xFFFFFFFF d.sl.no d.sl.no 0 0 mode trigger (dselInForce d) 0 m m (List.replicate 7 0) d

/-- The MIN_GAP hold starts (R175, R176). -/
def holdStart (d : Dev) : Dev := modTake (fun t => { t with hold := true }) d

/-- An automatic trigger is refused, denied or dropped (R176). -/
def autoRefused (mode trigger : Nat) (d : Dev) : Dev := d |> refusedRecord mode trigger |> raise 139 |> holdStart

/-- A trigger is refused: a host command completes with STATE. -/
def triggerRefused (mode trigger : Nat) (cmd : Option CmdRef) (d : Dev) : Dev :=
  match cmd with
  | some c => d |> refusedRecord mode trigger |> completeCmd c dsSTATE (slate32 d) (fld GLB_MSTATE.GEN d)
  | none => autoRefused mode trigger d

/-- TAKE_LAST. -/
def setTakeLast (outcome cause mode trigger s : Nat) (d : Dev) : Dev :=
  d |> setFld TAKE_LAST.OUTCOME outcome |> setFld TAKE_LAST.CAUSE cause |> setFld TAKE_LAST.MODE mode
    |> setFld TAKE_LAST.TRIGGER trigger |> setFld TAKE_LAST.SLATE s

/-- A grant that this member does not serve: recorded as an abandoned take with the mode requested, `mode`, and shown in
TAKE_LAST with the mode that it resolves to, `res` (R177); TAKE_DONE in the start slate. A grant of the member's own
interval or map request is a refused automatic trigger (R176, R197). -/
def grantRefused (mode res trigger s : Nat) (d : Dev) : Dev :=
  let d := whenD (trigger == ttINTERVAL || trigger == ttMAP) (autoRefused tmAUTO trigger) d
  let m := snapMean d.en.per.snap
  let seq := d.take.seq + 1
  d |> modTake (fun t => { t with seq := seq })
    |> takeRecord (seq % 2 ^ 32) s s toABANDONED tcGRANT mode trigger (dselInForce d) 0 m m (List.replicate 7 0)
    |> setTakeLast toABANDONED tcGRANT res trigger s |> addFldSat TAKE_COUNT.ABANDONED 1 |> raise 138
    |> modHerd (fun h => { h with done := some (s, true) })

/-! ### Triggers and acceptance (R175 to R178; 03_slate_and_herd.md R89) -/

/-- A take is accepted for start slate `s`; a host command completes (R178). -/
def takeAccept (mode trigger s : Nat) (cmd : Option CmdRef) (d : Dev) : Dev :=
  let n : TakeNext := { mode := resolveMode mode d, req := mode, trigger := trigger, s := s }
  let d := modTake (fun t => { t with next := some n }) d
  match cmd with
  | some c => completeCmd c dsOK (s % 2 ^ 32) (fld GLB_MSTATE.GEN d) d
  | none => d

/-- A grant reaches this member, for its own request or from the herd schedule. A member with DUP set is refused every take,
one that another module of its position has asked for included (03_slate_and_herd.md R84). DEDUCED, log 27. -/
def takeGranted (s : Nat) (d : Dev) : Dev :=
  let r := d.herd.req
  let d := setReq none d
  let mode := match r with | some x => x.mode | none => tmAUTO
  let trigger := match r with | some x => x.trigger | none => ttHERD
  let cmd := match r with | some x => x.cmd | none => none
  let res := resolveMode mode d
  if flag HERD_STATUS.DUP d || !isLive d || inTake d || d.take.next.isSome || modeRefused res d then
    let d := match cmd with
      | some c => completeCmd c dsSTATE (slate32 d) (fld GLB_MSTATE.GEN d) d
      | none => d
    grantRefused mode res trigger s d
  else takeAccept mode trigger s cmd d

/-- This member's request is denied or expires (R89, R176; source 24). -/
def takeDenied (d : Dev) : Dev :=
  match d.herd.req with
  | none => d
  | some x => d |> setReq none |> raise 24 |> triggerRefused x.mode x.trigger x.cmd

/-- A member asks its leader; the leader serves itself, and a member with DUP set is refused every take. -/
def herdRequest (mode trigger : Nat) (cmd : Option CmdRef) (d : Dev) : Dev :=
  let d := setReq (some { mode := mode, trigger := trigger, cmd := cmd, age := 0 }) d
  let auto := trigger != ttHOST
  if flag HERD_STATUS.DUP d then takeDenied d
  else if isLeader d then
    match leaderServe (posOf d) auto d with
    | (.grant s, d) => takeGranted s d
    | (.deny _, d) => takeDenied d
    | (.queued, d) => d
  else match d.herd.leader with
    | some p => herdSend hmTAKE_REQ p false [b2n auto] d
    | none => d

/-- A take trigger: `trigger` by R175, with its command for a host trigger. -/
def takeTrigger (mode trigger : Nat) (cmd : Option CmdRef) (d : Dev) : Dev :=
  if takeBusy d then (if cmd.isSome then triggerRefused mode trigger cmd d else d)
  else if !isLive d || modeRefused (resolveMode mode d) d then triggerRefused mode trigger cmd d
  else if herdOn d then herdRequest mode trigger cmd d
  else takeAccept mode trigger (comingNo 1 d) cmd d

/-- INTERVAL seconds have passed: the condition stands until a take, and fires unless held (R175, R176). -/
def intervalFires (d : Dev) : Dev :=
  if tkFld TAKE_CFG.INTERVAL d = 0 || !isLive d || inTake d then d
  else
    let d := modTake (fun t => { t with due := true }) d
    if d.take.hold then d else takeTrigger tmAUTO ttINTERVAL none d

/-- The MIN_GAP hold ends; an interval condition that stands fires. -/
def minGapEnds (d : Dev) : Dev :=
  if !d.take.hold then d
  else
    let d := modTake (fun t => { t with hold := false }) d
    if d.take.due && isLive d && tkFld TAKE_CFG.INTERVAL d != 0 then takeTrigger tmAUTO ttINTERVAL none d else d

/-- The map trigger at a slate boundary (R175). -/
def mapTrigger (d : Dev) : Dev :=
  let far := (List.zip d.en.per.snap d.take.mapRef).any (fun x =>
    decide (fld TAKE_LIM.MAP_DELTA d < (x.1 - x.2).natAbs))
  if isLive d && tkFlag TAKE_CFG.MAP_EN d && !d.take.hold && far && !takeBusy d then takeTrigger tmAUTO ttMAP none d
  else d

/-- A take accepted for a start slate is superseded by an event of higher rank (01_architecture.md R38). DEDUCED, log 27. -/
def takeSupersede (d : Dev) : Dev :=
  match d.take.next with
  | none => d
  | some n =>
    let d := modTake (fun t => { t with next := none }) d
    if herdTakes d then
      grantRefused n.req n.mode n.trigger n.s d
    else if n.trigger = ttHOST then refusedRecord n.req n.trigger d
    else autoRefused tmAUTO n.trigger d

/-! ### The shutter (R181, R182) -/

/-- The module asks for a close or an open sequence. -/
def shutterAsk (close : Bool) (d : Dev) : Dev :=
  hostRequest xACT_CMD (pf 29 27 (if close then 0 else 1) + pf 26 23 1) (.shutter close) d

/-- The sequence asked for failed, was refused or has timed out: SHUTTER reads UNKNOWN (DEDUCED, log 28). A take that has been
abandoned already keeps its first cause; R181 does not say which one stands. DESIGN CHOICE, log 69. -/
def shutterFailed (close : Bool) (d : Dev) : Dev :=
  let t := d.take
  let d := shutterLost d
  if inTake d && t.shReq == (if close then 1 else 2) then
    modTake (fun t => { t with shReq := 0, cause := if t.cause = 0 then tcSHUTTER else t.cause,
                               endNow := t.endNow || !close }) d
  else if !close && t.liveOpen && !t.liveEnded then
    d |> modTake (fun t => { t with liveEnded := true }) |> note 136 [tcSHUTTER] |> raise 138
  else d

/-- The sequence of LS0 or LS1 has ended (R181): `ok` when correctly. -/
def shutterEnded (close ok : Bool) (d : Dev) : Dev :=
  let d := setShutter (if close then 0 else 1) (if !ok then shUNKNOWN else if close then shCLOSED else shOPEN) d
  let d := whenD (!close) (modTake (fun t => { t with stopOpen := false })) d
  if !ok then shutterFailed close d
  else if inTake d && d.take.shReq == (if close then 1 else 2) then
    modTake (fun t => { t with shReq := 0, shEnded := true }) d
  else if !close && d.take.liveOpen then modTake (fun t => { t with liveEnded := true }) d
  else d

/-- 150 ms have passed since the request under way. -/
def shutterTimeout (d : Dev) : Dev :=
  let t := d.take
  if inTake d && t.shReq = 1 then shutterFailed true d
  else if (inTake d && t.shReq = 2) || (t.liveOpen && !t.liveEnded) || t.stopOpen then shutterFailed false d
  else d

/-- The crossing has left UP: SHUTTER reads UNKNOWN, a shuttered take is abandoned with FIELD, unless its last work has been
done already (R181, R190). -/
def takeFieldLost (d : Dev) : Dev :=
  let d := shutterLost d
  if takeWork d && d.take.worked then d
  else if takeWork d then
    modTake (fun t => { t with cause := if t.cause = 0 then tcFIELD else t.cause, endNow := true, shReq := 0 }) d
  else shutterFailed false d

/-- Entry into LIVE (R175, R182). -/
def takeLiveEntry (d : Dev) : Dev :=
  let snap := snapshot d
  let d := modTake (fun t => { t with hold := true, due := false, mapRef := snap, liveOpen := false, liveEnded := false }) d
  let sh := fld TAKE_STATUS.SHUTTER d
  if (sh == shCLOSED || sh == shUNKNOWN) && xUp d && !isS d then
    d |> modTake (fun t => { t with liveOpen := true }) |> shutterAsk false
  else d

/-! ### Start and phases (R180, R192, R195) -/

/-- Emitter intensity codes of DSEL (R200). -/
def dselCode (k : Nat) : Nat := if k = 0 then 1536 else if k = 1 then 2304 else if k = 2 then 3072 else 4095

/-- The take's lighting in the slate: the intensity code of all emitters. -/
def takeCode (d : Dev) : Nat :=
  if phase d = phWARM ∨ phase d = phEMIT ∨ onBlock d then dselCode d.take.lat.dsel else 0

/-- The gain in force: high from S to the end of the last EMIT slate of a shuttered take, else the gain applied (R181). -/
def takeGain (d : Dev) : Dev :=
  let high := takeWork d && decide (phase d ≤ phEMIT)
  setFlag FPA_STATUS.GAIN (!high && d.fpa.low) d

/-- Enter a phase of `n` slates. -/
def enterPhase (p n : Nat) (d : Dev) : Dev :=
  d |> setFld TAKE_STATUS.PHASE p |> modTake (fun t => { t with left := n, shEnded := false })

/-- Start slate S: the take enters the TAKE sub-state (R180, R192, R195, R199, R200). DEDUCED, log 28. -/
def takeStart (n : TakeNext) (d : Dev) : Dev :=
  let period := ownPeriod d
  let lat : TakeLatch := {
    settle := tkFld TAKE_CFG.SETTLE d, outUncal := tkFlag TAKE_CFG.OUT d, jump := tkFld TAKE_LIM.JUMP d
    rgStep := tkFld TAKE_LIM.RG_STEP d, gsTol := tkFld TAKE_LIM.GS_TOL d, spread := tkFld TAKE_LIM2.SPREAD d
    drift := tkFld TAKE_LIM2.DRIFT d, dsel := tkFld TAKE_EMIT.DSEL d, step := tkFld TAKE_ST.STEP d }
  let m := snapMean (snapshot d)
  let no := d.sl.no
  let d := modTake (fun t => { t with
    next := none, mode := n.mode, trigger := n.trigger, s := no, lat := lat, slates := 1, cause := 0, endNow := false
    worked := false, meanS := m, offSum := [], offN := 0, emitSum := [], emitN := 0, gains := [], rejected := []
    why := 0, trimChanged := 0, newRepl := 0, newSusp := 0, maxSpread := 0, maxDelta := 0, committed := false
    shReq := 0, shEnded := false, due := false, meas := [], block := 0, inBlock := 0
    blockLen := 1 + (12000000 + period - 1) / period }) d
  let d := d |> setTake true |> raise 136 |> setFld TAKE_STATUS.MODE n.mode |> setFld TAKE_STATUS.ELAPSED 0
    |> emtTakeStart
  if n.mode = tmSHUTTERED ∨ n.mode = tmDEPOT_REF then
    let d := enterPhase phCLOSE 1 d
    if flag GLB_MSTATE.FIELD_ABSENT d then takeFieldLost d
    else d |> modTake (fun t => { t with shReq := 1 }) |> shutterAsk true
  else if n.mode = tmSHUTTERLESS then enterPhase phBLOCKS 1 d
  else enterPhase phDEPOT (lat.settle + 8) d

/-- The work area's sums and counts are initialised at the first OFFSET slate (R187). -/
def clearWork (d : Dev) : Dev :=
  mapEngs (fun _ g => { g with wsum := [], wmark := [], wdelta := [], wcnt := [] }) d

/-- Regions with a pixel read in the slate, and a mean. -/
def regionsRead (d : Dev) : List Nat :=
  (List.range 192).filter (fun n =>
    (region n d).ok && decide (firstRow d < 256 * (n / 16) + 256) && decide (256 * (n / 16) < firstRow d + activeRows d))

/-- The spread of the regional means, q4 (R186). -/
def meanSpread (d : Dev) : Nat :=
  match (regionsRead d).map (fun n => (region n d).m) with
  | [] => 0
  | x :: r => (r.foldl max x - r.foldl min x).toNat

/-- Open the shutter: the phase starts with its request. -/
def openPhase (d : Dev) : Dev :=
  d |> enterPhase phOPEN 1 |> modTake (fun t => { t with shReq := 2 }) |> shutterAsk false

/-- The spread check after an OFFSET slate (R186). DEDUCED, log 28. -/
def spreadCheck (d : Dev) : Dev :=
  let s := meanSpread d
  modTake (fun t => { t with
    maxSpread := max t.maxSpread (s / 16)
    cause := if t.cause = 0 ∧ 16 * t.lat.spread < s then tcSPREAD else t.cause }) d

/-- A take that goes on moves to its next slate or phase (R180, R190, R192). -/
def takeAdvance (d : Dev) : Dev :=
  let t := d.take
  let p := phase d
  let d := modTake (fun t => { t with slates := t.slates + 1 }) d
  let d := setFld TAKE_STATUS.ELAPSED (min 0xFFFF t.slates) d
  let d := if p = phOFFSET then spreadCheck d else d
  let dec (d : Dev) : Dev := modTake (fun t => { t with left := t.left - 1 }) d
  if p = phBLOCKS then
    if t.inBlock + 1 < t.blockLen then modTake (fun t => { t with inBlock := t.inBlock + 1 }) d
    else modTake (fun t => { t with inBlock := 0, block := t.block + 1 }) d
  else if p = phDEPOT ∨ p = phSETTLE_O then dec d
  else if p = phOPEN then (if t.shEnded then enterPhase phSETTLE_O t.lat.settle d else d)
  else if d.take.cause = tcSHUTTER ∨ d.take.cause = tcSPREAD then openPhase d
  else if p = phCLOSE then (if t.shEnded then enterPhase phSETTLE_C t.lat.settle d else d)
  else if 1 < t.left then dec d
  else if p = phSETTLE_C then d |> clearWork |> enterPhase phOFFSET 8
  else if p = phOFFSET then enterPhase phWARM 1 d
  else if p = phWARM then enterPhase phEMIT 8 d
  else openPhase d

/-! ### Work in blanking: means, trims, responses (R185 to R190, R192, R195) -/

/-- Add every region's mean to a list of sums. -/
def addMeans (l : List (Nat × Int)) (d : Dev) : List (Nat × Int) :=
  (List.range 192).foldl (fun l n => mmod (fun _ => (0 : Int)) l n (· + (region n d).m)) l

/-- The trim decisions of an engine (R187): 1 marks REPLACED, 2 a trim. -/
def trimDecide (jump : Nat) (g : Eng) : Eng :=
  g.wsum.foldl (fun g x =>
    if x.2 = -512 then g
    else
      let delta := asr (x.2 + 4) 3
      let new := cardTrim (card g x.1) + delta
      let mark := if jump ≤ delta.natAbs ∨ new < -128 ∨ 127 < new then 1 else 2
      { g with wdelta := mset (fun _ => (0 : Int)) g.wdelta x.1 delta, wmark := mset (fun _ => 0) g.wmark x.1 mark }) g

/-- Blanking slots 4 to 23 of the last OFFSET slate. -/
def trimDecisions (d : Dev) : Dev :=
  let jump := d.take.lat.jump
  let d := mapEngs (fun _ g => trimDecide jump g) d
  let m := d.en.engs.foldl (fun m x => x.2.wdelta.foldl (fun m y => max m y.2.natAbs) m) 0
  modTake (fun t => { t with maxDelta := m }) d

/-- R(n) of a shuttered take (R189). -/
def emitResponse (n : Nat) (d : Dev) : Int :=
  tdiv (mget (fun _ => (0 : Int)) d.take.emitSum n) (max 1 d.take.emitN) - mbarOf n d

/-- The means of the measuring slate of block `b`. -/
def measOf (b n : Nat) (d : Dev) : Int := (d.take.meas.getD b []).getD n 0

/-- d_k(n) of ON block `k`, and R(n) (R192). -/
def blockDiff (k n : Nat) (d : Dev) : Int := measOf k n d - tdiv (measOf (k - 1) n d + measOf (k + 1) n d) 2
def blockResponse (n : Nat) (d : Dev) : Int :=
  tdiv ((List.range 8).foldl (fun a i => a + blockDiff (2 * i + 1) n d) 0) 8
def blockMoved (n : Nat) (d : Dev) : Bool :=
  (List.range 8).any (fun i =>
    decide (16 * d.take.lat.step < (measOf (2 * i) n d - measOf (2 * i + 2) n d).natAbs))

/-- F(n) of a drive. -/
def erefOf (dsel n : Nat) (d : Dev) : Nat := (d.take.eref.getD dsel []).getD n 0

/-- An emitter fault of the take at the region's emitter or one of its neighbours. -/
def emitterFault (n : Nat) (d : Dev) : Bool :=
  let i := n % 16
  let j := n / 16
  (List.range 192).any (fun k =>
    flag ⟨EMT_TFLT.addr (k / 32), k % 32, k % 32⟩ d && decide (absDiff (k % 16) i ≤ 1) && decide (absDiff (k / 16) j ≤ 1))

/-- A region is rejected (R189): with F / 4 = 0 a response of 0 is rejected too. DEDUCED, log 28. -/
def regionRejected (n : Nat) (r : Int) (d : Dev) : Bool :=
  let f : Int := erefOf d.take.lat.dsel n d
  !(region n d).ok || decide (f = 0) || decide (r < f / 4) || decide (r ≤ 0) || decide (4 * f < r) || emitterFault n d

/-- Show a response (R200). -/
def showResp (n : Nat) (r : Option Int) (d : Dev) : Dev :=
  let v := match r with
    | none => 0xFFFF
    | some r => (sat r 0 0xFFFE).toNat
  if n % 2 = 0 then setFld (TAKE_RESP.RESP_LO (n / 2)) v d else setFld (TAKE_RESP.RESP_HI (n / 2)) v d

/-- The gain of a region not rejected (R189). -/
def newGain (rg f stepLim : Nat) (r : Int) : Int :=
  let n := tdiv ((rg * f : Nat) + tdiv r 2) r
  let lim : Int := ((rg * stepLim / 1000 : Nat) : Int)
  sat (sat n (rg - lim) (rg + lim)) 13107 20480

/-- The regional part of a take: responses, rejections, gains (R189, R192). -/
def regionalGains (resp : Nat → Int) (moved : Nat → Bool) (d : Dev) : Dev :=
  if flag FPA_STATUS.STRIPE d then modTake (fun t => { t with why := tcSTRIPE }) d
  else
    let rej := (List.range 192).filter (fun n => regionRejected n (resp n) d || moved n)
    let ok := (List.range 192).filter (fun n => !rej.contains n)
    let rg := rgInForce d
    let t := d.take
    let few := decide (rej.length ≤ 96)
    let gains := if few && t.mode != tmDEPOT_REF then
        ok.map (fun n => (n, (newGain (rg.getD n 0) (erefOf t.lat.dsel n d) t.lat.rgStep (resp n)).toNat))
      else []
    d |> forD (List.range 192) (fun n => showResp n (if rej.contains n then none else some (resp n)))
      |> modTake (fun t => { t with rejected := rej, gains := gains, why := if few then t.why else tcNO_EMITTER })
      |> whenD (!rej.isEmpty) (raise 142)

/-- GAIN_SUSPECT marks after the last EMIT slate (R188). -/
def suspectMarks (d : Dev) : Dev :=
  mapEngs (fun _ g => g.wcnt.foldl (fun g x =>
    if x.2 = 3 then { g with wmark := mmod (fun _ => 0) g.wmark x.1 (· + 4) } else g) g) d

/-- Pixels newly marked: for REPLACED, and for GAIN_SUSPECT. -/
def newMarks (d : Dev) : Nat × Nat :=
  d.en.engs.foldl (fun a x => x.2.wmark.foldl (fun a y =>
    (a.1 + b2n (bitN y.2 0 && !cardRepl (card x.2 y.1)), a.2 + b2n (bitN y.2 2 && !cardSusp (card x.2 y.1)))) a) (0, 0)

/-- Blanking slots 4 to 23 of the last EMIT slate (R189, R190). -/
def emitDecisions (d : Dev) : Dev :=
  let d := d |> suspectMarks |> regionalGains (fun n => emitResponse n d) (fun _ => false)
  let n := newMarks d
  let drift := decide (d.take.lat.drift < (snapMean d.en.per.snap - d.take.meanS).natAbs)
  modTake (fun t => { t with
    cause := if t.cause ≠ 0 then t.cause else if drift then tcDRIFT else if 4096 < n.1 + n.2 then tcFLAG_LIMIT else 0 }) d

/-- The means over the measuring slates of a depot take (R195). -/
def depotMean (n : Nat) (d : Dev) : Int := tdiv (mget (fun _ => (0 : Int)) d.take.offSum n) (max 1 d.take.offN)

/-- The settings for which an L holds (R195). -/
def depotSet (d : Dev) : List Nat :=
  [b2n d.fpa.low, fld FPA_STATUS.INT_STEPS d, fld FPA_STATUS.RATE d, b2n (flag FPA_STATUS.STRIPE d)]

/-- DEPOT_HI's gains (R195): `none` where out of range. -/
def depotGain (rg n : Nat) (d : Dev) : Option Nat :=
  let x := depotMean n d - d.take.depL.getD n 0
  if !(region n d).ok || decide (x ≤ 0) then none
  else
    let g := tdiv ((rg * d.take.depD.getD n 0 : Nat) + tdiv x 2) x
    if 13107 ≤ g ∧ g ≤ 20480 then some g.toNat else none

/-- The end of a depot take's measuring slates. -/
def depotDecisions (d : Dev) : Dev :=
  if d.take.cause ≠ 0 then d
  else
    let mean := snapMean d.en.per.snap
    if d.take.mode = tmDEPOT_LO then
      let l := (List.range 192).map (fun n => depotMean n d)
      let set := depotSet d
      let t := modTime d
      d |> modTake (fun x => { x with depL := l, depTime := t, depSet := set, depMean := mean })
        |> setFlag TAKE_DEPOT.LO_VALID true
    else
      let rg := rgInForce d
      let gs := (List.range 192).map (fun n => depotGain (rg.getD n 0) n d)
      let bad := gs.any (·.isNone)
      let drift := decide (64 < (mean - d.take.depMean).natAbs)
      d |> forD (gs.zipIdx) (fun x => showResp x.2 (match x.1 with
            | none => none
            | some _ => some (depotMean x.2 d - d.take.depL.getD x.2 0)))
        |> modTake (fun t => { t with
            cause := if drift then tcDRIFT else if bad then tcDEPOT_REJECT else 0
            gains := if drift || bad then [] else gs.zipIdx.map (fun x => (x.2, x.1.getD 0)) })

/-- Blanking slot 4, after frame close: the take's sums and decisions of the slate. -/
def takeSlateWork (d : Dev) : Dev :=
  if !inTake d || d.take.endNow then d
  else
    let t := d.take
    let p := phase d
    if p = phOFFSET then
      let sums := addMeans t.offSum d
      let d := modTake (fun t => { t with offSum := sums, offN := t.offN + 1 }) d
      if t.left = 1 then trimDecisions d else d
    else if p = phEMIT then
      let skip := t.left == 8 && decide (ownPeriod d < 12000000)
      let sums := addMeans t.emitSum d
      let d := if skip then d else modTake (fun t => { t with emitSum := sums, emitN := t.emitN + 1 }) d
      if t.left = 1 then emitDecisions d else d
    else if p = phBLOCKS then
      if t.inBlock + 1 < t.blockLen then d
      else
        let m := (List.range 192).map (fun n => (region n d).m)
        let d := modTake (fun t => { t with meas := t.meas ++ [m] }) d
        if t.block = 16 ∧ t.cause = 0 then regionalGains (fun n => blockResponse n d) (fun n => blockMoved n d) d else d
    else if p = phDEPOT ∧ t.left ≤ 8 then
      let sums := addMeans t.offSum d
      let d := modTake (fun t => { t with offSum := sums, offN := t.offN + 1 }) d
      if t.left = 1 then depotDecisions d else d
    else d

/-! ### The last slate: commit and restoring (R184, R191, R196) -/

/-- The card of a marked pixel after the take (R191). -/
def markedCard (mark : Nat) (delta : Int) (c : BitVec 64) : BitVec 64 :=
  let c := if bitN mark 1 then setCBits c 11 4 (ux 8 (cardTrim c + delta)) else c
  let c := if bitN mark 0 then setCBits c 1 1 1 else c
  if bitN mark 2 then setCBits c 0 0 1 else c

/-- Counts of a commit: trims changed, pixels newly REPLACED, pixels newly GAIN_SUSPECT. -/
structure TrimCounts where
  trims : Nat := 0
  repl : Nat := 0
  susp : Nat := 0
  deriving DecidableEq, Repr

/-- Write the marked cards of an engine. -/
def writeMarks (g : Eng) (n : TrimCounts) : Eng × TrimCounts :=
  g.wmark.foldl (fun x m =>
    let c := card x.1 m.1
    let c' := markedCard m.2 (mget (fun _ => (0 : Int)) x.1.wdelta m.1) c
    if c' = c then x
    else (putCard m.1 c' x.1,
      { trims := x.2.trims + b2n (cardTrim c' != cardTrim c)
        repl := x.2.repl + b2n (cardRepl c' && !cardRepl c)
        susp := x.2.susp + b2n (cardSusp c' && !cardSusp c) })) (g, n)

/-- Step 1 of the take commit: every engine that is not FAULTED writes its marked cards. -/
def commitCards (d : Dev) : Dev × TrimCounts :=
  d.en.engs.foldl (fun x y =>
    if engState y.1 x.1 = enFAULT then x
    else
      let z := writeMarks (engOf y.1 x.1) x.2
      (modEng y.1 (fun _ => z.1) x.1, z.2)) (d, {})

/-- The radiometric table that the coming slate needs: 0 none, 1 high, 2 low. Where a staged change of the gain applies at the
boundary that ends the take, it is the coming gain's; R203 does not name this case. DESIGN CHOICE, log 67. -/
def comingTag (d : Dev) : Nat :=
  if comingLow d then (if d.en.radLow.isSome then 2 else 0) else if d.en.radHigh.isSome then 1 else 0

/-- Step 2: the work area is restored (R184); a table that the engines did not hold before restarts the rise windows (R209). -/
def restoreWork (d : Dev) : Dev :=
  let tag := comingTag d
  let tab := (if tag = 2 then d.en.radLow else if tag = 1 then d.en.radHigh else none).map halfBytes
  let d' := mapEngs (fun e g =>
    if engState e d = enFAULT then { g with wsum := [], wmark := [], wdelta := [], wcnt := [] }
    else
      let g := match tab with
        | some t => setBytes 0 t g
        | none => g
      let g := setBytes 0x2000 (List.replicate 0xC00 0) { g with wsum := [], wmark := [], wdelta := [], wcnt := [] }
      reloadThr e d ((List.range 256).foldl (fun g k => clearRec k g) g)) d
  let new := tag != d.en.radNext || (d.cw.rtDirty && tag != 0)
  { d' with en := { d'.en with radNext := tag } }
    |> modCw (fun c => { c with rtDirty := false, rvAll := c.rvAll || new })

/-- Step 3: the new gains are written to the staged table, which sets RG_DIRTY; a staged table that differs so, by the
take or by the host, is copied whole, to be in force from the next slate (R155). -/
def stageGains (d : Dev) : Dev :=
  let d := d |> forD d.take.gains (fun x d =>
      if x.1 % 2 = 0 then setFld (CAL_RGAIN.ENTRY_LO (x.1 / 2)) x.2 d else setFld (CAL_RGAIN.ENTRY_HI (x.1 / 2)) x.2 d)
    |> whenD (!d.take.gains.isEmpty) (setFlag CAL_STATUS.RG_DIRTY true)
  { d with cal := { d.cal with rgFrozen := d.cal.rgFrozen || flag CAL_STATUS.RG_DIRTY d } }

/-- Step 4: every SCENE entry is discarded and counted, with one NOTE for the whole commit (06_calibration_cards.md R164). -/
def discardScene (d : Dev) : Dev :=
  let l := (d.en.engs.map (fun x => sceneCount x.2)).filter (fun n => decide (0 < n))
  let n := l.foldl (· + ·) 0
  if l.isEmpty then d
  else
    d |> addFldSat CAL_DISCARD.DISCARDED n |> raise 131 |> note 131 [0xFFFFFFFF, 0, n, l.length]
      |> mapEngs (fun _ g => { g with ledger := g.ledger.filter (fun y => !y.scene) })

/-- A committed DEPOT_REF takes R(n), where it has a value of 16 bits, as F(n), and asks for the field reference record;
in stripe mode, which forms no R(n), F(n) stands (R196). DEDUCED, log 28. -/
def depotRef (d : Dev) : Dev :=
  if d.take.mode ≠ tmDEPOT_REF then d
  else
    let k := d.take.lat.dsel
    let table := rgInForce d
    let time := modTime d
    let stripe := flag FPA_STATUS.STRIPE d
    let f := (List.range 192).map (fun n =>
      let r := emitResponse n d
      if !stripe ∧ (region n d).ok ∧ 0 ≤ r ∧ r < 65536 then r.toNat else erefOf k n d)
    d |> modTake (fun t => { t with
          eref := (List.range 4).map (fun i => if i = k then f else t.eref.getD i [])
          erefField := if !stripe ∧ bitN t.erefField k then t.erefField - 2 ^ k else t.erefField })
      |> modNvc (fun c => { c with
          refNext := c.refNext ++ [(c.count, { f := f, k := k, table := table, time := time })], count := c.count + 1 })
      |> refStart |> nvsNext

/-- The commit writes a card: a pixel whose sum is not -512 is marked, be it for the trim that it has, and written by an
engine that is not FAULTED (R187, R191). -/
def writesCards (d : Dev) : Bool :=
  takeWork d && allEngs.any (fun e => engState e d != enFAULT &&
    decide (((engOf e d).wsum.filter (fun x => x.2 == -512)).length < 12288))

/-- Blanking slots 4 to 31 of the take's last slate (R184, R191). DESIGN CHOICE, log 18. -/
def takeLastWork (d : Dev) : Dev :=
  if d.take.worked then d
  else
    let d := modTake (fun t => { t with worked := true }) d
    let work := takeWork d
    if d.take.cause ≠ 0 then whenD work restoreWork d
    else
      let x := commitCards d
      let gains := d.take.gains
      let made := writesCards d || !gains.isEmpty
      let d := x.1
      let d := modTake (fun t => { t with
        committed := made, trimChanged := x.2.trims, newRepl := x.2.repl, newSusp := x.2.susp }) d
      let d := whenD made depotRef d
      let d := whenD work restoreWork d
      if !made then d
      else
        d |> stageGains |> discardScene
          |> whenD (x.2.repl + x.2.susp != 0) (raise 141)
          |> whenD (d.take.mode == tmDEPOT_HI) (fun d => d |> setFlag TAKE_DEPOT.GAINS true |> countUp 14)

/-! ### The end of a take (R190, R197 to R199) -/

/-- The take has ended; `last` is its last slate. The TAKE bit of the state word is left to the change of the word that
follows (10_events_errors.md R263). -/
def takeFinish (last : Nat) (d : Dev) : Dev :=
  let d := takeLastWork d
  let t := d.take
  let snap := snapshot d
  let outcome := if t.cause ≠ 0 then toABANDONED else if t.mode = tmDEPOT_LO then toRECORDED
    else if t.committed then toCOMMITTED else toEMPTY
  let cause := if t.cause ≠ 0 then t.cause else t.why
  let gains := if t.cause ≠ 0 then [] else t.gains.map (·.2)
  let lo := match gains with | [] => 0 | x :: r => r.foldl min x
  let hi := gains.foldl max 0
  let faults := ((List.range 192).filter (fun n => flag ⟨EMT_TFLT.addr (n / 32), n % 32, n % 32⟩ d)).length
  let seq := t.seq + 1
  let d := d |> whenD (outcome == toCOMMITTED) (fun d => d |> countUp 8 |> addFldSat TAKE_COUNT.COMMITTED 1)
    |> whenD (outcome == toABANDONED) (addFldSat TAKE_COUNT.ABANDONED 1)
  let counter := if outcome = toCOMMITTED then
      countTotal 8 d else 0
  d |> takeRecord (seq % 2 ^ 32) t.s last outcome cause t.mode t.trigger t.lat.dsel t.slates t.meanS (snapMean snap)
        [t.trimChanged, t.newRepl, t.newSusp, gains.length * 2 ^ 24 + t.rejected.length * 2 ^ 16 + lo,
         hi * 2 ^ 16 + faults, min 0xFFFF t.maxSpread * 2 ^ 16 + min 255 t.maxDelta * 2 ^ 8, counter]
    |> setTakeLast outcome cause t.mode t.trigger t.s
    |> raise (if outcome = toABANDONED then 138 else 137)
    |> whenD (decide (tmDEPOT_LO ≤ t.mode)) (raise 143)
    |> setFld TAKE_STATUS.PHASE phNONE |> setFld TAKE_STATUS.MODE 0 |> setFld TAKE_STATUS.ELAPSED 0
    |> holdStart
    |> modTake (fun t => { t with
        seq := seq, sinceEnd := 0, mapRef := snap, due := false, endNow := false, shReq := 0, offSum := [], emitSum := []
        meas := [] })
    |> whenD (herdTakes d) (fun d =>
        let no := d.sl.no
        modHerd (fun h => { h with done := some (no, outcome == toABANDONED) }) d)

/-- A take that has ended at this boundary leaves the TAKE sub-state, where no change of STATE has done so. -/
def takeClear (d : Dev) : Dev := if inTake d && phase d == phNONE then setTake false d else d

/-- SAFE abandons the take (R190): a SHUTTERED or DEPOT_REF take at once, with its work area restored, any other at the
boundary of the slate; a take accepted and not begun is superseded. -/
def takeAbandonState (d : Dev) : Dev :=
  let d := modTake (fun t => { t with liveOpen := false, due := false }) (takeSupersede d)
  if !inTake d then d
  else
    let d := if d.take.worked then d else modTake (fun t => { t with cause := if t.cause = 0 then tcSTATE else t.cause }) d
    if takeWork d then takeFinish d.sl.no d else modTake (fun t => { t with ending := true }) d

/-- The take's part of a slate boundary before the state transitions: `last` is the slate that has ended, `why` the
cause with which a transition out of LIVE at this boundary abandons the take, 0 for none (R35, R180, R190). DESIGN CHOICE, log 18. -/
def takeBoundary (last why : Nat) (d : Dev) : Dev :=
  let d := if d.take.liveOpen && d.take.liveEnded then modTake (fun t => { t with liveOpen := false }) d else d
  let d := modTake (fun t => { t with sinceEnd := min 65535 (t.sinceEnd + 1) }) d
  bulkTakeEnd <| if d.take.ending then d |> modTake (fun t => { t with ending := false }) |> takeFinish last
  else if !inTake d then d
  else if takeLast d then takeFinish last d
  else if why ≠ 0 then
    d |> modTake (fun t => { t with cause := if t.cause = 0 then why else t.cause }) |> takeFinish last
  else takeAdvance d

/-- A take accepted begins at this boundary if its start slate has come and the module is still in LIVE (R178). -/
def takeBegin (d : Dev) : Dev :=
  match d.take.next with
  | none => d
  | some n =>
    if !isLive d then takeSupersede d
    else if herdTakes d && !slateReached n.s d then d
    else takeStart n d

/-! ### Scene-trim gates (R193) and depot age (R195) -/

/-- A write of TAKE_STGATE_n restarts LIFE. DEDUCED, log 28. -/
def stgateWritten (d : Dev) : Dev :=
  d |> modTake (fun t => { t with gateAge := some 0 }) |> setFlag TAKE_STATUS.GATE_LIVE false

/-- The slate is one of the LIFE slates. -/
def gateLive (d : Dev) : Bool :=
  match d.take.gateAge with
  | none => false
  | some a => decide (1 ≤ a) && decide (a ≤ tkFld TAKE_ST_LIFE.LIFE d)

/-- The age of the motion bits advances at a slate boundary. -/
def gateBoundary (d : Dev) : Dev :=
  let d := modTake (fun t => { t with gateAge := t.gateAge.map (· + 1) }) d
  setFlag TAKE_STATUS.GATE_LIVE (gateLive d) d

/-- The motion bits lapse. -/
def gateExpiry (d : Dev) : Dev :=
  match d.take.gateAge with
  | none => d
  | some a =>
    if a ≤ tkFld TAKE_ST_LIFE.LIFE d then d
    else d |> modTake (fun t => { t with gateAge := none }) |> setFlag TAKE_STATUS.GATE_LIVE false

/-- The gate bits of the new slate. -/
def gateBits (d : Dev) : Nat :=
  let div := tkFld TAKE_ST.DIV d
  if !(isLive d && !inTake d && decide (tkFld TAKE_ST.HOLDOFF d ≤ d.take.sinceEnd) && gateLive d &&
      decide (d.sl.no % 2 ^ 32 % div = 0)) then 0
  else bitsOf ((List.range 192).filter (fun n =>
    let r := region n d
    flag ⟨TAKE_STGATE.addr (n / 32), n % 32, n % 32⟩ d &&
      decide ((r.m - r.mPrev).natAbs ≤ 16 * tkFld TAKE_ST.STEP d)))

/-- L becomes invalid after 1,800 s, and where a setting it holds for changes. -/
def depotExpiry (d : Dev) : Dev := setFlag TAKE_DEPOT.LO_VALID false d
def depotBoundary (d : Dev) : Dev :=
  if flag TAKE_DEPOT.LO_VALID d && depotSet d != d.take.depSet then depotExpiry d else d

/-- LO_AGE as it reads. -/
def depotAge (d : Dev) : Nat :=
  if d.take.depL.isEmpty then 0 else min 0xFFFF ((modTime d - d.take.depTime) / 1000000000)

/-- TAKE_EREF_n as it reads, and TAKE_EMIT.FIELD. -/
def erefView (n : Nat) (d : Dev) : Nat :=
  let k := dselInForce d
  erefOf k (2 * n) d % 65536 + 65536 * (erefOf k (2 * n + 1) d % 65536)
def erefFieldView (d : Dev) : Bool := bitN d.take.erefField (dselInForce d)

/-- The field reference record has been written, or not (R196). -/
def depotRefDone (k : Nat) (ok : Bool) (d : Dev) : Dev :=
  if ok then d |> setFlag TAKE_DEPOT.REF true |> modTake (fun t => { t with erefField := t.erefField ||| 2 ^ k })
  else
    let d := setFlag TAKE_DEPOT.REF false d
    if inTake d && d.take.mode == tmDEPOT_REF then modTake (fun t => { t with why := tcREF_WRITE }) d
    else whenD (fld TAKE_LAST.MODE d == tmDEPOT_REF) (setFld TAKE_LAST.CAUSE tcREF_WRITE) d

end Sys2Proof.Machine
end

