-- ==== Sys2Proof/Machine/Herd.lean ====
section
/-! DEFINITION. The herd: CLAPPER, elections, following, lane messages and the leader's schedule
(03_slate_and_herd.md R83 to R93). -/

namespace Sys2Proof.Machine

/-! ### CLAPPER and elections (R83 to R85) -/

/-- The module takes part in elections (R84). -/
def participates (d : Dev) : Bool := herdOn d && served d && !flag FPA_STATUS.STRIPE d && !flag HERD_STATUS.DUP d

/-- An election starts: a participant drives its bits. -/
def electionStart (d : Dev) : Dev :=
  let p := participates d
  d |> modHerd (fun h => { h with elect := some { cell := 0, stays := p, won := 0 } }) |> setFlag HERD_STATUS.ELECTING true

/-- A slate edge on CLAPPER: a follower uses the edges of the leader's slates whose number its k divides (R86). -/
def clapperSlate (t : Nat) (d : Dev) : Dev :=
  let n := d.herd.number.map (fun n => (n + 1) % 2 ^ 48)
  let d := modHerd (fun h => { h with number := n }) d
  let mine := match followK d, n with
    | none, _ => false
    | some k, some n => n % k == 0
    | some k, none => k == 1
  if edgeSource d == 2 && mine then edgeArrives t d else edgeTime t d

/-- A low period of CLAPPER of `ns` nanoseconds, begun `t` ticks after the start of the row slot (R83). In an election only
the slate edges are ignored (R85); its own bit cells are another command. -/
def clapperLow (ns t : Nat) (d : Dev) : Dev :=
  if !herdOn d || !d.sl.running then d
  else if ns < 250 then edgeTime t d
  else if 20000 ≤ ns then (if d.herd.elect.isSome then edgeTime t d else electionStart (edgeTime t d))
  else if 4000 ≤ ns then d |> edgeTime t |> addFldSat SLATE_EDGE_CNT.INVALID 1
  else if d.herd.elect.isSome || isLeader d then edgeTime t d
  else clapperSlate t d

/-- The cases of R85 in which a participant starts an election. -/
def electionCase (d : Dev) : Bool :=
  let lower := match d.herd.leader with
    | none => decide (3 ≤ d.herd.listen)
    | some p => decide (posOf d < p)
  !isLeader d && (lower || decide (3 ≤ fld SLATE_STATUS.MISSES d))

/-- The election start pulse. -/
def electionInitiate (d : Dev) : Dev :=
  if participates d && d.herd.elect.isNone && electionCase d then d |> emitOut (.clapper 40) |> electionStart else d

/-- A bit cell: `low` says that another participant drives the line low in it. -/
def electionCell (low : Bool) (d : Dev) : Dev :=
  match d.herd.elect with
  | none => d
  | some e =>
    if 4 ≤ e.cell then d
    else
      let bit := bitN (posOf d) (3 - e.cell)
      let drive := e.stays && !bit
      let line := drive || low
      let e' : Election := { cell := e.cell + 1, stays := e.stays && !(bit && line)
                             won := e.won + (if line then 0 else 2 ^ (3 - e.cell)) }
      d |> whenD drive (emitOut (.clapper 18)) |> modHerd (fun h => { h with elect := some e' })

/-- RATE_MISMATCH is set or cleared; source 22 (R86, R91). -/
def setMismatch (b : Bool) (d : Dev) : Dev :=
  if flag HERD_STATUS.RATE_MISMATCH d = b then d else d |> setFlag HERD_STATUS.RATE_MISMATCH b |> raise 22

/-- A module that takes no part any more drives no bit of an election under way (R84, R85). -/
def electionQuit (d : Dev) : Dev :=
  modHerd (fun h => { h with elect := h.elect.map (fun e => { e with stays := false }) }) d

/-- A member follows, unlocked (R85 step 5). -/
def followUnlocked (d : Dev) : Dev := whenD (d.sl.running && isFollower d) sourceTaken d

/-- The election ends: the participant that is left leads, with BLIND from the TAKE flags of the roster (R85, R89). -/
def electionEnd (d : Dev) : Dev :=
  match d.herd.elect with
  | none => d
  | some e =>
    if e.cell < 4 then d
    else
      let lead := e.stays
      let part := participates d
      let d := d |> modHerd (fun h => { h with elect := none }) |> setFlag HERD_STATUS.ELECTING false
        |> setFld SLATE_STATUS.MISSES 0 |> raise 20
      if lead then
        let p := posOf d
        let no := d.sl.no
        let mine := if inTake d || d.take.next.isSome then [(p, no)] else []
        d |> withSource (fun d => d |> setFld HERD_STATUS.ROLE 2 |> setFld HERD_STATUS.LEADER_POS p |> setMismatch false)
          |> modHerd (fun h => { h with
              leader := some p, queue := [], schedAge := 0
              blind := mine ++ (h.members.filter (fun m => m.2.taking)).map (fun m => (m.1, no)) })
      else
        let w := if part then some e.won else none
        d |> whenD (isLeader d) (setFld HERD_STATUS.ROLE 1)
          |> whenD part (setFld HERD_STATUS.LEADER_POS e.won)
          |> modHerd (fun h => { h with leader := w, blind := [], queue := [], number := none })
          |> followUnlocked

/-! ### Lane messages (R87, R88) -/

/-- A message from `origin` goes on to the next member: all but the module's own come round, which a module with DUP set
does not tell from its twin's (R88). -/
def laneForwards (origin : Nat) (d : Dev) : Bool := origin != posOf d || flag HERD_STATUS.DUP d

/-- A message arrives: it is forwarded unless it is the module's own come round, and acted on if it is addressed here. -/
def laneReceive (m : HerdMsg) (act : Dev → Dev) (d : Dev) : Dev :=
  if !herdOn d || !mainRuns d then d
  else
    let own := m.origin == posOf d
    let d := whenD (laneForwards m.origin d) (emitOut (.herd m)) d
    if !own && (m.bcast || m.dest == posOf d) then act d else d

/-- HERD_ROSTER follows the roster and this module. DEDUCED, log 27. -/
def rosterRegs (d : Dev) : Dev :=
  let me := if herdOn d then [posOf d] else []
  let present := me ++ d.herd.members.map (·.1)
  let taking := (if herdOn d && inTake d then [posOf d] else []) ++
    (d.herd.members.filter (fun m => m.2.taking)).map (·.1)
  d |> setFld HERD_ROSTER.PRESENT (bitsOf present) |> setFld HERD_ROSTER.TAKING (bitsOf taking)

/-- DUP is set (R84). -/
def setDup (d : Dev) : Dev :=
  if flag HERD_STATUS.DUP d then d
  else d |> electionQuit |> withSource (fun d => d |> setFlag HERD_STATUS.DUP true |> setFld HERD_STATUS.ROLE 3) |> raise 21

/-- The identity serial number. -/
def serialNo (d : Dev) : Nat := pair64 GLB_SERIAL_LO.addr GLB_SERIAL_HI.addr d

/-- A ROSTER message from position `p`. -/
def rosterHeard (p hid : Nat) (taking : Bool) (period : Nat) (d : Dev) : Dev :=
  let d := whenD (hid != hcFld HERD_CFG.HERD_ID d) setDup d
  d |> modHerd (fun h => { h with members := mput h.members p { age := 0, taking := taking, period := period } })
    |> rosterRegs

/-- A ROSTER message with the module's own position: another module of a higher serial number, or one of another herd, sets
DUP (R82, R84). -/
def rosterOwn (hid serial : Nat) (d : Dev) : Dev :=
  if herdOn d && (decide (serialNo d < serial) || hid != hcFld HERD_CFG.HERD_ID d) then setDup d else d

/-- SLATE_INFO from the leader: its number, its SLATE_START and BLIND (R78, R84, R88). DEDUCED, log 26 and 27. -/
def slateInfo (p no start blind : Nat) (d : Dev) : Dev :=
  let yields := isLeader d && decide (p < posOf d)
  if isLeader d && !yields then d
  else
    let d := whenD yields (withSource (setFld HERD_STATUS.ROLE 1)) d
    let d := d |> modHerd (fun h => { h with leader := some p, number := some no })
      |> setFld HERD_STATUS.LEADER_POS p |> setFld HERD_STATUS.BLIND blind
    let k := (followK d).getD 1
    let mine := no - no % k
    let locked := isFollower d && fld SLATE_STATUS.LOCK d == 1 && fld SLATE_STATUS.TIMED_BY d == 2
    let d := if locked && d.sl.no != mine then
        { d with sl := { d.sl with no := mine } } |> note 16 [SLATE_NO_LO.addr, mine % 2 ^ 32]
      else d
    if locked && hcFld HERD_CFG.TIME_FOLLOW d == 1 && no == mine then
      let diff := sx 64 (start + 2 ^ 64 - d.sl.start % 2 ^ 64)
      d |> modHerd (fun h => { h with step := diff })
        |> whenD (decide (1000000 < diff.natAbs)) (note 16 [SLATE_START_LO.addr, ux 32 diff])
    else d

/-- The leader takes a request of position `p` and answers it (R89). -/
def takeReq (p : Nat) (auto : Bool) (d : Dev) : Dev :=
  if !isLeader d then d
  else
    let x := leaderServe p auto d
    sendAnswer p x.1 x.2

/-- Queued requests are granted while BLIND allows, in arrival order (R89). DEDUCED, log 27. -/
def serveQueue : Nat → Dev → Dev
  | 0, d => d
  | n + 1, d =>
    match d.herd.queue with
    | [] => d
    | (p, _) :: rest =>
      if !isLeader d || !blindAllows d then d
      else
        let d := modHerd (fun h => { h with queue := rest }) d
        match memberK p d with
        | none => serveQueue n (if p = posOf d then takeDenied d else sendAnswer p (.deny hdEXCLUDED) d)
        | some k =>
          let x := leaderGrant p k d
          serveQueue n (if p = posOf d then takeGranted x.1 x.2 else sendAnswer p (.grant x.1) x.2)

/-- A take of position `p` has ended (R89). -/
def takeDone (p : Nat) (d : Dev) : Dev :=
  if !isLeader d then d
  else d |> modHerd (fun h => { h with blind := h.blind.filter (·.1 != p) }) |> serveQueue 16

/-- A queued request has waited HERD_TAKE.WAIT leader slates: the first of them is denied (R89). DEDUCED, log 26. -/
def waitExpired (d : Dev) : Dev :=
  let w := fld HERD_TAKE.WAIT d
  match d.herd.queue.find? (fun x => decide (w ≤ x.2)) with
  | none => d
  | some (p, _) =>
    if !isLeader d then d
    else
      let d := d |> modHerd (fun h => { h with queue := h.queue.filter (·.1 != p) }) |> note 16 [p, hdWAIT_EXPIRED]
      if p = posOf d then takeDenied d else sendAnswer p (.deny hdWAIT_EXPIRED) d

/-- Positions present, the module's own among them, in ascending order. -/
def presentPos (d : Dev) : List Nat := (List.range 16).filter (fun p => p == posOf d || (member p d).isSome)

/-- The herd schedule's next grant, once SCHED_PERIOD slates have passed since the one before; one that BLIND does not allow
is skipped, and the same position stays next in turn (R89). DESIGN CHOICE, log 52, for the turn after a skip. -/
def scheduleGrant (d : Dev) : Dev :=
  let p := fld HERD_TAKE.SCHED_PERIOD d
  if !isLeader d || p = 0 || decide (d.herd.schedAge < p) then d
  else
  let d := modHerd (fun h => { h with schedAge := 0 }) d
  if !blindAllows d then d
  else
    let l := presentPos d
    let p := (l.find? (fun p => decide (d.herd.sched < p))).getD (l.headD 0)
    let d := modHerd (fun h => { h with sched := p }) d
    match memberK p d with
    | none => d
    | some k =>
      let x := leaderGrant p k d
      if p = posOf d then takeGranted x.1 x.2 else sendAnswer p (.grant x.1) x.2

/-- A request unanswered for 4 own slates is treated as denied; the leader's own waits in its queue (R89). -/
def reqTimeout (d : Dev) : Dev :=
  match d.herd.req with
  | none => d
  | some r => if 4 ≤ r.age && !(isLeader d && d.herd.queue.any (·.1 == posOf d)) then takeDenied d else d

/-- Members unheard for 8 own slates leave the roster (R88). -/
def rosterTimeout (d : Dev) : Dev :=
  d |> modHerd (fun h => { h with members := h.members.filter (fun m => decide (m.2.age < 8)) }) |> rosterRegs

/-- A SEAM message is stored (R90). -/
def seamStore (p slate l r t b : Nat) (d : Dev) : Dev :=
  d |> setFld (HERD_SEAM0.LEFT p) l |> setFld (HERD_SEAM0.RIGHT p) r |> setFld (HERD_SEAM1.TOP p) t
    |> setFld (HERD_SEAM1.BOTTOM p) b |> setFld (HERD_SEAM2.SLATE p) slate

/-- A message that is none of R88's types, as its 24 bytes: dropped and counted with a bad CRC, and forwarded unchanged
where its CRC is good and its type reserved (R87, R88, R91). -/
def laneOther (w : List (BitVec 8)) (d : Dev) : Dev :=
  if !mainRuns d || !herdOn d then d
  else if laneCrcOk w then
    (if decide (1 ≤ laneType w) && decide (laneType w ≤ 7) then d
     else whenD (laneForwards (laneOrigin w) d) (emitOut (.herdRaw (w.take 24))) d)
  else
    let n := d.herd.crcs + 1
    d |> addFldSat HERD_LANE_ERR.CRC 1 |> modHerd (fun h => { h with crcs := n }) |> whenD (n == 16) (raise 23)

/-- Signal is lost on HERD_IN±, or returns (R88, R91). -/
def laneLoss (d : Dev) : Dev :=
  if !mainRuns d || !flag HERD_STATUS.LANE_UP d then d
  else d |> setFlag HERD_STATUS.LANE_UP false |> addFldSat HERD_LANE_ERR.LOS 1 |> raise 23
def laneUp (d : Dev) : Dev :=
  if !mainRuns d || flag HERD_STATUS.LANE_UP d then d else d |> setFlag HERD_STATUS.LANE_UP true |> raise 23

/-! ### What a member sends (R88, R90) -/

/-- Slot 8: the leader's SLATE_INFO. -/
def sendSlateInfo (d : Dev) : Dev :=
  if !isLeader d then d
  else d |> setFld HERD_STATUS.BLIND (blindCount d)
    |> herdSend hmSLATE_INFO 0 true [d.sl.no, d.sl.start, blindCount d]

/-- Slot 16: ROSTER. -/
def sendRoster (d : Dev) : Dev :=
  herdSend hmROSTER 0 true [hcFld HERD_CFG.HERD_ID d, mstate d, b2n (inTake d), ticksInForce d, nslots d,
    b2n (flag FPA_STATUS.STRIPE d), serialNo d] d

/-- The mean of a strip, or 0xFFFF. -/
def seamMean (x : Nat × Nat) : Nat := if x.2 = 0 then 0xFFFF else x.1 / x.2

/-- The seam means of a slate that has ended are formed and stored (R90). -/
def formSeam (slate : Nat) (d : Dev) : Dev :=
  if hcFld HERD_CFG.SEAM_EN d = 0 then d
  else
    let m (i : Nat) : Nat := seamMean (d.en.pack.seam.getD i (0, 0))
    d |> modHerd (fun h => { h with seamNo := slate }) |> seamStore (posOf d) slate (m 0) (m 1) (m 2) (m 3)

/-- Slot 24: SEAM, in a slate in which the array is read. DESIGN CHOICE, log 52. -/
def sendSeam (d : Dev) : Dev :=
  if hcFld HERD_CFG.SEAM_EN d = 0 || !isLive d then d
  else
    let p := posOf d
    herdSend hmSEAM 0 true [d.herd.seamNo, fld (HERD_SEAM0.LEFT p) d, fld (HERD_SEAM0.RIGHT p) d,
      fld (HERD_SEAM1.TOP p) d, fld (HERD_SEAM1.BOTTOM p) d] d

/-! ### The slate boundary (R86, R89, R93) -/

/-- The module is no member any more (R93): a take in progress or granted still owes its leader a TAKE_DONE. -/
def herdLeave (d : Dev) : Dev :=
  let owed := if isFollower d && (inTake d || d.take.next.isSome || d.herd.done.isSome) then d.herd.leader else none
  d |> takeDenied
    |> modHerd (fun h => { h with leader := none, number := none, members := [], blind := [], queue := [], elect := none
                                  step := 0, doneTo := owed, cfg := h.cfg &&& ~~~1#32 })
    |> withSource (fun d => d |> setFld HERD_STATUS.ROLE 0 |> setMismatch false)
    |> setFlag HERD_STATUS.ELECTING false |> setFld HERD_STATUS.LEADER_POS 0 |> setFld HERD_STATUS.BLIND 0 |> rosterRegs

/-- ENABLE is written 0: a module that follows is no member at once (R93). -/
def herdCfgWritten (d : Dev) : Dev :=
  whenD (herdOn d && isFollower d && !flag HERD_CFG.ENABLE d) herdLeave d

/-- HERD_CFG comes into force: joining and leaving (R85, R93). -/
def herdCfg (d : Dev) : Dev :=
  let was := herdOn d
  let w := rdReg HERD_CFG.addr d
  let d := modHerd (fun h => { h with cfg := w }) d
  let on := herdOn d
  if was = on then d
  else if on then
    d |> modHerd (fun h => { h with listen := 0, leader := none, number := none, members := [] })
      |> withSource (setFld HERD_STATUS.ROLE (if flag HERD_STATUS.DUP d then 3 else 1)) |> rosterRegs
  else herdLeave d

/-- RATE_MISMATCH, and the timing that follows from it for the new slate (R86). -/
def rateCheck (d : Dev) : Dev := withSource (setMismatch (isFollower d && (followK d).isNone)) d

/-- A module that takes no part in elections never drives CLAPPER (R84, R85): a leader of that kind follows from here on, and
the others elect. DEDUCED, log 27. -/
def leaderResign (d : Dev) : Dev :=
  if participates d then d
  else d |> electionQuit |> whenD (isLeader d) (fun d => d |> setFld HERD_STATUS.ROLE 1 |> followUnlocked
    |> modHerd (fun h => { h with leader := none, blind := [], queue := [], number := none }))

/-- TAKE_DONE falls due: sent to the leader, or taken by it (R88, R89). -/
def doneSend (d : Dev) : Dev :=
  match d.herd.done with
  | none => d
  | some (s, a) =>
    if !slateReached s d then d
    else
      let owed := d.herd.doneTo
      let d := modHerd (fun h => { h with done := none, doneTo := none }) d
      if isLeader d then takeDone (posOf d) d
      else match owed, d.herd.leader with
        | some p, _ => if flag HERD_STATUS.LANE_UP d then laneSend hmTAKE_DONE p false [b2n a] d else d
        | none, some p => herdSend hmTAKE_DONE p false [b2n a] d
        | none, none => d

/-- A slate of `len` ticks has ended: a member grows older in slates of its own, whose period its ROSTER gives (R88). DEDUCED, log 27. -/
def Member.older (len : Nat) (m : Member) : Member :=
  let n := m.part + len
  { m with age := min 255 (m.age + if m.period = 0 then 1 else n / m.period)
           part := if m.period = 0 then 0 else n % m.period }

/-- Ages of what the herd waits for, in own slates but for the members. -/
def herdAges (len : Nat) (d : Dev) : Dev :=
  modHerd (fun h => { h with
    crcs := 0, listen := min 3 (h.listen + 1), step := 0, schedAge := h.schedAge + 1
    queue := h.queue.map (fun x => (x.1, x.2 + 1))
    members := h.members.map (fun m => (m.1, m.2.older len))
    req := h.req.map (fun r => { r with age := r.age + 1 }) }) d

/-- How far a follower's slate number goes on, and the step that TIME_FOLLOW applies. -/
def herdStride (d : Dev) : Nat := (followK d).getD 1
/-- DEDUCED, log 26. -/
def herdTimeStep (d : Dev) : Int := if isFollower d then d.herd.step else 0

/-- The herd's part of the boundary that ends a slate of `len` ticks; the leader drives the edge (R83). -/
def herdBoundary (len : Nat) (d : Dev) : Dev :=
  let d := d |> whenD (herdOn d) (herdAges len) |> herdCfg
  if !herdOn d then doneSend d
  else
    let d := leaderResign d
    d |> whenD (isLeader d) (emitOut (.clapper 1)) |> rateCheck |> rosterRegs |> doneSend |> serveQueue 16

end Sys2Proof.Machine
end

