-- ==== Sys2Proof/Machine/Crypto.lean ====
section
/-! DEFINITION. The algorithms that 17_flash_and_boot.md R409 names for the verification of a firmware slot: SHA-256, and
ECDSA over the curve P-256, as FIPS 180-4 and FIPS 186-4 give them. PRESUMED, log 58. -/

namespace Sys2Proof.Machine

/-- A number of bytes, the first the most significant. -/
def beNat (bs : List (BitVec 8)) : Nat := bs.foldl (fun n b => 256 * n + b.toNat) 0

/-! ### SHA-256 -/

/-- The largest number whose n-th power is at most `v`, below 2 ^ 40. -/
def rootFloor (n v : Nat) : Nat := (List.range 40).foldr (fun k x => if (x + 2 ^ k) ^ n ≤ v then x + 2 ^ k else x) 0

/-- The first 64 primes. -/
def primes64 : List Nat := (List.range 312).filter (fun p => decide (2 ≤ p) && (List.range p).all (fun d => d < 2 || p % d != 0))

/-- The first 32 bits of the fractional parts of the square roots of the first eight primes, and of the cube roots of all. -/
def shaStart : List (BitVec 32) := (primes64.take 8).map (fun p => BitVec.ofNat 32 (rootFloor 2 (p * 2 ^ 64)))
def shaConst : List (BitVec 32) := primes64.map (fun p => BitVec.ofNat 32 (rootFloor 3 (p * 2 ^ 96)))

/-- The exclusive or of a word turned right by two counts and turned or shifted right by a third. -/
def shaMix (x : BitVec 32) (i j k : Nat) (shift : Bool) : BitVec 32 :=
  x.rotateRight i ^^^ x.rotateRight j ^^^ (if shift then x >>> k else x.rotateRight k)

/-- The 48 words that follow the 16 of a block. -/
def shaExtend (w : List (BitVec 32)) : List (BitVec 32) :=
  (List.range 48).foldl (fun l k =>
    let x (i : Nat) : BitVec 32 := l.getD (k + i) 0
    l ++ [shaMix (x 14) 17 19 10 true + x 9 + shaMix (x 1) 7 18 3 true + x 0]) w

/-- One round on the eight working words. -/
def shaRound (h : List (BitVec 32)) (kw : BitVec 32) : List (BitVec 32) :=
  match h with
  | [a, b, c, d, e, f, g, x] =>
    let t := x + shaMix e 6 11 25 false + ((e &&& f) ^^^ (~~~e &&& g)) + kw
    let u := shaMix a 2 13 22 false + ((a &&& b) ^^^ (a &&& c) ^^^ (b &&& c))
    [t + u, a, b, c, d + t, e, f, g]
  | _ => h

/-- The hash value after a block of 64 bytes. -/
def shaBlock (h : List (BitVec 32)) (block : List (BitVec 8)) : List (BitVec 32) :=
  let w := (List.range 16).map (fun k => BitVec.ofNat 32 (beNat ((block.drop (4 * k)).take 4)))
  List.zipWith (· + ·) h ((List.zipWith (· + ·) shaConst (shaExtend w)).foldl shaRound h)

/-- A message with its padding: a one bit, zeros, and its length in bits. -/
def shaPadded (m : List (BitVec 8)) : List (BitVec 8) :=
  m ++ [0x80#8] ++ List.replicate ((119 - m.length % 64) % 64) 0#8 ++
    ((List.range 8).reverse.map (fun k => BitVec.ofNat 8 (8 * m.length / 256 ^ k)))

/-- SHA-256 of a message, as a number. -/
def sha256 (m : List (BitVec 8)) : Nat :=
  let p := shaPadded m
  ((List.range (p.length / 64)).foldl (fun h k => shaBlock h ((p.drop (64 * k)).take 64)) shaStart).foldl
    (fun n x => 2 ^ 32 * n + x.toNat) 0

/-! ### ECDSA over P-256 -/

/-- The field's prime, the order of the base point, the curve's second coefficient (the first is -3), the base point. -/
def ecP : Nat := 2 ^ 256 - 2 ^ 224 + 2 ^ 192 + 2 ^ 96 - 1
def ecN : Nat := 0xFFFFFFFF00000000FFFFFFFFFFFFFFFFBCE6FAADA7179E84F3B9CAC2FC632551
def ecB : Nat := 0x5AC635D8AA3A93E7B3EBBD55769886BC651D06B0CC53B0F63BCE3C3E27D2604B
def ecG : Nat × Nat :=
  (0x6B17D1F2E12C4247F8BCE6E563A440F277037D812DEB33A0F4A13945D898C296,
   0x4FE342E2FE1A7F9B8EE7EB4A7C0F9E162BCE33576B315ECECBB6406837BF51F5)

/-- The inverse of `x` modulo a prime: its power with exponent m - 2. -/
def modInv (x m : Nat) : Nat :=
  (List.range 256).foldr (fun k y => let z := y * y % m; if (m - 2).testBit k then z * x % m else z) 1

/-- The point lies on the curve. -/
def ecOn (q : Nat × Nat) : Bool :=
  decide (q.1 < ecP) && decide (q.2 < ecP) && (q.2 * q.2 + 3 * q.1) % ecP == (q.1 * q.1 * q.1 + ecB) % ecP

/-- The sum of two points; none is the point at infinity. -/
def ecAdd (a b : Option (Nat × Nat)) : Option (Nat × Nat) :=
  match a, b with
  | none, _ => b
  | _, none => a
  | some (x, y), some (u, v) =>
    if x = u ∧ (y + v) % ecP = 0 then none
    else
      let slope := if x = u then (3 * x * x + ecP - 3) * modInv (2 * y % ecP) ecP % ecP
        else (v + ecP - y) * modInv ((u + ecP - x) % ecP) ecP % ecP
      let r := (slope * slope + 2 * ecP - x - u) % ecP
      some (r, (slope * (x + ecP - r) + ecP - y) % ecP)

/-- A multiple of a point. -/
def ecMul (k : Nat) (q : Option (Nat × Nat)) : Option (Nat × Nat) :=
  (List.range 256).foldr (fun i r => let t := ecAdd r r; if k.testBit i then ecAdd t q else t) none

/-- The signature (r, s) of the number `h` verifies under the key `q`. -/
def ecdsaOk (q : Nat × Nat) (r s h : Nat) : Bool :=
  let w := modInv s ecN
  decide (0 < r) && decide (r < ecN) && decide (0 < s) && decide (s < ecN) && ecOn q &&
  match ecAdd (ecMul (h * w % ecN) (some ecG)) (ecMul (r * w % ecN) (some q)) with
  | some x => x.1 % ecN == r
  | none => false

end Sys2Proof.Machine
end

