-- ==== Sys2Proof/Machine/Engp.lean ====
section
/-! DEFINITION. The program loader: the tests of an extension, its application, and RESTART and FORCE_FAULT of an engine
(05_column_programs.md R138 to R147; 04_column_engines.md R104 to R106). -/

namespace Sys2Proof.Machine

def modEn (f : Engines → Engines) (d : Dev) : Dev := { d with en := f d.en }

/-! ### What a word is (R132, R139, R140) -/

def wOp (w : BitVec 32) : Nat := fb w 31 26

/-- LOOP, SKIP, RET and the three neighbour opcodes. -/
def wLoop (w : BitVec 32) : Bool := wOp w == 0x3C
def wSkip (w : BitVec 32) : Bool := wOp w == 0x3D
def wRet (w : BitVec 32) : Bool := wOp w == 0x3E && fb w 0 0 == 1
def wPub (w : BitVec 32) : Bool := wOp w == 0x34
def wNb (w : BitVec 32) : Bool := wOp w == 0x35 || wOp w == 0x36

/-- Cycles of a word (R132). -/
def wCycles (w : BitVec 32) : Nat :=
  let op := wOp w
  if [0x18, 0x19, 0x1A, 0x28, 0x29, 0x2A, 0x2B, 0x2C, 0x2D, 0x35, 0x36, 0x3B, 0x3E].contains op then 2
  else if [0x2E, 0x2F, 0x30, 0x31, 0x32, 0x39, 0x3A].contains op then 3
  else if op = 0x38 then 4
  else 1

/-- An opcode or a channel that an extension must not contain (R140). -/
def wForbidden (w : BitVec 32) : Bool :=
  let op := wOp w
  op == 0x38 || op == 0x3A || op == 0x3B || op == 0x3F || (op == 0x3E && fb w 0 0 == 0) ||
  ((wPub w || wNb w) && fb w 13 12 != 3)

/-- The vector registers that a word reads or writes. -/
def wV (w : BitVec 32) : List Nat :=
  let op := wOp w
  let vd := fb w 21 18
  let va := fb w 17 14
  let vb := fb w 13 10
  if op = 0 then []
  else if op = 0x08 ∨ op = 0x09 ∨ op = 0x0A then (if fb w 5 5 = 1 then [vd, va, vb] else [vd, va])
  else if op ≤ 0x07 ∨ op = 0x0B ∨ op = 0x0C ∨ op = 0x0E ∨ op = 0x18 ∨ op = 0x19 ∨ op = 0x1A then [vd, va, vb]
  else if op = 0x0D ∨ op = 0x10 ∨ op = 0x30 ∨ op = 0x35 ∨ op = 0x36 then [vd, va]
  else if op = 0x0F ∨ op = 0x31 then [va, vb]
  else if op = 0x11 ∨ op = 0x12 ∨ op = 0x13 then [vd]
  else if op = 0x14 ∨ op = 0x34 then [va]
  else if 0x28 ≤ op ∧ op ≤ 0x2C then [vd]
  else if op = 0x2E ∨ op = 0x2F then [vd, vd + 1]
  else if op = 0x32 then [vd, vd + 1, va]
  else []

/-- The scalar registers. -/
def wS (w : BitVec 32) : List Nat :=
  let op := wOp w
  if op = 0x0D then [fb w 2 0, fb w 5 3]
  else if op = 0x12 ∨ op = 0x14 ∨ op = 0x30 ∨ op = 0x31 ∨ op = 0x32 then [fb w 2 0]
  else if op = 0x20 ∨ op = 0x2D then [fb w 21 19, fb w 18 16]
  else if op = 0x21 ∨ op = 0x22 ∨ op = 0x24 then [fb w 21 19]
  else if op = 0x23 then [fb w 21 19, fb w 18 16, fb w 5 3]
  else if (0x28 ≤ op ∧ op ≤ 0x2C) ∨ op = 0x2E ∨ op = 0x2F then [fb w 17 15]
  else if op = 0x3C then (if fb w 21 21 = 1 then [fb w 20 18] else [])
  else []

/-- The predicates, the guard among them where PEN is set. -/
def wP (w : BitVec 32) : List Nat :=
  let op := wOp w
  (if fb w 25 25 = 1 then [fb w 23 22] else []) ++
  (if op = 0x0E then [fb w 1 0]
   else if op = 0x0F then [fb w 4 3]
   else if op = 0x15 then
     (if fb w 8 6 < 4 then [fb w 1 0, fb w 3 2, fb w 5 4] else if fb w 8 6 = 4 then [fb w 1 0, fb w 3 2] else [fb w 1 0])
   else if op = 0x35 ∨ op = 0x36 ∨ op = 0x39 then [fb w 11 10]
   else if op = 0x3D then [fb w 21 20]
   else [])

/-- A word uses a register that R139 marks "Not use". -/
def wNotUse (w : BitVec 32) : Bool :=
  (wV w).any (fun v => decide (1 ≤ v) && decide (v ≤ 7)) || (wS w).any (fun s => s == 2 || s == 3) ||
  (wP w).any (fun p => decide (p < 2))

/-! ### Structure and worst path (R138, R140, R141) -/

/-- The words after word `i` that a LOOP runs, or a SKIP may skip. -/
def wSpan (i : Nat) (w : BitVec 32) : Option (Nat × Nat) :=
  if wLoop w then some (i + 1, i + fb w 9 4) else if wSkip w then some (i + 1, i + fb w 17 12) else none

def wordAt (ws : List (BitVec 32)) (i : Nat) : BitVec 32 := ws.getD i 0

/-- The loop bodies of an image, as first and last word, in order. -/
def bodies (ws : List (BitVec 32)) : List (Nat × Nat) :=
  (ws.zipIdx).filterMap (fun x => if wLoop x.1 then wSpan x.2 x.1 else none)
def skips (ws : List (BitVec 32)) : List (Nat × Nat) :=
  (ws.zipIdx).filterMap (fun x => if wSkip x.1 then wSpan x.2 x.1 else none)

def inSpan (i : Nat) (s : Nat × Nat) : Bool := decide (s.1 ≤ i) && decide (i ≤ s.2)

/-- A skip range lies wholly inside one loop body, or wholly outside every loop (R138; DESIGN CHOICE, log 20). A range may end on
a LOOP word without its body: R138 does not say whether that is outside the loop. Where such a SKIP skips the LOOP, its body
runs once, not COUNT times. DESIGN CHOICE, log 68. -/
def rangeOk (bs : List (Nat × Nat)) (s : Nat × Nat) : Bool :=
  bs.any (fun b => decide (b.1 ≤ s.1) && decide (s.2 ≤ b.2)) || bs.all (fun b => decide (b.2 < s.1) || decide (s.2 < b.1))

/-- Word `i` breaks R138 or the order, placement or RET rules of R140. -/
def wBroken (ws : List (BitVec 32)) (i : Nat) : Bool :=
  let n := ws.length
  let w := wordAt ws i
  let bs := bodies ws
  let around := bs.filter (inSpan i)
  let loopBad := match wSpan i w with
    | none => false
    | some s =>
      decide (n ≤ s.2 + 1) ||
      (wLoop w && (around.any (fun b => decide (b.2 < s.2)) || decide (2 ≤ around.length))) ||
      (wSkip w && !rangeOk bs s)
  let retBad := wRet w != (i + 1 == n)
  let pubBad := wPub w && (List.range i).any (fun k => wPub (wordAt ws k) || wNb (wordAt ws k))
  let nbBad := wNb w && !((List.range i).any (fun k => wPub (wordAt ws k)))
  let placeBad := (wPub w || wNb w) && (!around.isEmpty || (skips ws).any (inSpan i))
  loopBad || retBad || pubBad || nbBad || placeBad

/-- The runs of a LOOP. -/
def wCount (w : BitVec 32) : Nat := fb w 17 10

/-- W of R141. -/
def worstPath (ws : List (BitVec 32)) : Nat :=
  let loops := (ws.zipIdx).filter (fun x => wLoop x.1)
  1 + (ws.zipIdx).foldl (fun a x =>
    a + loops.foldl (fun c l =>
      if (wSpan l.2 l.1).any (inSpan x.2) then c * wCount l.1 else c) (wCycles x.1)) 0

/-! ### The tests (R142) -/

/-- The first word of an image for which a test fails. -/
def firstBad (n : Nat) (bad : Nat → Bool) : Option Nat := (List.range n).find? bad

/-- RESULT, ERR_WORD and the W shown, of an image under test. DESIGN CHOICE, log 20. -/
def engpTest (img : List (BitVec 32)) (hdr : BitVec 32) (avail : Nat) : Nat × Nat × Nat :=
  let n := getBits hdr 9 0
  let budget := getBits hdr 24 16
  let ws := img.take n
  let none_ := 0xFFFF
  if n = 0 ∨ 768 < n then (2, 0, none_)
  else match firstBad n (fun i => !encLegal (wordAt ws i)) with
    | some i => (3, i, none_)
    | none => match firstBad n (fun i => wForbidden (wordAt ws i)) with
      | some i => (4, i, none_)
      | none => match firstBad n (fun i => wNotUse (wordAt ws i)) with
        | some i => (5, i, none_)
        | none => match firstBad n (wBroken ws) with
          | some i => (6, i, none_)
          | none =>
            let w := worstPath ws
            let show_ := min 0xFFFF w
            if budget < w then (7, 0, show_)
            else if 384 < budget then (8, 0, show_)
            else if avail < 208 + budget then (9, 0, show_)
            else (1, 0, show_)

/-! ### Commands and application (R144, R145) -/

def engpLegal (d : Dev) : Bool := mstate d == stIDLE || mstate d == stLIVE

/-- A write of ENGP_CMD with ACTION 1 CHECK, 2 LOAD or 3 REMOVE. -/
def engpCmd (a : Nat) (d : Dev) : Dev :=
  if flag ENGP_STATUS.BUSY d then refuseReg a ENGP_CMD.addr 0 d
  else if !engpLegal d && a != 1 then d |> setFld ENGP_STATUS.RESULT 0xA |> refuseReg a ENGP_CMD.addr 0xA
  else
    let d := setFlag ENGP_STATUS.BUSY true d
    if a = 3 then
      d |> modEn (fun x => { x with copyW := [], copyH := 0, copyKind := 3 }) |> setFlag ENGP_STATUS.PENDING true
        |> setFlag ENGP_STATUS.HELD_BY_TAKE (inTake d)
    else
      let ws := (List.range 768).map (fun n => rdReg (ENGP_IMG.addr n) d)
      let h := rdReg ENGP_HDR.addr d
      modEn (fun x => { x with copyW := ws, copyH := h, copyKind := a }) d

/-- The tests end (R142, R144): an accepted LOAD awaits its application. DESIGN CHOICE, log 20. -/
def engpTestDone (d : Dev) : Dev :=
  if !flag ENGP_STATUS.BUSY d || flag ENGP_STATUS.PENDING d then d
  else
    let r := engpTest d.en.copyW d.en.copyH (fld PIPE_STATUS.AVAIL d)
    let stays := d.en.copyKind == 2 && r.1 == 1
    d |> setFld ENGP_STATUS.RESULT r.1 |> setFld ENGP_STATUS.ERR_WORD r.2.1 |> setFld ENGP_WORST.WORST r.2.2
      |> setFlag ENGP_STATUS.BUSY stays |> setFlag ENGP_STATUS.PENDING stays
      |> setFlag ENGP_STATUS.HELD_BY_TAKE (stays && inTake d)

/-- The module leaves IDLE and LIVE: a change that has not been applied is discarded and recorded (R145). Tests under
way go on and set RESULT. DESIGN CHOICE, log 20. -/
def engpLeave (d : Dev) : Dev :=
  let k := d.en.copyKind
  if !flag ENGP_STATUS.BUSY d || k == 1 then d
  else
    let d := refuseReg k ENGP_CMD.addr 0 d
    if flag ENGP_STATUS.PENDING d then
      d |> setFlag ENGP_STATUS.PENDING false |> setFlag ENGP_STATUS.BUSY false |> setFlag ENGP_STATUS.HELD_BY_TAKE false
        |> modEn (fun x => { x with copyKind := 0 })
    else modEn (fun x => { x with copyKind := 1 }) d

/-- A change that waits shows HELD_BY_TAKE while a take runs. -/
def engpHeld (d : Dev) : Dev := setFlag ENGP_STATUS.HELD_BY_TAKE (flag ENGP_STATUS.PENDING d && inTake d) d

/-- Program words 1,280 to 2,047 and the user area of an engine, with an extension. -/
def loadExt (ws : List (BitVec 32)) (g : Eng) : Eng :=
  clearUser { g with prog := msetList (fun _ => 0#32) g.prog 1280 (ws ++ List.replicate (768 - ws.length) 0#32) }

/-- Blanking slots 16 to 23: an accepted change is applied (R145, R179). DESIGN CHOICE, log 20. -/
def engpApply (d : Dev) : Dev :=
  if !flag ENGP_STATUS.PENDING d || !engpLegal d || inTake d || takeComes d then d
  else
    let x := d.en
    let ws := x.copyW.take (getBits x.copyH 9 0)
    let load := x.copyKind == 2
    let budget := if load then getBits x.copyH 24 16 else 0
    let crc := if load then crc32 (ws.flatMap (fun w => leBytes 4 w.toNat)) else 0
    let d := mapEngs (fun e g => if engState e d = enFAULT then g else loadExt ws g) d
    let cclr := load && bitN x.copyH.toNat 31
    let d := modEn (fun y => { y with ext := ws, cclr := cclr, copyKind := 0 }) d
    d |> addFld ENGP_STATUS.GEN 1 |> setFlag ENGP_STATUS.EXT load |> setFlag ENGP_STATUS.BUSY false
      |> setFlag ENGP_STATUS.PENDING false |> setFlag ENGP_STATUS.HELD_BY_TAKE false
      |> setFld ENGP_INFORCE.EXT_BUDGET budget |> setFld ENGP_INFORCE.TOTAL (208 + budget)
      |> wrReg ENGP_CRC.addr crc
      |> (fun d => note 64 [fld ENGP_STATUS.GEN d, (rdReg ENGP_INFORCE.addr d).toNat, crc.toNat] d)

/-- A write of ENGP_PEEK_CMD (R147). -/
def engpPeek (e : Nat) : Dev → Dev := modEn (fun x => { x with peek := some (e, false) })

/-! ### Engine actions (R106) -/

/-- A write of PIPE_ENG_CTRL with ACTION 1 RESTART or 2 FORCE_FAULT. -/
def engCtrl (a e : Nat) (d : Dev) : Dev :=
  if !engpLegal d || (a == 1 && engState e d != enFAULT) then refuseRegT a PIPE_ENG_CTRL.addr 0 e (fld (ENG_STATE.GEN e) d) d
  else if a = 1 then modEng e (fun g => { g with restart := true }) d
  else d |> modEng e (fun g => { g with restart := false }) |> engFault e 4

/-- The radiometric table that comes into force at this boundary. DESIGN CHOICE, log 20. -/
def tableComing (d : Dev) : Option (List Nat) :=
  if d.en.radNext = 2 then d.en.radLow else if d.en.radNext = 1 then d.en.radHigh else none

/-- The control cores rewrite a FAULTED engine; its cards and what a bulk load owes are kept. -/
def rewriteEngine (e : Nat) (d : Dev) (g : Eng) : Eng :=
  let fresh : Eng := {}
  let tab := match tableComing d with
    | some t => halfBytes t
    | none => dataBytes g 0 0x2000
  let g := setBytes 0 tab { fresh with
    cards := g.cards, badCards := g.badCards, ledger := g.ledger, bulkWriting := g.bulkWriting, bulkDone := g.bulkDone
    bulkFrozen := g.bulkFrozen, bulkLater := g.bulkLater, bulkOwed := g.bulkOwed
    prog := msetList (fun _ => 0#32) (msetList (fun _ => 0#32) [] 0 d.en.stdProg) 1280 d.en.ext }
  reloadThr e d g

/-- RESTART at a slate boundary. DESIGN CHOICE, log 20. -/
def restartApply (d : Dev) : Dev :=
  forD d.en.engs (fun x d =>
    if !x.2.restart then d
    else if !engpLegal d || engState x.1 d != enFAULT then
      d |> modEng x.1 (fun g => { g with restart := false }) |> refuseRegT 1 PIPE_ENG_CTRL.addr 0 x.1 (fld (ENG_STATE.GEN x.1) d)
    else d |> modEng x.1 (rewriteEngine x.1 d) |> setEngState x.1 (if isLive d then enSETTLE else enIDLE)) d

end Sys2Proof.Machine
end

