-- ==== Sys2Proof/Machine/HostEnd.lean ====
section
/-! DEFINITION. The host end of the crossing: its state word, received messages, answers to tagged messages, and what
it sends of its own (12_field_side.md R294 to R309, R317 to R319; 13_actuators.md R340 to R345; 14_emitters_indicators.md
R356, R358, R363). -/

namespace Sys2Proof.Machine

/-! ### Mirrors as the host end holds them (R307) -/

/-- GEN of mirror `k`. -/
def mirGen (k : Nat) (d : Dev) : Nat :=
  match mfind d.xh.mir k with
  | some x => x.1
  | none => 0

/-- AGE of mirror `k`. -/
def mirAge (k : Nat) (d : Dev) : Nat :=
  match mfind d.xh.mir k with
  | some x => min 0xFFFFFF ((d.sl.tick - x.2) / 400 + 8)
  | none => 0xFFFFFF

/-- GEN of the unit of a command, as the host end has it: channel `n`, or the field companion for 8. -/
def unitGen (ch : Nat) (d : Dev) : Nat := if ch < 6 then mirGen (64 + 6 * ch) d else mirGen 0 d

/-! ### Answers (R304, R305, R308, R341, R345, R356) -/

/-- The completion status of an ACK status. -/
def ackDone (status : Nat) : Nat :=
  if status = 0 then dsOK else if status = 1 then dsSTALE else if status = 2 then dsSTATE else dsBADREC

/-- A command ends with an ACK status. -/
def ackCmd (c : CmdRef) (status gen : Nat) (d : Dev) : Dev := completeCmd c (ackDone status) (slate32 d) gen d

/-- A mirror or shot-list write is refused with BADVAL (R308, R318). -/
def wrRejected (addr value : Nat) (d : Dev) : Dev :=
  let first := fld FLD_XERR.REJECT d == 0
  d |> addFldSat FLD_XERR.REJECT 1 |> note 208 [addr, value] |> whenD first (raise 213)

/-- The IND_DATA messages of a command that has failed go on without it. -/
def indOrphan (c : CmdRef) : Dev → Dev :=
  modXh (fun x => { x with pend := x.pend.map (fun e =>
    match e.act with
    | .indData (some c') n l => if c' = c then { e with act := .indData none n l } else e
    | _ => e) })

/-- An IND_DATA of the command awaits its answer. -/
def indWaits (c : CmdRef) (d : Dev) : Bool := d.xh.pend.any (fun e =>
  match e.act with
  | .indData (some c') _ _ => decide (c' = c)
  | _ => false)

/-- A RUN of LS`ch` has been accepted at GEN `gen`: the channel moves, unless its SHOT_STATUS has come before the answer
(13_actuators.md R342). DEDUCED, log 28. -/
def runTaken (ch gen : Nat) (d : Dev) : Dev :=
  let ended := bitN (fld (ACT_LAST.VALID ch) d) 0 && decide ((gen + 256 - fld (ACT_LAST.GEN ch) d) % 256 ≥ 128)
  whenD (!ended) (shutterMoves ch true) d

/-- The writes of one mirror or shot-list register. -/
def writesReg (addr : Nat) (act : XAct) : Bool :=
  match act with
  | .regWr a _ => a == addr
  | .shotWr a _ => a == addr
  | _ => false

/-- The answer carries the GEN of the field companion, not of an actuator channel (R302, R304). -/
def answersForField (act : XAct) : Bool :=
  match act with
  | .cmd _ ch _ => decide (6 ≤ ch)
  | .shutter _ => false
  | _ => true

/-- The answer to a tagged message takes effect, its pending entry gone. -/
def ackAct (act : XAct) (status gen : Nat) (d : Dev) : Dev :=
  match act with
  | .plain => d
  | .cmd c ch a =>
    d |> whenD (status == 0 && decide (ch ≤ 1) && a == 1) (runTaken ch gen) |> ackCmd c status gen
  | .shutter close => if status = 0 then runTaken (if close then 0 else 1) gen d else shutterFailed close d
  | .regWr addr value => d |> whenD (status == 3) (wrRejected addr value) |> hostWriteNext (writesReg addr)
  | .shotWr addr value =>
    d |> whenD (status == 0) (wrReg addr (BitVec.ofNat 32 value &&& 0xFFFFFF#32))
      |> whenD (status == 3) (wrRejected addr value) |> hostWriteNext (writesReg addr)
  | .indData c node latch =>
    let d := whenD (status == 0) (setFlag (IND_NODE.DIRTY node) false) d
    match c with
    | none => d
    | some c =>
      if status ≠ 0 then d |> indOrphan c |> ackCmd c status gen
      else if indWaits c d then d
      else hostRequest xIND_LATCH latch (.indLatch c) d
  | .indLatch c => ackCmd c status gen d

/-- A tagged message ends without an answer: the crossing has left UP (R247, R298, R305). -/
def dropAct (act : XAct) (d : Dev) : Dev :=
  match act with
  | .cmd c ch _ => completeCmd c dsSTATE (slate32 d) (unitGen ch d) d
  | .indData (some c) _ _ => d |> indOrphan c |> completeCmd c dsSTATE (slate32 d) (unitGen 8 d)
  | .indLatch c => completeCmd c dsSTATE (slate32 d) (unitGen 8 d) d
  | _ => d

/-- Every tagged message that waits is dropped, and one that is still queued is not sent. DEDUCED, log 38. -/
def dropAll : Nat → Dev → Dev
  | 0, d => d
  | n + 1, d =>
    match d.xh.pend with
    | [] => d
    | e :: _ => dropAll n (d |> modXh (fun x => { x with pend := x.pend.drop 1 }) |> dropAct e.act)
def failPending (d : Dev) : Dev :=
  let keep (i : XItem) : Bool := decide (i.typ ≤ 3) || i.typ == xECHO_REQ
  d |> modXh (fun x => { x with tx := { x.tx with queue := x.tx.queue.filter keep } })
    |> dropAll d.xh.pend.length

/-! ### The crossing state (R297) -/

/-- The crossing comes UP: FIELD_ABSENT clears; MIRROR_REQ, and SHOT_RD for each of the 192 steps (R297, R345). -/
def crossingUp (d : Dev) : Dev :=
  d |> setFieldAbsent false |> shutterShow |> hostRequest xMIRROR_REQ 0 .plain
    |> forD (List.range 192) (fun i => hostRequest xSHOT_RD (pf 38 36 (i / 32) + pf 35 31 (i % 32)) .plain)

/-- The crossing leaves UP (R181, R190, R247, R298, R394). -/
def crossingLost (d : Dev) : Dev :=
  d |> setFieldAbsent true |> takeFieldLost |> failPending |> countUp 12

/-- A change of the crossing state (R297, R318); GBASE when it goes DOWN (R302). -/
def setXState (n : Nat) (d : Dev) : Dev :=
  let old := xState d
  let g := fld FLD_XSTATE.GEN d
  if old = n then d
  else
    let base := match d.xh.seen with
      | some x => (x + 1) % 256
      | none => d.xh.gbase
    d |> setFld FLD_XSTATE.STATE n |> setFld FLD_XSTATE.GEN (g + 1) |> raise 208
      |> dailyState 5 0 old n g ((g + 1) % 256) 0 208
      |> whenD (n == 0) (modXh (fun x => { x with gbase := base, run := 0 }))
      |> whenD (n == 2) crossingUp
      |> whenD (old == 2) crossingLost

/-- Five milliseconds have passed at the host end without a valid message. -/
def crossingTimeout (d : Dev) : Dev := if !hostEndOn d then d else setXState 0 d

/-- A valid message is received: SEQ, and the crossing state (R294, R297). -/
def hostReceived (m : XMsg) (d : Dev) : Dev :=
  let prev := d.xh.rxSeq
  let lost : Nat := match prev with
    | some p => (m.seq + 31 - p) % 16
    | none => 0
  let follows : Bool := match prev with
    | some p => m.seq == (p + 1) % 16
    | none => false
  let run := if xState d = 1 ∧ follows = true then d.xh.run + 1 else 1
  let d := d |> hostTaken |> whenD (lost != 0) (addFldSat FLD_XERR.LOST lost)
    |> modXh (fun x => { x with rxSeq := some m.seq, run := if xState d = 2 then 0 else run })
  if isS d then d
  else if xState d = 0 then setXState 1 d
  else if xState d = 1 && decide (4 ≤ run) then setXState 2 d
  else d

/-- Receive the next message if it is of the type, and act on its payload. -/
def hostReceive (t : Nat) (act : Nat → Dev → Dev) (d : Dev) : Dev :=
  match hostArrives t d with
  | none => d
  | some m => d |> hostReceived m |> act m.p

/-! ### Received messages -/

/-- The host end sees GEN `g` of the field companion (R302). -/
def seesGen (g : Nat) : Dev → Dev := modXh (fun x => { x with seen := some g })

/-- MODE, INHIBIT and PLAUS_FAULT of a HBEAT_F or FIELD_EVENT (R295). -/
def fieldWord (p : Nat) : Nat × Bool × Bool := (bitsN p 46 45, bitN p 44, bitN p 43)

/-- The field companion's state word as the last FIELD_EVENT gave it; before the first, that of a field side just powered:
SAFE, with INHIBIT and PLAUS_FAULT 0 (R299). DEDUCED, log 38. -/
def fieldTold (d : Dev) : Nat × Bool × Bool := d.xh.told.getD (0, false, false)

/-- The same as the last HBEAT_F or FIELD_EVENT gave it. -/
def fieldKnown (d : Dev) : Nat × Bool × Bool := d.xh.since.getD (fieldTold d)

/-- Sources 210 and 211: INHIBIT or PLAUS_FAULT in `now` is not what was known (R318). -/
def raiseFieldBits (now was : Nat × Bool × Bool) (d : Dev) : Dev :=
  d |> whenD (now.2.1 != was.2.1) (raise 210) |> whenD (now.2.2 != was.2.2) (raise 211)

/-- HBEAT_F (R302, R317, R318). -/
def onHbeatF (p : Nat) (d : Dev) : Dev :=
  let ft := bitsN p 21 0
  let t := modTime d
  let now := fieldWord p
  let was := fieldKnown d
  d |> seesGen (bitsN p 42 35)
    |> modXh (fun x => { x with inh := now.2.1, beat := some (ft, t), since := some now })
    |> raiseFieldBits now was

/-- A FIELD_EVENT of the state `now` reports an entry into field SAFE or a leaving of it: MODE is not that of the last one,
or of a HBEAT_F since, or it is one that only a field side can send that has been in field SAFE unseen in between: nothing at
all differs, or the GEN `g` of a RUN is neither the one seen last nor the one after it, as that of a single change is, so that
a companion powered up anew has left POWER_UP (R302, R318). DEDUCED, log 38. -/
def modeMoved (g : Nat) (now : Nat × Bool × Bool) (d : Dev) : Bool :=
  now.1 != (fieldTold d).1 || now.1 != (fieldKnown d).1 || (now == fieldTold d && now == fieldKnown d) ||
  (now.1 == 1 && d.xh.seen.any (fun x => g != x && g != (x + 1) % 256))

/-- FIELD_EVENT (R302, R318): the sources of what has changed, and the STATE entry of the field companion, which moves
from the MODE of the last FIELD_EVENT. DEDUCED, log 38. -/
def onFieldEvent (p : Nat) (d : Dev) : Dev :=
  let now := fieldWord p
  let told := fieldTold d
  let was := fieldKnown d
  let g := bitsN p 42 35
  let moved := modeMoved g now d
  let g0 := d.xh.seen.getD 0
  d |> seesGen g |> modXh (fun x => { x with told := some now, since := none, inh := now.2.1 })
    |> whenD moved (raise 209) |> raiseFieldBits now was
    |> dailyState 4 0 (if was.1 != now.1 then was.1 else told.1) now.1 g0 g (bitsN p 34 31) 208

/-- ACK (R302, R304). -/
def onAck (p : Nat) (d : Dev) : Dev :=
  match xPendOf (pTag p) d with
  | none => d
  | some e => d |> whenD (answersForField e.act) (seesGen (bitsN p 35 28)) |> dropPend (pTag p)
      |> ackAct e.act (bitsN p 38 36) (bitsN p 35 28)

/-- MIRROR (R307). A mirror of LS0 or LS1 says whether the channel moves (R342); one of an actuator
channel with a new GEN is a change of the channel's state word, which is its REQ (13_actuators.md R325; 10_events_errors.md
R263). DEDUCED, log 38. -/
def onMirror (p : Nat) (d : Dev) : Dev :=
  let k := bitsN p 38 32
  let g := bitsN p 46 39
  if !mirrorOk k then d
  else
    let a := 0xD100 + 4 * k
    let st := bitsN p 2 0
    let req (x : Nat) : Nat := bitsN x 14 12
    let was := req (rdReg a d).toNat
    let known := (mfind d.xh.mir k).isSome
    let g0 := mirGen k d
    let act := decide (64 ≤ k) && decide (k < 100) && (k - 64) % 6 == 0
    let t := d.sl.tick
    d |> wrReg a (BitVec.ofNat 32 (bitsN p 31 0)) |> whenD (decide (k < 64) || decide (100 ≤ k)) (seesGen g) |> modXh (fun x => { x with mir := mput x.mir k (g, t) })
      |> whenD (k == 64 || k == 70) (shutterMoves ((k - 64) / 6) (st == acWAITING || st == acRUNNING || st == acDECAY))
      |> whenD (act && known && g != g0) (dailyState 6 ((k - 64) / 6) was (req p) g0 g 0 208)

/-- The module time of a field counter value (R317); before a first HBEAT_F the spec gives none. DESIGN CHOICE, log 12. -/
def fieldTime (ft : Nat) (d : Dev) : Nat × Dev :=
  match d.xh.beat with
  | some (fh, th) =>
    let x : Int := ((fh : Int) - ft + 2097152) % 4194304 - 2097152
    (ux 32 ((th : Int) - 1000 * x - 4000), d)
  | none => (freeVal d % 2 ^ 32, freeTaken d)

/-- A housekeeping record goes to every ENABLED housekeeping ring (R317). -/
def hkRecord (w0 w1 ft : Nat) (d : Dev) : Dev :=
  let t := fieldTime ft d
  let d := t.2
  let bytes := leBytes 4 w0 ++ leBytes 4 w1 ++ leBytes 4 t.1 ++ leBytes 4 (slate32 d)
  forD (d.rings.tab.filter (fun x => x.2.st == rgENABLED && x.2.typ == 6)) (fun x => putRecord x.1 bytes) d

/-- HK_RESULT. -/
def onHkResult (p : Nat) : Dev → Dev :=
  hkRecord (1 + 2 ^ 8 * bitsN p 46 42 + 2 ^ 13 * bitsN p 41 41 + 2 ^ 14 * bitsN p 40 40 + 2 ^ 15 * bitsN p 39 39 +
    2 ^ 16 * bitsN p 38 38) (bitsN p 37 22) (bitsN p 21 0)

/-- HK_EVENT, and its sources (R318); a change of PLAUS_FAULT is reported by FIELD_EVENT too. -/
def onHkEvent (p : Nat) (d : Dev) : Dev :=
  let k := bitsN p 46 43
  d |> hkRecord (2 + 2 ^ 8 * bitsN p 42 38) (bitsN p 37 22 + 2 ^ 16 * k) (bitsN p 21 0)
    |> whenD (decide (1 ≤ k) && decide (k ≤ 3)) (raise 211) |> whenD (k == 4 || k == 5) (raise 212)
    |> whenD (k == 8 || k == 9) (raise 213)

/-- ACT_EVENT (R342, R343). -/
def onActEvent (p : Nat) (d : Dev) : Dev :=
  let k := bitsN p 43 40
  d |> whenD (k != 5) (note 215 [bitsN p 46 44, k, bitsN p 31 22, bitsN p 39 32])
    |> whenD (k == 1 || k == 2) (raise 215) |> whenD (k == 3 || k == 4) (raise 216)
    |> whenD (k == 6) (raise 217) |> whenD (k == 7) (raise 218)

/-- The spread counter of a sequence's end (16_nonvolatile_store.md R394). -/
def seqCounter (ch oc : Nat) : Option Nat :=
  if ch = 0 then (if oc = 0 then some 0 else none)
  else if ch = 2 then some (if oc = 0 then 1 else 2)
  else if ch = 3 then some (if oc = 0 then 3 else 4)
  else none

/-- SHOT_STATUS (R342, R343, R181, R394). -/
def onShotStatus (p : Nat) (d : Dev) : Dev :=
  let ch := bitsN p 46 44
  let step := bitsN p 43 39
  let oc := bitsN p 38 36
  let g := bitsN p 35 28
  let peak := bitsN p 27 22
  let d := whenD (decide (ch < 6)) (wrReg (ACT_LAST.addr ch)
    (BitVec.ofNat 32 (pf 31 29 oc + pf 28 24 step + pf 23 16 g + pf 15 15 1 + pf 5 0 peak))) d
  let d := match seqCounter ch oc with
    | some k => countUp k d
    | none => d
  d |> whenD (oc != 0) (fun d => d |> note 214 [ch, oc, step * 2 ^ 8 + peak, g] |> raise 214)
    |> whenD (oc == 2 || oc == 3) (raise 217)
    |> whenD (decide (ch ≤ 1)) (shutterEnded (ch == 0) (oc == 0))

/-- IND_STATUS (R358, R360, R363). -/
def onIndStatus (p : Nat) (d : Dev) : Dev :=
  let res := bitsN p 46 45
  d |> seesGen (bitsN p 38 31) |> wrReg IND_LAST_STAT.addr (BitVec.ofNat 32 (pf 31 30 res + pf 29 24 (bitsN p 44 39) + pf 23 16 (bitsN p 38 31) +
        pf 15 15 1))
    |> whenD (res == 2) (raise 220) |> whenD (res == 1) (raise 221)

/-- BOOT_F announces a field power-up: the SHOT registers, ACT_LAST_n and IND_LAST_STAT take their reset values and
every DIRTY bit is set (R345, R363). The paddle's position is not known across a loss of VVEH
(19_electrical_mechanical.md R446). -/
def onBootF (_ : Nat) (d : Dev) : Dev :=
  let back (a : Nat) : Dev → Dev := wrReg a (regReset a)
  d |> shutterLost |> forD (List.range 192) (fun i => back (SHOT.addr (i / 32) (i % 32)))
    |> forD (List.range 6) (fun n => back (ACT_LAST.addr n))
    |> back IND_LAST_STAT.addr
    |> forD (List.range 64) (fun n => setFlag (IND_NODE.DIRTY n) true)

/-- ECHO (R295, R319). -/
def onEcho (p : Nat) (d : Dev) : Dev :=
  match d.xh.echo with
  | some (tag, t) =>
    if tag = pTag p then
      d |> setFld FLD_XSTATE.RTT (min 0xFFE ((d.sl.tick - t) / 400)) |> modXh (fun x => { x with echo := none })
    else d
  | none => d

/-- No ECHO within 2 ms. -/
def echoTimeout (d : Dev) : Dev :=
  if d.xh.echo.isSome then d |> setFld FLD_XSTATE.RTT 0xFFF |> modXh (fun x => { x with echo := none }) else d

/-- SHOT_DATA answers SHOT_RD and sets the register (R345). -/
def onShotData (p : Nat) (d : Dev) : Dev :=
  let ch := bitsN p 38 36
  d |> dropPend (pTag p)
    |> whenD (decide (ch < 6)) (wrReg (SHOT.addr ch (bitsN p 35 31)) (BitVec.ofNat 32 (bitsN p 23 0)))

/-! ### What the host end sends (R295, R305, R308, R345) -/

/-- The relay request of R218. -/
def relayBit (d : Dev) : Nat := fld CELL_RELAY.REQ d

/-- HBEAT_H falls due, from the end of image verification and except in SAFE. -/
def sendHbeatH (d : Dev) : Dev :=
  if !d.xh.on || mstate d == stSAFE then d
  else hostSend xHBEAT_H (pf 46 43 (mstate d) + pf 42 42 (relayBit d) + pf 41 41 (b2n (inTake d)) +
    pf 40 25 d.sl.no + pf 24 17 d.xh.gbase) d

/-- SAFE falls due in SAFE. -/
def sendSafe (d : Dev) : Dev := if mstate d == stSAFE then hostSend xSAFE 0 d else d

/-- SLATE_MARK in blanking slot 28, except in SAFE. -/
def sendSlateMark (d : Dev) : Dev :=
  if mstate d == stSAFE then d else hostSend xSLATE_MARK (pf 46 46 (relayBit d) + pf 45 30 d.sl.no) d

/-- No answer has come 2.0 ms after a message was sent: it is sent again, with the same TAG; after the third sending it
ends, and one of priority 3 sends the crossing to SYNCING (R297, R305). DEDUCED, log 38. -/
def ackTimeout (tag : Nat) (d : Dev) : Dev :=
  match xPendOf tag d with
  | none => d
  | some e =>
    if !xIsSent tag d || e.tries == 0 then d
    else if e.tries < 3 then
      d |> modXh (fun x => { x with pend := x.pend.map (fun y => if y.tag = tag then { y with tries := y.tries + 1 } else y) })
        |> hostSend e.typ e.p
    else if xPrio e.typ = 3 then setXState 1 d
    else dropPend tag d

/-- The refusal of a discarded mirror write, shot-list write or FLD_XCTRL action (R308). -/
def xDiscarded (addr : Nat) : Dev → Dev := refuseReg 0 addr 0x07

/-- A write of `v` to an RW mirror register, whose RW fields in it are `rw` (R308). -/
def mirrorWrite (addr v rw : Nat) (d : Dev) : Dev :=
  if flag GLB_MSTATE.FIELD_ABSENT d || decide (16 ≤ wrPend d) then xDiscarded addr d
  else hostWriteRequest xREG_WR (pf 38 32 ((addr - 0xD100) / 4) + pf 31 0 rw) (.regWr addr v) (writesReg addr) d

/-- A write of SHOT_n_s (R345). -/
def shotWrite (addr v : Nat) (d : Dev) : Dev :=
  let i := (addr - 0xD400) / 4
  if flag GLB_MSTATE.FIELD_ABSENT d || decide (16 ≤ wrPend d) then xDiscarded addr d
  else hostWriteRequest xSHOT_WR (pf 38 36 (i / 32) + pf 35 31 (i % 32) + pf 23 0 v) (.shotWr addr v) (writesReg addr) d

/-- FLD_XCTRL.REFRESH. -/
def xRefresh (d : Dev) : Dev :=
  if flag GLB_MSTATE.FIELD_ABSENT d then xDiscarded FLD_XCTRL.addr d else hostRequest xMIRROR_REQ 0 .plain d

/-- FLD_XCTRL.ECHO; the pattern is a free value. DESIGN CHOICE, log 12. -/
def xEcho (d : Dev) : Dev :=
  if flag GLB_MSTATE.FIELD_ABSENT d then xDiscarded FLD_XCTRL.addr d
  else
    let tag := d.xh.tag
    let pat := freeVal d
    d |> freeTaken |> modXh (fun x => { x with tag := (tag + 1) % 256 })
      |> hostSend xECHO_REQ (pf 46 39 tag + pf 38 0 pat)

/-! ### Field commands of the host (R247, R306, R340, R356) -/

/-- A field command is refused with STATE before it is sent: FIELD_ABSENT, a TH8840-S, actuation inhibited (R247). DEDUCED, log 32. -/
def fieldRefuses (d : Dev) : Bool := flag GLB_MSTATE.FIELD_ABSENT d || isS d || d.xh.inh

/-- ACT_CMD of an accepted SHUTTER, VALVE, RELAY or SPARE. -/
def sendActCmd (c : CmdRef) (check : Bool) (gen ch action : Nat) : Dev → Dev :=
  hostRequest xACT_CMD (pf 38 38 (b2n check) + pf 37 30 gen + pf 29 27 ch + pf 26 23 action) (.cmd c ch action)

/-- HK_CMD of an accepted HOUSEKEEPING. -/
def sendHkCmd (c : CmdRef) (check : Bool) (gen action : Nat) : Dev → Dev :=
  hostRequest xHK_CMD (pf 38 38 (b2n check) + pf 37 30 gen + pf 29 26 action) (.cmd c 8 0)

/-- An accepted INDICATOR: IND_DATA for the nodes up to LAST, dirty or all; with none to send, IND_LATCH at once. DEDUCED, log 38. -/
def sendIndicator (c : CmdRef) (check : Bool) (gen : Nat) (all : Bool) (d : Dev) : Dev :=
  let last := fld IND_LAST.LAST d
  let latch := pf 38 33 last + pf 32 32 (b2n check) + pf 31 24 gen
  let nodes := (List.range (last + 1)).filter (fun n => all || flag (IND_NODE.DIRTY n) d)
  if nodes.isEmpty then hostRequest xIND_LATCH latch (.indLatch c) d
  else forD nodes (fun n d =>
    hostRequest xIND_DATA (pf 38 33 n + pf 32 17 (fld (IND_NODE.WORD n) d)) (.indData (some c) n latch) d) d

end Sys2Proof.Machine
end

