-- ==== Sys2Proof/Machine/Nvs.lean ====
section
/-! DEFINITION. The nonvolatile store: page commands, two-copy records, regions and passwords, spread counters, scrub, and
what temperature and the loss of supply do to writes (16_nonvolatile_store.md). -/

namespace Sys2Proof.Machine

/-- Change the volatile part of the machine. -/
def onDev (f : Dev → Dev) (s : State) : State := { s with dev := f s.dev }

/-! ### Results (R401) -/

def nrOK : Nat := 1
def nrLOCKED : Nat := 2
def nrLOCKOUT : Nat := 3
def nrBADPW : Nat := 4
def nrPROTECTED : Nat := 5
def nrCOLD : Nat := 6
def nrHOT : Nat := 7
def nrABSENT : Nat := 8
def nrUNCORR : Nat := 9
def nrBADARG : Nat := 10
def nrABORTED : Nat := 11

/-- A command ends: DONE, RESULT and source 240; a result other than OK is a REFUSAL, and one of COLD, HOT or ABORTED
raises source 246. -/
def nvsEnd (act result : Nat) (d : Dev) : Dev :=
  d |> modNvc (fun c => { c with host := none })
    |> setFlag NVS_STATUS.BUSY false |> setFlag NVS_STATUS.DONE true |> setFld NVS_STATUS.RESULT result |> raise 240
    |> whenD (result != nrOK) (refuseReg act NVS_CMD.addr result)
    |> whenD (result == nrCOLD || result == nrHOT || result == nrABORTED) (raise 246)

/-- The module's write of FIELD_REF ends (07_takes.md R196), and the next one queued is under way (R389). -/
def nvsOwnEnd (ok refused : Bool) (d : Dev) : Dev :=
  let k := match d.nvc.refReq with
    | some r => r.k
    | none => 0
  d |> modNvc (fun c => { c with own := none, refReq := none }) |> whenD refused (raise 246)
    |> whenD (mainRuns d) (depotRefDone k ok) |> refStart

/-- The result of a write that is not allowed (R399, R400). -/
def nvsRefusal (d : Dev) : Nat := if fld GAF_STATUS.HOT d = 4 then nrHOT else nrCOLD

/-- The module's writes of FIELD_REF are refused, but for one whose page operation is in progress. -/
def nvsOwnRefuse : Nat → Dev → Dev
  | 0, d => d
  | n + 1, d => if d.nvc.own.isNone || d.nvc.op = some NvsOp.own then d else nvsOwnRefuse n (nvsOwnEnd false true d)

/-- Where writes are not allowed, each counter's increments add up, and a command or record write that has come to a page
write ends (R399, R400). -/
def nvsRefuse (d : Dev) : Dev :=
  if nvsWritesOk d then d
  else
    let d := modNvc (fun c => { c with held := heldMerge c.held }) d
    let d := match d.nvc.host with
      | some j => if j.phase = 1 ∧ d.nvc.op ≠ some NvsOp.host then nvsEnd j.act (nvsRefusal d) d else d
      | none => d
    nvsOwnRefuse (d.nvc.refNext.length + 1) d

/-- What the store does next. -/
def nvsSettle (d : Dev) : Dev := d |> nvsRefuse |> nvsNext

/-! ### Pages and groups (R381, R382, R385) -/

/-- An error met in a group of a page is counted; an uncorrectable one raises source 243 and is written to the dailies. -/
def nvsErrSeen (e : NvsErr) (d : Dev) : Dev :=
  if e.uncorr then
    d |> addFldSat NVS_ERR.UNCORR 1 |> setFld NVS_ERR.PAGE e.page |> raise 243
      |> dailyMemory 0 0 2 5 (128 * e.page + 8 * e.grp) 240
  else addFldSat NVS_ERR.SBE 1 d

/-- The errors that a read of some groups of a page meets. -/
def errsOf (p : Nat) (grps : List Nat) (errs : List NvsErr) : List NvsErr :=
  errs.filter (fun e => e.page == p && grps.contains e.grp)

/-- The bytes of a page as they are stored. -/
def pageBytes (p : Nat) (s : State) : List (BitVec 8) := rdBytes 0 s.store.nvs (128 * p) 128

/-- The bytes of a page as a read gives them. -/
def pageRead (p : Nat) (es : List NvsErr) (s : State) : List (BitVec 8) :=
  es.foldl (fun bs e =>
    if e.uncorr then bs.take (8 * e.grp) ++ leBytes 8 e.data.toNat ++ bs.drop (8 * e.grp + 8) else bs) (pageBytes p s)

/-- Read groups of a page: the bytes, the uncorrectable groups, and the machine after it. -/
def readGroups (p : Nat) (grps : List Nat) (errs : List NvsErr) (s : State) : List (BitVec 8) × List Nat × State :=
  let es := errsOf p grps errs
  (pageRead p es s, (es.filter (·.uncorr)).map (·.grp), onDev (forD es nvsErrSeen) s)

/-- Program bytes of a page. -/
def wrStore (a : Nat) (bs : List (BitVec 8)) (s : State) : State :=
  { s with store := { s.store with nvs := wrBytes 0 s.store.nvs a bs } }

/-- Places in the page of `len` bytes from `off`, wrapping (R385). -/
def placesOf (off len : Nat) : List Nat := (List.range len).map (fun k => (off + k) % 128)

/-- Groups of which a write covers a part only. -/
def partGroups (places : List Nat) : List Nat :=
  (List.range 16).filter (fun g =>
    let n := (places.filter (fun x => x / 8 == g)).length
    n != 0 && n != 8)

/-- A page with bytes at some places replaced. -/
def mergePage (page : List (BitVec 8)) (places : List Nat) (bs : List (BitVec 8)) : List (BitVec 8) :=
  (places.zip bs).foldl (fun p x => p.set x.1 x.2) page

/-- A page write: partly covered groups are read and merged; whether one of them was uncorrectable. -/
def writePage (p : Nat) (places : List Nat) (bs : List (BitVec 8)) (errs : List NvsErr) (s : State) : Bool × State :=
  let r := readGroups p (partGroups places) errs s
  (!r.2.1.isEmpty, wrStore (128 * p) (mergePage r.1 places bs) r.2.2)

/-- Eight bytes of a torn group: free, but that a counter's cell is not written, so its halves do not agree (R395, R396). -/
def tornGroup (p v : Nat) : List (BitVec 8) :=
  let lo := v % 2 ^ 32
  if 1920 ≤ p then leBytes 4 lo ++ leBytes 4 ((2 ^ 33 - 1 - lo + 1 + v / 2 ^ 32 % (2 ^ 32 - 1)) % 2 ^ 32)
  else leBytes 8 (v % 2 ^ 64)

/-- Groups torn by an aborted write read as free values (R400). DESIGN CHOICE, log 12; DEDUCED, log 43. -/
def tearGroups (p : Nat) (grps : List Nat) (s : State) : State :=
  grps.foldl (fun s g =>
    let v := freeVal s.dev
    wrStore (128 * p + 8 * g) (tornGroup p v) (onDev freeTaken s)) s

/-! ### Two-copy records (R386 to R391) -/

/-- First pages of copies A and B and the payload length of a record. -/
def recShape (id : Nat) : Option (Nat × Nat × Nat) :=
  if id = 0x01 then some (16, 32, 1036) else if id = 0x02 then some (48, 64, 1920)
  else if id = 0x03 then some (80, 96, 812) else if id = 0x10 then some (528, 544, 1932)
  else if id = 0x20 then some (0, 1, 16) else if id = 0x21 then some (512, 513, 16)
  else if id = 0x22 then some (1280, 1281, 16) else none
def recA (id : Nat) : Nat := match recShape id with | some x => x.1 | none => 0
def recB (id : Nat) : Nat := match recShape id with | some x => x.2.1 | none => 0
def recLen (id : Nat) : Nat := match recShape id with | some x => x.2.2 | none => 0
/-- Pages of a copy. -/
def recPages (id : Nat) : Nat := (16 + recLen id + 127) / 128

/-- A copy: header and payload (R386). -/
def recImage (id seq : Nat) (payload : List (BitVec 8)) : List (BitVec 8) :=
  let h := leBytes 4 seq ++ leBytes 2 (recLen id) ++ leBytes 1 id ++ leBytes 5 0
  h ++ leBytes 4 (crc32 (h ++ payload)).toNat ++ payload

/-- A field of a copy's bytes. -/
def recFld (bs : List (BitVec 8)) (off n : Nat) : Nat := leNat ((bs.drop off).take n)
def recPayload (id : Nat) (bs : List (BitVec 8)) : List (BitVec 8) := (bs.drop 16).take (recLen id)

/-- A copy is valid (R387); `bad` are its uncorrectable groups, counted from its first. -/
def recValid (id : Nat) (bs : List (BitVec 8)) (bad : List Nat) : Bool :=
  recFld bs 6 1 == id && recFld bs 4 2 == recLen id && !bad.any (fun g => decide (8 * g < 16 + recLen id)) &&
  (crc32 (bs.take 12 ++ recPayload id bs)).toNat == recFld bs 12 4

/-- What a reader finds (R388): the copy taken, AMBIGUOUS, OTHER_INVALID. -/
structure RecPick where
  copy : Option Nat
  ambig : Bool
  other : Bool
  deriving DecidableEq, Repr
/-- DESIGN CHOICE, log 7. -/
def pickRec (validA validB : Bool) (seqA seqB : Nat) : RecPick :=
  let x := (seqA + 2 ^ 32 - seqB) % 2 ^ 32
  if validA && validB then
    if x = 0 ∨ x = 2 ^ 31 then ⟨some 0, true, false⟩ else ⟨some (if x < 2 ^ 31 then 0 else 1), false, false⟩
  else if validA then ⟨some 0, false, true⟩
  else if validB then ⟨some 1, false, true⟩
  else ⟨none, false, false⟩

/-- The choice over both copies as read: A's pages, then B's. -/
def pickOf (id : Nat) (acc : List (BitVec 8)) (bad : List Nat) : RecPick × List (BitVec 8) :=
  let n := recPages id
  let a := acc.take (128 * n)
  let b := acc.drop (128 * n)
  let badA := bad.filter (fun g => decide (g < 16 * n))
  let badB := (bad.filter (fun g => decide (16 * n ≤ g))).map (fun g => g - 16 * n)
  let p := pickRec (recValid id a badA) (recValid id b badB) (recFld a 0 4) (recFld b 0 4)
  (p, if p.copy = some 1 then b else a)

/-- Source 241 where a record read is not in order (R402). -/
def pickSeen (p : RecPick) : Dev → Dev := whenD (p.copy.isNone || p.ambig || p.other) (raise 241)

/-- Read a whole record: the payload if a copy is valid. DESIGN CHOICE, log 7. -/
def readRec (id : Nat) (errs : List NvsErr) (s : State) : Option (List (BitVec 8)) × State :=
  let n := recPages id
  let pages := (List.range n).map (recA id + ·) ++ (List.range n).map (recB id + ·)
  let r := (pages.zipIdx).foldl (fun (x : List (BitVec 8) × List Nat × State) y =>
    let z := readGroups y.1 (List.range 16) errs x.2.2
    (x.1 ++ z.1, x.2.1 ++ z.2.1.map (· + 16 * y.2), z.2.2)) ([], [], s)
  let p := pickOf id r.1 r.2.1
  (if p.1.copy.isSome then some (recPayload id p.2) else none, onDev (pickSeen p.1) r.2.2)

/-- A record read by the module: a missing one is noted (R390). -/
def readOwnRec (id : Nat) (errs : List NvsErr) (s : State) : Option (List (BitVec 8)) × State :=
  let r := readRec id errs s
  (r.1, if r.1.isNone then onDev (note 241 [id]) r.2 else r.2)

/-! ### Regions and passwords (R392, R393) -/

/-- Region of a page; 3 for the counters. -/
def regionOfPage (p : Nat) : Nat := if p < 512 then 0 else if p < 1280 then 1 else if p < 1920 then 2 else 3
def keyPage (p : Nat) : Bool := [0, 1, 512, 513, 1280, 1281].contains p
def keyRec (id : Nat) : Bool := decide (0x20 ≤ id) && decide (id ≤ 0x22)
def regionOfRec (id : Nat) : Nat := if id = 0x10 then 1 else 0

/-- Bits of a region's access byte. -/
def accLockout (r : Nat) : Fld := ⟨NVS_ACCESS.addr, 8 * r + 7, 8 * r + 7⟩
def accOpen (r kind : Nat) : Fld := ⟨NVS_ACCESS.addr, 8 * r + 5 + kind, 8 * r + 5 + kind⟩
def accTries (r : Nat) : Fld := ⟨NVS_ACCESS.addr, 8 * r + 3, 8 * r⟩

/-- The password of a kind: 0 read, 1 write. -/
def password (r kind : Nat) (d : Dev) : Nat :=
  let k := d.nvc.keys.getD r (0, 0)
  if kind = 0 then k.1 else k.2

/-- Both kinds of a region are closed, except one whose password is 0; LOCKOUT stands. -/
def closeRegion (r : Nat) (d : Dev) : Dev :=
  if flag (accLockout r) d then d
  else forD [0, 1] (fun k d => whenD (password r k d != 0) (setFlag (accOpen r k) false) d) d

/-- RESET ends every UNLOCK (R392). -/
def nvsReset (d : Dev) : Dev := if flag NVS_STATUS.CNT_VALID d then forD [0, 1, 2] closeRegion d else d

/-- Access that a command needs: `none`, or the result that refuses it. DEDUCED, log 43. -/
def accessRefused (r kind : Nat) (d : Dev) : Option Nat :=
  if 3 ≤ r then none
  else if flag (accLockout r) d then some nrLOCKOUT
  else if flag (accOpen r kind) d then none else some nrLOCKED

/-- UNLOCK (R393). -/
def nvsUnlock (r kind : Nat) (d : Dev) : Dev :=
  if flag (accLockout r) d then nvsEnd 5 nrLOCKOUT d
  else if password r kind d = 0 then nvsEnd 5 nrOK d
  else if pair64 NVS_PW_LO.addr NVS_PW_HI.addr d = password r kind d then
    d |> setFlag (accOpen r kind) true |> setFld (accTries r) 8 |> nvsEnd 5 nrOK
  else
    let left := fld (accTries r) d - 1
    d |> setFld (accTries r) left |> raise 244
      |> whenD (left == 0) (fun d => d |> setFlag (accLockout r) true |> setFlag (accOpen r 0) false
          |> setFlag (accOpen r 1) false |> raise 245)
      |> nvsEnd 5 nrBADPW

/-- LOCK (R393). DEDUCED, log 43. -/
def nvsLock (r : Nat) (d : Dev) : Dev :=
  d |> closeRegion r |> nvsEnd 6 nrOK

/-! ### Commands (R385, R389, R393, R398) -/

/-- A byte of NVS_BUF, and the buffer filled from its first byte. -/
def nvsBuf (n : Nat) (d : Dev) : List (BitVec 8) :=
  (List.range n).map (fun k => BitVec.ofNat 8 (getBits (rdReg (NVS_BUF.addr (k / 4)) d) (8 * (k % 4) + 7) (8 * (k % 4))))
def nvsFill (bs : List (BitVec 8)) (d : Dev) : Dev :=
  forD (bs.zipIdx) (fun x => setFld ⟨NVS_BUF.addr (x.2 / 4), 8 * (x.2 % 4) + 7, 8 * (x.2 % 4)⟩ x.1.toNat) d

/-- A command is accepted as a job. -/
def nvsAccept (j : NvsJob) (d : Dev) : Dev :=
  d |> modNvc (fun c => { c with host := some { j with no := c.count }, count := c.count + 1 }) |> nvsNext

/-- Refused, or accepted; a write also where writes are not allowed. DEDUCED, log 43. -/
def nvsTry (refused : Option Nat) (writes : Bool) (j : NvsJob) (d : Dev) : Dev :=
  match refused with
  | some r => nvsEnd j.act r d
  | none => if writes && !nvsWritesOk d then nvsEnd j.act (nvsRefusal d) d else nvsAccept j d

/-- READ and WRITE of a page. -/
def nvsPage (write : Bool) (d : Dev) : Dev :=
  let p := fld NVS_ADDR.PAGE d
  let len := fld NVS_ADDR.LEN d
  let act := if write then 2 else 1
  let j : NvsJob := { act := act, page := p, off := fld NVS_ADDR.OFFSET d, len := len, phase := b2n write
                      data := if write then nvsBuf len d else [] }
  let refused := if len = 0 ∨ 128 < len then some nrBADARG
    else if keyPage p || (write && regionOfPage p == 3) then some nrPROTECTED
    else accessRefused (regionOfPage p) (b2n write) d
  nvsTry refused write j d

/-- REC_READ and REC_WRITE. -/
def nvsRec (write : Bool) (id : Nat) (d : Dev) : Dev :=
  let len := fld NVS_ADDR.LEN d
  let j : NvsJob := { act := if write then 4 else 3, id := id, data := if write then nvsBuf (recLen id) d else [] }
  let refused := if (recShape id).isNone || (write && len != recLen id && !keyRec id) then some nrBADARG
    else if keyRec id then some nrPROTECTED
    else accessRefused (regionOfRec id) (b2n write) d
  nvsTry refused write j d

/-- SET_PW. -/
def nvsSetPw (r kind : Nat) (d : Dev) : Dev :=
  let j : NvsJob := { act := 7, id := 0x20 + r, region := r, kind := kind
                      data := leBytes 8 (pair64 NVS_PW_LO.addr NVS_PW_HI.addr d) }
  nvsTry (accessRefused r 1 d) true j d

/-- UNLOCK waits until the key records have been read, since it compares with their passwords (R384, R393). DEDUCED, log 43. -/
def nvsUnlockWhenRead (v : BitVec 32) (r kind : Nat) (d : Dev) : Dev :=
  if flag NVS_STATUS.CNT_VALID d then nvsUnlock r kind d else modNvc (fun c => { c with early := some v }) d

/-- A command word starts; REGION 0b11 is a bad argument of every command (R401). DEDUCED, log 43. -/
def nvsStart (v : BitVec 32) (d : Dev) : Dev :=
  let a := getBits v 3 0
  let r := getBits v 11 10
  let k := getBits v 12 12
  if r = 3 then nvsEnd a nrBADARG d
  else if a = 1 then nvsPage false d
  else if a = 2 then nvsPage true d
  else if a = 3 then nvsRec false (getBits v 23 16) d
  else if a = 4 then nvsRec true (getBits v 23 16) d
  else if a = 5 then nvsUnlockWhenRead v r k d
  else if a = 6 then nvsLock r d
  else nvsSetPw r k d

/-- A write of NVS_CMD with a defined ACTION: no effect while BUSY; held until READY (R384, R398). DEDUCED, log 43. -/
def nvsCmd (v : BitVec 32) (d : Dev) : Dev :=
  if flag NVS_STATUS.BUSY d then refuseReg (getBits v 3 0) NVS_CMD.addr 0 d
  else
    let d := setFlag NVS_STATUS.BUSY true d
    if flag NVS_STATUS.READY d then nvsStart v d else modNvc (fun c => { c with early := some v }) d

/-! ### Page operations of a job -/

/-- The page that a job's next operation is on. -/
def jobPage (j : NvsJob) : Nat :=
  let n := recPages j.id
  if j.act ≤ 2 then j.page
  else if j.phase = 0 then (if j.next < n then recA j.id + j.next else recB j.id + (j.next - n))
  else (if j.copy = 0 then recA j.id else recB j.id) + j.next

/-- Places and bytes of a job's page write. -/
def jobPlaces (j : NvsJob) : List Nat :=
  if j.act = 2 then placesOf j.off j.len else List.range (min 128 (j.data.length - 128 * j.next))
def jobBytes (j : NvsJob) : List (BitVec 8) := if j.act = 2 then j.data else (j.data.drop (128 * j.next)).take 128

/-- The payload of FIELD_REF that DEPOT_REF writes (R391). -/
def refPayload (old : List (BitVec 8)) (r : RefReq) : List (BitVec 8) :=
  let slot (k : Nat) : List (BitVec 8) :=
    if k = r.k then r.f.flatMap (leBytes 2) else (old.drop (0x18C + 0x180 * k)).take 0x180
  leBytes 8 r.time ++ leBytes 4 (r.k + 16 * (leNat ((old.drop 8).take 4) / 16 % 16 ||| 2 ^ r.k)) ++
  r.table.flatMap (leBytes 2) ++ (List.range 4).flatMap slot

/-- The new payload of a record write. -/
def jobPayload (j : NvsJob) (old : List (BitVec 8)) (d : Dev) : List (BitVec 8) :=
  if j.act = 4 then j.data
  else if j.act = 7 then
    (if j.kind = 0 then j.data ++ old.drop 8 else old.take 8 ++ j.data)
  else match d.nvc.refReq with
    | some r => refPayload old r
    | none => old

/-- Both passwords of a region are those of its key record's payload; one of 0 opens the region for its kind (R392). DEDUCED, log 43. -/
def keysRead (r : Nat) (payload : List (BitVec 8)) (d : Dev) : Dev :=
  let k : Nat × Nat := (leNat (payload.take 8), leNat ((payload.drop 8).take 8))
  d |> modNvc (fun c => { c with keys := c.keys.set r k })
    |> whenD (k.1 == 0) (setFlag (accOpen r 0) true) |> whenD (k.2 == 0) (setFlag (accOpen r 1) true)

/-- Both copies have been read: REC_READ ends; a record write turns to the copy it does not keep (R388, R389, R401). -/
def jobChosen (j : NvsJob) (d : Dev) : Option NvsJob × Option Nat × Dev :=
  let p := pickOf j.id j.acc j.bad
  let x := p.1
  let d := pickSeen x d
  if j.act = 3 then
    let d := d |> setFlag NVS_REC.VALID x.copy.isSome |> setFlag NVS_REC.AMBIG x.ambig |> setFld NVS_REC.COPY (x.copy.getD 0)
      |> setFlag NVS_REC.OTHER_INVALID x.other |> setFld NVS_REC.ID j.id |> setFld NVS_REC.LEN (recLen j.id)
    if x.copy.isSome then
      (none, some nrOK, d |> nvsFill (recPayload j.id p.2) |> setFld NVS_REC_SEQ.SEQ (recFld p.2 0 4))
    else (none, some nrABSENT, d)
  else
    let seq := if x.copy.isSome then (recFld p.2 0 4 + 1) % 2 ^ 32 else 1
    let old := if x.copy.isSome then recPayload j.id p.2 else List.replicate (recLen j.id) 0
    -- the store reads the key record on SET_PW too; one that is ABSENT is noted (R390)
    let d := whenD (j.act == 7) (fun d => d |> whenD x.copy.isNone (note 241 [j.id]) |> keysRead j.region old) d
    let target := match x.copy with
      | none => 0
      | some c => if x.ambig then 1 else 1 - c
    (some { j with data := recImage j.id seq (jobPayload j old d), copy := target, phase := 1, next := 0, acc := [], bad := [] },
      none, d)

/-- One page operation of a job ends: the job as it goes on, or the result that it ends with. -/
def jobStep (j : NvsJob) (errs : List NvsErr) (s : State) : Option NvsJob × Option Nat × State :=
  let p := jobPage j
  if j.act = 1 then
    let places := placesOf j.off j.len
    let r := readGroups p ((List.range 16).filter (fun g => places.any (fun x => x / 8 == g))) errs s
    (none, some (if r.2.1.isEmpty then nrOK else nrUNCORR), onDev (nvsFill (places.map (fun x => r.1.getD x 0))) r.2.2)
  else if j.phase = 1 then
    let r := writePage p (jobPlaces j) (jobBytes j) errs s
    if j.act = 2 then (none, some (if r.1 then nrUNCORR else nrOK), r.2)
    else if j.next + 1 < recPages j.id then (some { j with next := j.next + 1 }, none, r.2)
    else (some { j with phase := 2, next := 0, acc := [], bad := [] }, none, r.2)
  else
    let r := readGroups p (List.range 16) errs s
    let j := { j with acc := j.acc ++ r.1, bad := j.bad ++ r.2.1.map (· + 16 * j.next), next := j.next + 1 }
    if j.phase = 0 then
      if j.next < 2 * recPages j.id then (some j, none, r.2.2)
      else
        let x := jobChosen j r.2.2.dev
        (x.1, x.2.1, { r.2.2 with dev := x.2.2 })
    else if j.next < recPages j.id then (some j, none, r.2.2)
    else (none, some (if recValid j.id j.acc j.bad then nrOK else nrUNCORR), r.2.2)

/-- A password takes effect (R393): both passwords of the region are those of the record as written. DEDUCED, log 43. -/
def pwSet (j : NvsJob) : Dev → Dev := keysRead j.region (j.data.drop 16)

/-- A page operation of the command ends. -/
def hostOpDone (errs : List NvsErr) (s : State) : State :=
  match s.dev.nvc.host with
  | none => s
  | some j =>
    let r := jobStep j errs s
    let s := r.2.2
    match r.1, r.2.1 with
    | some j', _ => onDev (modNvc (fun c => { c with host := some j' })) s
    | none, some res => onDev (fun d => d |> whenD (j.act == 7 && res == nrOK) (pwSet j) |> nvsEnd j.act res) s
    | none, none => s

/-- A page operation of the module's record write ends. DEDUCED, log 22. -/
def ownOpDone (errs : List NvsErr) (s : State) : State :=
  match s.dev.nvc.own with
  | none => s
  | some j =>
    let r := jobStep j errs s
    let s := r.2.2
    match r.1, r.2.1 with
    | some j', _ => onDev (modNvc (fun c => { c with own := some j' })) s
    | none, some res => onDev (nvsOwnEnd (res == nrOK) false) s
    | none, none => s

/-! ### Spread counters (R395, R396) -/

/-- Page and group of cell `c` of counter `k`. -/
def cellPage (k c : Nat) : Nat := 1920 + 8 * k + c % 8
def cellGroup (c : Nat) : Nat := c / 8

/-- COUNT of a cell that is written, from its eight bytes. -/
def cellCount (bs : List (BitVec 8)) : Option Nat :=
  let n := leNat (bs.take 4)
  if leNat (bs.drop 4) = 0xFFFFFFFF - n then some n else none

/-- The cell and the value that an increment by `n` writes. -/
def nextCell (k : Nat) (d : Dev) : Nat :=
  match d.nvc.cells.getD k none with
  | some i => (i + 1) % 128
  | none => 0
def nextCount (k n : Nat) (d : Dev) : Nat := min 0xFFFFFFFF ((rdReg (NVS_CNT.addr k) d).toNat + n)

/-- Program a counter's cell. -/
def writeCell (k n : Nat) (s : State) : State :=
  let c := nextCell k s.dev
  let v := nextCount k n s.dev
  wrStore (128 * cellPage k c + 8 * cellGroup c) (leBytes 4 v ++ leBytes 4 (0xFFFFFFFF - v)) s

/-- A counter's increment has been written and, unless its group reads uncorrectable, read back whole. -/
def countDone (k n : Nat) (errs : List NvsErr) (s : State) : State :=
  let c := nextCell k s.dev
  let v := nextCount k n s.dev
  let r := readGroups (cellPage k c) [cellGroup c] errs (writeCell k n s)
  if r.2.1.isEmpty then
    onDev (fun d => d |> setFld (NVS_CNT.COUNT k) v |> modNvc (fun x => { x with cells := x.cells.set k (some c) })) r.2.2
  else r.2.2

/-- The value of a counter and the cell that holds it, over cells as they read (R395). -/
def counterOf (k : Nat) (errs : List NvsErr) (s : State) : Option (Nat × Nat) :=
  (List.range 128).foldl (fun best c =>
    let p := cellPage k c
    let a := 128 * p + 8 * cellGroup c
    if errs.any (fun e => e.uncorr && e.page == p && e.grp == cellGroup c) then best
    else match cellCount (rdBytes 0 s.store.nvs a 8), best with
      | some n, some (i, m) => if m < n then some (c, n) else some (i, m)
      | some n, none => some (c, n)
      | none, b => b) none

/-! ### Scrub (R397) -/

/-- A scrub read ends: NEXT goes on; weak groups that decode are to be rewritten. A rewrite held back by COLD_NV or HOT waits,
with those of the pages read after it, until writes are allowed; a page read again waits with what its last read found (R397,
R399). DEDUCED, log 43. -/
def scrubDone (p : Nat) (errs : List NvsErr) (weak : List (Fin 16)) (s : State) : State :=
  let r := readGroups p (List.range 16) errs s
  let ws := (List.range 16).filter (fun g => weak.any (fun w => w.val == g) && !r.2.1.contains g)
  onDev (fun d => d |> setFld NVS_SCRUB.NEXT ((p + 1) % 2048)
    |> modNvc (fun c => { c with
        weak := c.weak.filter (·.1 != p) ++ (if ws.isEmpty then [] else [(p, ws)]) })) r.2.2

/-- The weak groups of a page have been rewritten with their content. DEDUCED, log 43. -/
def rewriteDone (grps : List Nat) (d : Dev) : Dev := d |> addFldSat NVS_SCRUB.REWRITTEN grps.length |> raise 242

/-- The scrub interval has passed. -/
def scrubTimer (d : Dev) : Dev :=
  if !auxOn d || !flag NVS_STATUS.READY d then d else d |> modNvc (fun c => { c with scrubDue := true }) |> nvsSettle

/-! ### Operations end, are aborted or lose their supply (R398, R400) -/

/-- The page operation in progress ends, and the next one starts. DESIGN CHOICE, log 48. -/
def pageOpDone (errs : List NvsErr) (weak : List (Fin 16)) (s : State) : State :=
  match s.dev.nvc.op with
  | none => s
  | some o =>
    let s := onDev (modNvc (fun c => { c with op := none })) s
    let s := match o with
      | .count k n => countDone k n errs s
      | .host => hostOpDone errs s
      | .own => ownOpDone errs s
      | .scrub p => scrubDone p errs weak s
      | .rewrite _ g => onDev (rewriteDone g) s
    onDev nvsSettle s

/-- The groups that a page write in progress programs. -/
def opGroups (o : NvsOp) (d : Dev) : Option (Nat × List Nat) :=
  let job (j : Option NvsJob) : Option (Nat × List Nat) := match j with
    | some j => if j.phase = 1 then
        some (jobPage j, (List.range 16).filter (fun g => (jobPlaces j).any (fun x => x / 8 == g))) else none
    | none => none
  match o with
  | .count k _ => some (cellPage k (nextCell k d), [cellGroup (nextCell k d)])
  | .host => job d.nvc.host
  | .own => job d.nvc.own
  | .scrub _ => none
  | .rewrite p g => some (p, g)

/-- The hottest sensor has reached the critical level: a page write in progress is aborted (R400). DEDUCED, log 22. -/
def nvsAbort (s : State) : State :=
  match s.dev.nvc.op with
  | none => s
  | some o =>
    match opGroups o s.dev with
    | none => s
    | some (p, g) =>
      let s := onDev (modNvc (fun c => { c with op := none })) (tearGroups p g s)
      let act := match s.dev.nvc.host with
        | some j => j.act
        | none => 0
      onDev (fun d => match o with
        | .host => nvsEnd act nrABORTED d
        | .own => nvsOwnEnd false true d
        | _ => raise 246 d) s

/-- The aux domain loses its supply: a page write in progress runs to its end (R400). -/
def nvsSupplyLost (s : State) : State :=
  match s.dev.nvc.op with
  | some (.count k n) => writeCell k n s
  | some .host => (match s.dev.nvc.host with
    | some j => if j.phase = 1 then (writePage (jobPage j) (jobPlaces j) (jobBytes j) [] s).2 else s
    | none => s)
  | some .own => (match s.dev.nvc.own with
    | some j => if j.phase = 1 then (writePage (jobPage j) (jobPlaces j) (jobBytes j) [] s).2 else s
    | none => s)
  | _ => s

/-! ### Power-up of the store (R384, R394) -/

/-- A command held starts (R384). -/
def nvsHeldStarts (d : Dev) : Dev :=
  match d.nvc.early with
  | some v => d |> modNvc (fun c => { c with early := none }) |> nvsStart v
  | none => d

/-- READY: a command held starts; AUX_ON is counted. -/
def nvsReady (d : Dev) : Dev :=
  if !auxOn d || flag NVS_STATUS.READY d then d
  else
    d |> setFlag NVS_STATUS.READY true |> countUp 6 |> nvsHeldStarts

/-- The key record of a region as read at READY. -/
def initKey (errs : List NvsErr) (r : Nat) (s : State) : State :=
  let x := readOwnRec (0x20 + r) errs s
  let key : Nat × Nat := match x.1 with
    | some p => (leNat (p.take 8), leNat (p.drop 8))
    | none => (0, 0)
  onDev (fun d => d |> modNvc (fun c => { c with keys := c.keys.set r key })
    |> setFlag (accOpen r 0) (key.1 == 0) |> setFlag (accOpen r 1) (key.2 == 0)) x.2

/-- The sensors' trims of FACT_TRIM, or nominal trim (R391, 15_thermal_power.md R365). -/
def setTrims (p : Option (List (BitVec 8))) (d : Dev) : Dev :=
  let trims := match p with
    | none => []
    | some b => mbuild trimD 200 (fun n =>
        let w := (b.drop (0xC + 4 * n)).take 4
        (leNat (w.drop 2), sx 16 (leNat (w.take 2))))
  modGaf (fun g => { g with trims := trims }) d

/-- The initial reads are done: keys, counters, FACT_TRIM; CNT_VALID. DESIGN CHOICE, log 48. -/
def nvsInit (errs : List NvsErr) (s : State) : State :=
  if !auxOn s.dev || !flag NVS_STATUS.READY s.dev || flag NVS_STATUS.CNT_VALID s.dev then s
  else
    let s := [0, 1, 2].foldl (fun s r => initKey errs r s) s
    let es := (errs.filter (fun e => decide (1920 ≤ e.page) && decide (e.page < 2048) && decide (e.grp < 16)))
    let s := onDev (forD es nvsErrSeen) s
    let vals := (List.range 16).map (fun k => counterOf k es s)
    let s := onDev (fun d => forD (vals.zipIdx) (fun x d => match x.1 with
      | some (c, n) => d |> setFld (NVS_CNT.COUNT x.2) n |> modNvc (fun y => { y with cells := y.cells.set x.2 (some c) })
      | none => d) d) s
    let t := readOwnRec 0x03 errs s
    onDev (fun d => d |> setTrims t.1 |> setFlag NVS_STATUS.CNT_VALID true |> nvsHeldStarts |> nvsSettle) t.2

end Sys2Proof.Machine
end

