-- ==== Sys2Proof/Machine/Modes.lean ====
section
/-! DEFINITION. Supplies, reset sources, the module states and their transitions (01_architecture.md R26, R27, R33 to
R38; 04_column_engines.md R104; 17_flash_and_boot.md R412, R413). -/

namespace Sys2Proof.Machine

def modPw (f : Power → Power) (d : Dev) : Dev := { d with pw := f d.pw }

/-! ### Leaving a state -/

/-- Every engine in state `old` moves to `new` (R104). -/
def engsMove (old new : Nat) (d : Dev) : Dev :=
  forD allEngs (fun e d => whenD (engState e d == old) (setEngState e new) d) d

/-- Readout ends within a slate: frames and windows under way end their delivery with LAST, and the rows in flight are
lost (09_host_rings.md R228, R242). -/
def readoutStop (d : Dev) : Dev :=
  let d := forD d.rings.tab (fun x d =>
    if x.2.typ = 2 then (match (ring x.1 d).cur with
      | some c => closeCur x.1 (framePart c true) d
      | none => d)
    else if x.2.typ = 3 then d |> closeWindow x.1 true |> modRing x.1 (fun r => { r with piece := 0 })
    else d) d
  let d := mapEngs (fun _ g => { g with
    row := none, touched := false, yielded := false, wait := 0, pubs := [], emC := none, emR := none
    emMarks := [0, 0, 0, 0], cacc := [], hadd := [], ccnt := none, nlefts := 0, nrights := 0, inbox := none }) d
  { d with en := { d.en with words := [], pack := {}, handed := [], missed := [] } }

/-- Commands that wait for a boundary are superseded (R38). -/
def waitsFail (d : Dev) : Dev :=
  let l := d.waits
  { d with waits := [] } |> forD l (fun w d => match w.cmd with
    | some c => completeCmd c dsSTATE (slate32 d) (fld GLB_MSTATE.GEN d) d
    | none => d)

/-! ### SAFE (R33, R36) -/

/-- A SAFE cause acts in the present state. -/
def safeFrom (d : Dev) : Bool :=
  mstate d == stBOOT || mstate d == stIDLE || mstate d == stLIVE || mstate d == stCOLD

/-- A SAFE cause: at once the take is abandoned, the engines halt, the emitters are off and SAFE is sent. DEDUCED, log 21. -/
def enterSafe (cause : Nat) (d : Dev) : Dev :=
  if !safeFrom d then d
  else
    let live := isLive d
    let d := d |> setFld GLB_MSTATE.HOLD_CAUSE cause |> takeAbandonState |> whenD live readoutStop
      |> setMState stSAFE cause |> setWatching false |> countUp (if cause = 1 then 9 else 11)
      |> waitsFail |> commitAbandon |> engpLeave
      |> engsMove enIDLE enHALT |> engsMove enRUN enHALT |> engsMove enSETTLE enHALT |> engsMove enWARM enHALT
      |> emtOff |> whenD (!d.sl.running) slateTimerStart
    { d with xh := { d.xh with on := true } } |> sendSafe

/-- RESUME can act: the cause is gone and the hottest sensor reads below 95 degrees (R33, R410, R412). -/
def resumeOk (d : Dev) : Bool := mstate d == stSAFE && !d.pw.stuck && decide ((hottest d).2 < 6080)

/-- A watchdog expires (R412): SAFE until RESET. -/
def watchdogExpiry (d : Dev) : Dev :=
  if !mainRuns d then d
  else d |> raise 251 |> modPw (fun p => { p with stuck := true }) |> enterSafe 3

/-! ### RESET and AUX_ONLY (R33, R34; 17_flash_and_boot.md R412, R413) -/

/-- What the access paths keep of the main domain is lost with it. -/
def PathRegs.auxOnly (p : PathRegs) : PathRegs :=
  { low := p.low.filter (fun x => auxAddr x.1), high := p.high.filter (fun x => auxAddr x.1) }

/-- The main domain takes its reset values, the Gaffer's control logic among it (R25), and a crossing that was UP is lost
(16_nonvolatile_store.md R394). A flash program or erase in progress runs on inside the flash.
DESIGN CHOICE, log 5 and 23; DEDUCED, log 22. -/
def mainReset (d : Dev) : Dev :=
  let d := whenD (xUp d) (countUp 12) d
  let run := match d.fsh.job with
    | some j => if j.act = 1 then none else some j
    | none => d.fsh.orphan
  { d with main := [], link := {}, evt := {}, fpa := {}, en := {}, cal := {}, take := {}, rings := {}, cw := {}
           herd := {}, xh := {}, emt := {}, waits := [], fsh := { orphan := run }
           bus := { pcie := d.bus.pcie.auxOnly, port := d.bus.port.auxOnly }
           gaf := { d.gaf with step := none, start := false, late := 0, load := 0 }
           pw := { d.pw with stuck := false, fallback := false } }
    |> slateTimerStop

/-- RESET or AUX_ONLY supersedes what waits for a boundary: each command completes with STATE, a COMMIT that is not yet frozen
among them (06_calibration_cards.md R166), and a take accepted is recorded, before the main domain's reset values are taken
(R38). DEDUCED, log 23. -/
def waitsSupersede (d : Dev) : Dev := if mainRuns d then d |> takeSupersede |> waitsFail |> commitAbandon else d

/-- The module enters RESET, or is in it, with a reset source asserted. DESIGN CHOICE, log 23. -/
def srcAssert (k : Nat) (d : Dev) : Dev :=
  let add (l : List Nat) : List Nat := if l.contains k then l else l ++ [k]
  if mstate d = stRESET then modPw (fun p => { p with sources := add p.sources, causes := add p.causes }) d
  else if !mainRuns d then d
  else d |> waitsSupersede |> setMState stRESET 0 |> setWatching false |> mainReset |> nvsReset
    |> modPw (fun p => { p with sources := [k], causes := [k] })

/-- HOST_12V powers the main domain: RESET, with PERST asserted beside POWER where PERST# is low, and every UNLOCK made
before it ended (16_nonvolatile_store.md R392). POWER_ON is counted where HOST_12V is applied at this moment (R394). -/
def mainPowered (applied : Bool) (d : Dev) : Dev :=
  let src := if d.pw.perst then [1, 2] else [1]
  d |> setMState stRESET 0 |> mainReset |> nvsReset
    |> modPw (fun p => { p with sources := src, causes := src, critHold := false, critCool := false
                                critPerst := false, critLost := false })
    |> modGaf (fun g => { g with hist := [] }) |> whenD applied (countUp 5)

def modFsh (f : FlashCtl → FlashCtl) (d : Dev) : Dev := { d with fsh := f d.fsh }

/-- Address bytes of reads, programs and erases (17_flash_and_boot.md R405). -/
def flashAlen (d : Dev) : Nat :=
  if getBits d.fsh.cfg 4 4 = 1 ∨ (flag FLP_SFDP.VALID d ∧ fld FLP_SFDP.ADDR d = 2) then 4 else 3

/-- A command to the flash, in mode 0 at 25 MHz until SFDP discovery has ended, then as FLP_CFG selects; chip select has been
raised before it, and so no read goes on over it (17_flash_and_boot.md R404, R407). -/
def flashSend (op alen addr dummy : Nat) (data : List (BitVec 8)) (d : Dev) : Dev :=
  let f := d.fsh
  let mhz := if getBits f.cfg 3 2 = 0 then 80 else if getBits f.cfg 3 2 = 1 then 40 else 20
  d |> emitOut (.flashCmd (if f.started then 3 * getBits f.cfg 0 0 else 0) (if f.started then mhz else 25) op alen addr dummy data)
    |> modFsh (fun f => { f with next := none, cut := true })

/-- A poll of the status register. PRESUMED, log 57, for its having no address. -/
def flashPoll : Dev → Dev := flashSend 0x05 0 0 0 []

/-- Free bytes in a range of the flash. -/
def flashFree (a n : Nat) (s : State) : State :=
  let k := s.dev.free
  let bs := (List.range n).map (fun i => BitVec.ofNat 8 (Config.freeNat (k + i)))
  { s with store := { s.store with flash := wrBytes 0xFF s.store.flash a bs }, dev := { s.dev with free := k + n } }

/-- The bytes that a program or erase changes. -/
def FlashJob.range (j : FlashJob) : Nat × Nat := if j.act = 3 then (j.addr / 4096 * 4096, 4096) else (j.addr, j.len)

/-- The main domain loses its power: a program or erase in progress leaves its range open (R411, R414). DESIGN CHOICE, log 12; PRESUMED, log 44. -/
def flashTear (s : State) : State :=
  let tear (j : Option FlashJob) (s : State) : State := match j with
    | some j => if j.act = 1 then s else flashFree j.range.1 j.range.2 s
    | none => s
  let s := tear s.dev.fsh.orphan (tear s.dev.fsh.job s)
  onDev (fun d => { d with fsh := {} }) s

/-- The module enters AUX_ONLY (R33): the main domain is off. -/
def enterAux (cause : Nat) (s : State) : State :=
  onDev (fun d => d |> waitsSupersede |> setFld GLB_MSTATE.HOLD_CAUSE cause |> whenD (cause == 0x11) (countUp 10)
    |> setMState stAUX cause |> setWatching false |> mainReset
    |> modPw (fun p => { p with sources := [], causes := [], critHold := cause == 0x11, critCool := false
                                critPerst := false, critLost := false })
    |> modGaf (fun g => { g with hist := [] })) (flashTear s)

/-- The hold of R34 ends by its second part; RESET follows where HOST_12V is present. DEDUCED, log 21. -/
def holdRelease (d : Dev) : Dev := if d.pw.host12v then mainPowered false d else d

/-! ### Supplies (R26, R27) -/

/-- The aux domain becomes supplied: its registers, the alarm map, the port and the store's controller take their reset
values; RESET follows where the supply is HOST_12V. DESIGN CHOICE, log 1. -/
def auxPowerUp (host : Bool) (d : Dev) : Dev :=
  if auxOn d then d
  else
    let p := d.pw
    { d with aux := [], nvc := {}, gaf := {}, bus := {}, mgp := {}
             pw := { aux3v3 := !host, host12v := host, vveh := p.vveh, perst := p.perst, pos := p.pos, strap := p.strap } }
      |> mainReset |> whenD host (mainPowered true)

/-- AUX_3V3 leaves or enters its range while HOST_12V is present. -/
def auxSwitch (aux : Bool) (d : Dev) : Dev :=
  if d.pw.host12v then modPw (fun p => { p with aux3v3 := aux }) d else d

/-- Every host-side supply is gone: OFF. The store keeps its array, and a page write in progress runs to its end. -/
def enterOff (s : State) : State :=
  let s := flashTear (nvsSupplyLost (onDev waitsSupersede s))
  let d := s.dev
  let p := d.pw
  let d' : Dev := {
    pw := { aux3v3 := false, vveh := p.vveh, perst := p.perst, pos := p.pos, strap := p.strap }
    sl := { tick := d.sl.tick }, fl := d.fl, out := d.out, free := d.free, readData := d.readData }
  { s with dev := setFld GLB_MSTATE.STATE stOFF d' }

/-- HOST_12V is present. In the hold of R34 it powers the main domain only where it has been lost after the sensors had
cooled. DESIGN CHOICE, log 1; DEDUCED, log 21. -/
def hostApplied (d : Dev) : Dev :=
  if d.pw.host12v then d
  else if !auxOn d then auxPowerUp true d
  else
    let d := modPw (fun p => { p with host12v := true }) d
    if d.pw.critHold && !d.pw.critLost then d else mainPowered true d

/-- HOST_12V is lost (R27). -/
def hostLost (s : State) : State :=
  let p := s.dev.pw
  if !p.host12v then s
  else if !p.aux3v3 then enterOff s
  else
    let s := onDev (modPw (fun p => { p with host12v := false, critLost := p.critLost || (p.critHold && p.critCool) })) s
    if mstate s.dev = stAUX then s else enterAux 0x10 s

/-- PERST# goes low, or high. In the hold both count after the sensors have cooled (R34). -/
def perstLow (d : Dev) : Dev :=
  if d.pw.perst then d
  else d |> modPw (fun p => { p with perst := true, critPerst := p.critHold && p.critCool }) |> srcAssert 2
def perstHigh (d : Dev) : Dev :=
  if !d.pw.perst then d
  else
    let d := modPw (fun p => { p with perst := false }) d
    if !(d.pw.critHold && d.pw.critPerst) then d
    else if d.pw.host12v then holdRelease d
    else modPw (fun p => { p with critHold := false }) d

/-- Every reset source has ended: BOOT. RST_CAUSE takes the first source of the table of R412. DESIGN CHOICE, log 1. -/
def resetRelease (d : Dev) : Dev :=
  if mstate d ≠ stRESET || d.pw.perst then d
  else
    let cause := match d.pw.causes with
      | [] => 1
      | x :: r => r.foldl min x
    d |> modPw (fun p => { p with sources := [], causes := [], identOwed := true }) |> setMState stBOOT 0 |> flashPoll
      |> setFld FLP_BOOT.RST_CAUSE cause |> clockInForce

/-- VVEH at the field side (R27). -/
def vvehApplied (d : Dev) : Dev :=
  if d.pw.vveh then d else d |> modPw (fun p => { p with vveh := true }) |> whenD (!isS d) fieldPowerUp
def vvehLost (d : Dev) : Dev :=
  if !d.pw.vveh then d else d |> modPw (fun p => { p with vveh := false }) |> fieldPowerDown

/-! ### Transitions that wait for a slate boundary (R33, R38) -/

def wkSTART : Nat := 1
def wkSTOP : Nat := 2
def wkRESUME : Nat := 3
def wkBOOT : Nat := 4
def wkCOLD : Nat := 5
def wkWARM : Nat := 6

/-- The state that a waiting event leads to, its rank, and whether it can still act. -/
def waitTarget (k : Nat) : Nat := if k = wkSTART then stLIVE else if k = wkCOLD then stCOLD else stIDLE
def waitRank (k : Nat) : Nat := if k = wkCOLD then 0 else if k = wkSTOP then 1 else if k = wkSTART then 3 else 2
def waitValid (k : Nat) (d : Dev) : Bool :=
  let m := mstate d
  if k = wkSTART then m == stIDLE
  else if k = wkSTOP then m == stLIVE
  else if k = wkRESUME then resumeOk d
  else if k = wkBOOT then m == stBOOT
  else if k = wkCOLD then m == stIDLE || m == stLIVE
  else m == stCOLD && flag GAF_STATUS.WARM_OK d

/-- The events that stand at the boundary: those that wait, and the end of warm-up. DEDUCED, log 21. -/
def boundaryWaits (d : Dev) : List Waiting :=
  d.waits ++ (if mstate d = stCOLD then [{ kind := wkWARM, cmd := none }] else [])

/-- The event of the highest rank that can act. DEDUCED, log 21. -/
def waitWinner (d : Dev) : Option Nat :=
  ((boundaryWaits d).filter (fun w => waitValid w.kind d)).foldl (fun a w => match a with
    | none => some w.kind
    | some k => if waitRank w.kind < waitRank k then some w.kind else some k) none

/-- The cause with which the coming transition abandons a take: STOP, or the cold limit; 0 for none. -/
def waitTakeCause (d : Dev) : Nat :=
  match waitWinner d with
  | some k => if k = wkSTOP then tcSTOP else if k = wkCOLD then tcSTATE else 0
  | none => 0

/-- Reading of the array has started: an engine whose bulk load is not yet in force carries the SETTLING mark (R30;
06_calibration_cards.md R168, R169). DEDUCED, log 54. -/
def owedSettle (d : Dev) : Dev :=
  forD allEngs (fun e d => whenD (engState e d == enRUN && (engOf e d).bulkOwed) (setEngState e enSETTLE) d) d

/-- What a change of state other than into SAFE, RESET and AUX_ONLY brings (R33, R104; 10_events_errors.md R255;
15_thermal_power.md R369, R372). DEDUCED, log 21. -/
def moveTo (new : Nat) (d : Dev) : Dev :=
  let old := mstate d
  d |> setMState new 0
    |> whenD (old == stLIVE) (fun d => d |> setWatching false |> engsMove enRUN enIDLE |> engsMove enSETTLE enIDLE)
    |> whenD (old == stCOLD) (engsMove enWARM enIDLE)
    |> whenD (old == stSAFE) (engsMove enHALT enIDLE)
    |> whenD (old == stBOOT) loopBootEnd
    |> whenD (d.pw.fallback && (new == stIDLE || new == stCOLD)) (fun d =>
        d |> raise 3 |> modPw (fun p => { p with fallback := false }))
    |> whenD (new == stCOLD) (fun d => d |> engsMove enIDLE enWARM |> commitAbandon |> engpLeave |> emtOff)
    |> whenD (new == stLIVE) (fun d =>
        let d := mapEngs (fun e g => if engState e d = enIDLE then readStart g else g) d
        d |> engsMove enIDLE enRUN |> owedSettle |> takeLiveEntry)

/-- The state transitions of a slate boundary: the event of the highest rank acts, with every other that leads to the
same state; the rest are superseded. DEDUCED, log 21. -/
def transitions (d : Dev) : Dev :=
  let ws := boundaryWaits d
  let ok (w : Waiting) (k : Nat) : Bool := waitValid w.kind d && waitTarget w.kind == waitTarget k
  let reopen := inTake d && fld TAKE_STATUS.SHUTTER d != shOPEN && xUp d && !isS d
  match waitWinner d with
  | none => waitsFail d
  | some k =>
    { d with waits := [] } |> moveTo (waitTarget k)
      |> whenD (k == wkSTOP && reopen) (fun d => d |> modTake (fun t => { t with stopOpen := true }) |> shutterAsk false)
      |> forD ws (fun w d => match w.cmd with
        | none => d
        | some c => completeCmd c (if ok w k then dsOK else dsSTATE) (slate32 d) (fld GLB_MSTATE.GEN d) d)

/-- An event waits for the next boundary. -/
def waitAdd (k : Nat) (c : Option CmdRef) (d : Dev) : Dev := { d with waits := d.waits ++ [{ kind := k, cmd := c }] }

/-- BOOT has done its steps: COLD_HOLD at once, or IDLE at the boundary (R33). -/
def bootDone (d : Dev) : Dev := if coldLimit d then moveTo stCOLD d else waitAdd wkBOOT none d

/-! ### Sensor windows and the states (R33, R34, R38; 15_thermal_power.md R365 to R371) -/

/-- What a window's readings mean for the states. DEDUCED, log 21. -/
def thermalStates (s : State) : State :=
  let d := s.dev
  let hot := fld GAF_STATUS.HOT d
  let m := mstate d
  if hot = 4 then
    let s := nvsAbort s
    if m = stOFF ∨ m = stAUX then s else enterAux 0x11 s
  else if 3 ≤ hot ∧ safeFrom d then onDev (enterSafe 1) s
  else if !coldLimit d then s
  else if m = stIDLE ∨ m = stLIVE then
    (if d.waits.any (fun w => w.kind == wkCOLD) then s else onDev (waitAdd wkCOLD none) s)
  else if m = stBOOT ∧ d.waits.any (fun w => w.kind == wkBOOT) then
    onDev (fun d => moveTo stCOLD { d with waits := [] }) s
  else s

/-- A window of every sensor ends. DEDUCED, log 21. -/
def windowEnd (rest : SensCount) (xs : List SensCount) (s : State) : State :=
  if !auxOn s.dev then s
  else
    let s := onDev (fun d => d |> sensorWindows rest xs |> windowCount |> hotUpdate |> coldNvUpdate |> warmCheck
      |> (fun d => modPw (fun p => { p with
            critCool := p.critCool || (p.critHold && decide ((hottest d).2 < 6080)) }) d)) s
    onDev nvsSettle (thermalStates s)

end Sys2Proof.Machine
end

