-- ==== Sys2Proof/Machine/Flash.lean ====
section
/-! DEFINITION. The flash port, execute in place, the host's flash commands, and BOOT: verification of the slots and the
loading of factory values, programs and seed cards (17_flash_and_boot.md). -/

namespace Sys2Proof.Machine

/-! ### The port (R404, R405, R407) -/

/-- A read from an address: continued without a command where it begins at the byte after the last one of a line read,
within 4.0 µs (R407); else a new Fast Read, after a poll of the status register where a TIMEOUT asks for it (R411).
DEDUCED, log 45. -/
def flashRead (addr : Nat) (d : Dev) : Dev :=
  let cont := match d.fsh.next with
    | some (a, t) => getBits d.fsh.cfg 8 8 == 1 && a == addr && decide (d.sl.tick ≤ t + 1600)
    | none => false
  if cont then modFsh (fun f => { f with next := none }) d
  else d |> whenD d.fsh.poll (fun d => d |> flashPoll |> modFsh (fun f => { f with poll := false }))
    |> flashSend 0x0B (flashAlen d) addr 8 []

/-- FLP_CFG comes into force when the port is idle (R419). -/
def flashCfg (d : Dev) : Dev :=
  if d.fsh.job.isSome || d.fsh.load.isSome then d else
  let v := rdReg FLP_CFG.addr d
  modFsh (fun f => { f with cfg := v }) d

/-! ### Execute in place (R406, R407) -/

/-- A line is in the buffer; it becomes the most recently used of its set. -/
def lineHeld (l : Nat) (f : FlashCtl) : Bool := ((mfind f.lines (l % 32)).getD []).contains l
def lineUse (l : Nat) (f : FlashCtl) : FlashCtl :=
  let ways := (l :: ((mfind f.lines (l % 32)).getD []).filter (· != l)).take 2
  { f with lines := mset (fun _ => []) f.lines (l % 32) ways }

/-- A line's read starts. -/
def lineStart (l : Nat) (miss : Bool) (d : Dev) : Dev :=
  d |> flashRead (64 * l) |> modFsh (fun f => { f with load := some (l, miss), cut := false })

/-- The next line read: a prefetch first, then the misses in order of arrival; none while a program or erase runs. DEDUCED, log 45. -/
def xipNext (d : Dev) : Dev :=
  let f := d.fsh
  let busy := match f.job with
    | some j => j.act != 1
    | none => false
  if busy || f.load.isSome then d
  else match f.prefetch, f.misses with
    | some l, _ => lineStart l false (modFsh (fun f => { f with prefetch := none }) d)
    | none, x :: _ => lineStart x.2 true d
    | none, [] => d

/-- Misses whose line is in the buffer are served. DEDUCED, log 45. -/
def xipServe (d : Dev) : Dev := modFsh (fun f => { f with misses := f.misses.filter (fun x => !lineHeld x.2 f) }) d

/-- A fetch of a line by a control core, which run from a booted slot. -/
def xipMiss (core l : Nat) (d : Dev) : Dev :=
  if !mainRuns d || !flag FLP_BOOT.BOOTED d then d
  else if lineHeld l d.fsh then modFsh (lineUse l) d
  else d |> modFsh (fun f => { f with misses := f.misses ++ [(core, l)] }) |> xipNext

/-- A line's read ends: it enters the buffer in place of the less recently used line of its set, and after a miss the line
that follows is prefetched. -/
def xipLoaded (d : Dev) : Dev :=
  match d.fsh.load with
  | none => d
  | some (l, miss) =>
    let t := d.sl.tick
    let pre := if miss && decide (l + 1 < 131072) && !lineHeld (l + 1) d.fsh then some (l + 1) else none
    d |> setFlag FLP_STATUS.FLASH_BUSY (d.fsh.job.any (fun j => j.act != 1))
      |> modFsh (fun f => { lineUse l f with
          load := none, next := if getBits f.cfg 8 8 = 1 && !f.cut then some (64 * (l + 1), t) else none
          prefetch := if miss then pre else f.prefetch })
      |> xipServe |> flashCfg |> xipNext

/-- The buffer is emptied (R406). -/
def xipEmpty : Dev → Dev := modFsh (fun f => { f with lines := [] })

/-! ### Host commands (R411) -/

def frOK : Nat := 1
def frACTIVE : Nat := 2
def frBADARG : Nat := 3
def frSTATE : Nat := 4
def frTIMEOUT : Nat := 5

/-- A command ends: DONE, RESULT, source 248. -/
def flpEnd (result : Nat) (d : Dev) : Dev :=
  d |> modFsh (fun f => { f with job := none }) |> setFlag FLP_STATUS.BUSY false
    |> setFlag FLP_STATUS.DONE true |> setFld FLP_STATUS.RESULT result |> raise 248 |> flashCfg

/-- The bytes of FLP_BUF. -/
def flpBuf (n : Nat) (d : Dev) : List (BitVec 8) :=
  (List.range n).map (fun k => BitVec.ofNat 8 ((rdReg (FLP_BUF.addr (k / 4)) d).toNat / 256 ^ (k % 4)))

/-- A range lies in part in the booted slot; an empty one touches nothing. -/
def touchesBooted (a n : Nat) (d : Dev) : Bool :=
  let lo := 0x400000 * fld FLP_BOOT.SLOT d
  flag FLP_BOOT.BOOTED d && decide (0 < n) && decide (a < lo + 0x400000) && decide (lo < a + n)

/-- The result that ends a command at once, or 0: STATE, ACTIVE, BADARG. DEDUCED, log 45. -/
def flpCheck (j : FlashJob) (d : Dev) : Nat :=
  let m := mstate d
  let r := j.range
  if j.act ≠ 1 ∧ m ≠ stIDLE ∧ m ≠ stSAFE then frSTATE
  else if j.act ≠ 1 ∧ touchesBooted r.1 r.2 d then frACTIVE
  else if j.act = 3 then 0
  else if j.len = 0 ∨ 256 < j.len ∨ 0x800000 < j.addr + j.len then frBADARG
  else if j.act = 2 ∧ 256 < j.addr % 256 + j.len then frBADARG
  else 0

/-- The sector erase opcode in use (R405). DEDUCED, log 45. -/
def eraseOp (d : Dev) : Nat := fld FLP_SFDP.EOP d

/-- A write of FLP_CMD with a defined ACTION. DEDUCED, log 45. -/
def flpCmd (v : BitVec 32) (d : Dev) : Dev :=
  let act := getBits v 3 0
  if flag FLP_STATUS.BUSY d then refuseReg act FLP_CMD.addr 0 d
  else
    let len := getBits v 16 8
    let j : FlashJob := { act := act, addr := fld FLP_ADDR.ADDR d, len := len, data := flpBuf (min len 256) d }
    let c := flpCheck j d
    if c ≠ 0 then d |> flpEnd c |> refuseReg act FLP_CMD.addr c
    else
      d |> modFsh (fun f => { f with job := some j }) |> setFlag FLP_STATUS.BUSY true
        |> whenD (act != 1) (setFlag FLP_STATUS.FLASH_BUSY true)
        |> (if act = 1 then flashRead j.addr
            else if act = 2 then flashSend 0x02 (flashAlen d) j.addr 0 j.data
              else flashSend (eraseOp d) (flashAlen d) j.range.1 0 [])

/-- What a program or erase leaves in the flash: programming clears bits, erasing sets them. PRESUMED, log 44. -/
def flashApply (j : FlashJob) (s : State) : State :=
  let old := rdBytes 0xFF s.store.flash j.addr j.len
  let put (a : Nat) (bs : List (BitVec 8)) : State :=
    { s with store := { s.store with flash := wrBytes 0xFF s.store.flash a bs } }
  if j.act = 2 then put j.addr ((List.zip old j.data).map (fun x => x.1 &&& x.2))
  else if j.act = 3 then put j.range.1 (List.replicate 4096 0xFF)
  else s

/-- Fill FLP_BUF. -/
def flpFill (bs : List (BitVec 8)) (d : Dev) : Dev :=
  forD (bs.zipIdx) (fun x d =>
    let a := FLP_BUF.addr (x.2 / 4)
    wrReg a (setBits (rdReg a d) (8 * (x.2 % 4) + 7) (8 * (x.2 % 4)) x.1.toNat) d) d

/-- A command ends as it should. -/
def flashDone (s : State) : State :=
  match s.dev.fsh.job with
  | none => s
  | some j =>
    let s := flashApply j s
    onDev (fun d => d |> whenD (j.act == 1) (flpFill (rdBytes 0xFF s.store.flash j.addr j.len))
      |> whenD (j.act != 1) xipEmpty |> setFlag FLP_STATUS.FLASH_BUSY false |> flpEnd frOK |> xipNext) s

/-- A program or erase exceeds its time; its range is left open. FLASH_BUSY stands until the port's poll has ended. DEDUCED, log 45. -/
def flashTimeout (s : State) : State :=
  match s.dev.fsh.job with
  | none => s
  | some j =>
    if j.act = 1 then s
    else onDev (fun d => d |> xipEmpty |> modFsh (fun f => { f with poll := true }) |> flpEnd frTIMEOUT |> raise 252 |> xipNext) (flashFree j.range.1 j.range.2 s)

/-- A write of FLP_RESET (R412): the right KEY with GO asserts the REGISTER source; another KEY is noted. DESIGN CHOICE, log 23. -/
def flpReset (v : BitVec 32) (d : Dev) : Dev :=
  if getBits v 31 16 ≠ 0xA55A then note 248 [FLP_RESET.addr, v.toNat] d
  else if getBits v 0 0 = 1 then srcAssert 5 d else d

/-! ### The identity (R422) -/

/-- A fallback value has been loaded (10_events_errors.md R255). -/
def fellBack (b : Bool) : Dev → Dev := whenD b (modPw (fun p => { p with fallback := true }))

/-- The 16-bit, and 32-bit, value `k` of a table in a payload. -/
def half (bs : List (BitVec 8)) (k : Nat) : Nat := leNat ((bs.drop (2 * k)).take 2)
def word (bs : List (BitVec 8)) (k : Nat) : Nat := leNat ((bs.drop (4 * k)).take 4)

/-- The identity of FACT_TRIM, its variant code in bits [3:0] (18_register_index.md R422; 16_nonvolatile_store.md R391;
15_thermal_power.md R365). -/
def loadTrim (p : Option (List (BitVec 8))) (d : Dev) : Dev :=
  let b := p.getD []
  let code := bitsN (word (b.drop 8) 0) 3 0
  let var := if p.isSome ∧ 1 ≤ code ∧ code ≤ 3 then code else d.pw.strap
  let mis := var != d.pw.strap
  d |> modPw (fun p => { p with identOwed := false }) |> fellBack (p.isNone || mis) |> whenD p.isNone (note 232 [])
    |> wrReg GLB_SERIAL_LO.addr (BitVec.ofNat 32 (word b 0)) |> wrReg GLB_SERIAL_HI.addr (BitVec.ofNat 32 (word b 1))
    |> setFld GLB_VARIANT.VARIANT var |> setFlag GLB_VARIANT.MISMATCH mis |> whenD mis (note 0 [var, d.pw.strap])

/-- A BOOT that has ended in SAFE copies the identity too, once the store's own reads are done (R384, R422). DEDUCED, log
45. -/
def identityOwed (errs : List NvsErr) (s : State) : State :=
  if mstate s.dev = stSAFE ∧ s.dev.pw.identOwed ∧ flag NVS_STATUS.CNT_VALID s.dev then
    let r := readOwnRec 0x03 errs s
    onDev (loadTrim r.1) r.2
  else s

/-! ### Verification (R405, R408, R409) -/

def vrOK : Nat := 1
def vrREAD : Nat := 2
def vrHEADER : Nat := 3
def vrKEY : Nat := 4
def vrSIGNATURE : Nat := 5

/-- A word of a slot's header. -/
def hdrWord (slot off : Nat) (s : State) : Nat := rdLE 0xFF s.store.flash (0x400000 * slot + off) 4

/-- Check 2 of R409. DESIGN CHOICE, log 8. -/
def headerOk (slot : Nat) (s : State) : Bool :=
  let w (off : Nat) : Nat := hdrWord slot off s
  let zero (off n : Nat) : Bool := (rdBytes 0xFF s.store.flash (0x400000 * slot + off) n).all (· == 0)
  let len := w 0x0C
  w 0x00 == 0x38384854 && w 0x04 == 1 && decide (256 ≤ len) && decide (len ≤ 0x3FFF00) && decide (len % 256 = 0) &&
  zero 0x28 24 && zero 0xC0 64 && decide (w 0x14 < len) && decide (w 0x18 + 5120 ≤ len) &&
  (w 0x1C == 0 || decide (w 0x1C + 32768 ≤ len)) && (w 0x20 == 0 || decide (w 0x20 + 4 * w 0x24 ≤ len))

/-- The SFDP is valid (R405). -/
def sfdpValid (x : SfdpIn) : Bool := x.sign == 0x50444653#32 && x.major == 1

/-- Density in Mbit of the basic table's DWORD 2: one less than the bits, or with bit 31 the power of two. PRESUMED, log 57. -/
def sfdpMbit (dword2 : BitVec 32) : Nat :=
  let n := getBits dword2 30 0
  min 0xFFFF ((if getBits dword2 31 31 = 1 then 2 ^ min n 64 else n + 1) / 2 ^ 20)

/-- SFDP discovery (R405). PRESUMED, log 57, for the code of a reported 4 KiB erase and the form of 0x5A. -/
def sfdpTaken (x : SfdpIn) (dword1 dword2 : BitVec 32) (d : Dev) : Dev :=
  let d := flashSend 0x5A 3 0 8 [] d
  if sfdpValid x then
    let erase := getBits dword1 1 0 == 1
    d |> flashSend 0x5A 3 x.ptr.val 8 [] |> setFlag FLP_SFDP.VALID true |> setFld FLP_SFDP.ADDR (getBits dword1 18 17)
      |> setFlag FLP_SFDP.ERASE4K erase |> setFld FLP_SFDP.EOP (if erase then getBits dword1 15 8 else 0x20)
      |> setFld FLP_SFDP.DENSITY (sfdpMbit dword2)
  else raise 249 d

/-- The flash is too small (R405). -/
def tooSmall (d : Dev) : Bool := decide (fld FLP_SFDP.DENSITY d < 64)

/-- The slot to verify first: by SEQ among those that pass checks 1 and 2. DEDUCED, log 45. -/
def firstSlot (readA readB : Bool) (s : State) : Nat :=
  let small := tooSmall s.dev
  let p := pickRec (readA && !small && headerOk 0 s) (readB && !small && headerOk 1 s) (hdrWord 0 8 s) (hdrWord 1 8 s)
  p.copy.getD 0

/-- Bytes of a slot. -/
def slotBytes (slot off n : Nat) (s : State) : List (BitVec 8) := rdBytes 0xFF s.store.flash (0x400000 * slot + off) n

/-- The key digest that PUBKEY matches: the first, or the second (R409, check 3). -/
def slotKey (slot : Nat) (s : State) : Option Bool :=
  let h := sha256 (slotBytes slot 0x40 64 s)
  if h = s.store.digest0 then some false else if h = s.store.digest1 then some true else none

/-- SIG verifies over header bytes 0x00 to 0x3F followed by the payload (R409, check 4). -/
def slotSigned (slot : Nat) (s : State) : Bool :=
  let n (off : Nat) : Nat := beNat (slotBytes slot off 32 s)
  ecdsaOk (n 0x40, n 0x60) (n 0x80) (n 0xA0)
    (sha256 (slotBytes slot 0 0x40 s ++ slotBytes slot 0x100 (hdrWord slot 0x0C s) s))

/-- The result of a slot: the first check that fails (R409). -/
def verifyResult (slot : Nat) (read : Bool) (s : State) : Nat :=
  if !read || tooSmall s.dev then vrREAD
  else if !headerOk slot s then vrHEADER
  else if (slotKey slot s).isNone then vrKEY
  else if !slotSigned slot s then vrSIGNATURE else vrOK

/-- FLP_BOOT's result field of a slot. -/
def setVer (slot r : Nat) : Dev → Dev := setFld (if slot = 0 then FLP_BOOT.VER_A else FLP_BOOT.VER_B) r

/-- A slot boots: the control cores, the slate timer and the heartbeats start (R416). -/
def slotBoots (slot : Nat) (key : Bool) (version : Nat) (d : Dev) : Dev :=
  let d := d |> setFld FLP_BOOT.SLOT slot |> setFlag FLP_BOOT.BOOTED true |> setFlag FLP_BOOT.KEY key
    |> setFld FLP_FWVER.VERSION version |> slateTimerStart
  { d with xh := { d.xh with on := true } }

/-- No slot passes (R409, R410). -/
def verifyFailed (d : Dev) : Dev := d |> raise 250 |> modPw (fun p => { p with stuck := true }) |> enterSafe 2

/-- The flash has been found ready: what a RESET left running in it has ended. PRESUMED, log 44. -/
def orphanDone (s : State) : State :=
  match s.dev.fsh.orphan with
  | none => s
  | some j => onDev (modFsh (fun f => { f with orphan := none })) (flashApply j s)

/-- BOOT's start of the port: SFDP discovery, the reads of both headers, and the choice of the slot to verify first. -/
def verifyStart (x : SfdpIn) (dword1 dword2 : BitVec 32) (readA readB : Bool) (s : State) : State :=
  let s := onDev (fun d => d |> sfdpTaken x dword1 dword2 |> modFsh (fun f => { f with started := true })) (orphanDone s)
  onDev (fun d => d |> whenD (!tooSmall d) (fun d => d |> flashRead 0 |> flashRead 0x400000)
    |> modFsh (fun f => { f with slot := firstSlot readA readB s })) s

/-- The verification of a slot in BOOT has ended; its payload has been read where check 4 was made.
DESIGN CHOICE, log 8 and 48. -/
def slotVerified (x : SfdpIn) (dword1 dword2 : BitVec 32) (readA readB : Bool) (s : State) : State :=
  if mstate s.dev ≠ stBOOT ∨ flag FLP_BOOT.BOOTED s.dev then s
  else
    let s := if s.dev.fsh.started then s else verifyStart x dword1 dword2 readA readB s
    let slot := s.dev.fsh.slot
    let r := verifyResult slot (if slot = 0 then readA else readB) s
    let key := slotKey slot s
    let version := hdrWord slot 0x10 s
    identityOwed [] <| onDev (fun d =>
      let d := d |> whenD (r == vrOK || r == vrSIGNATURE) (flashRead (0x400000 * slot + 0x100)) |> setVer slot r
      if r = vrOK then slotBoots slot (key.getD false) version d
      else if flag FLP_BOOT.FALLBACK d then verifyFailed d
      else d |> setFlag FLP_BOOT.FALLBACK true |> raise 249 |> modFsh (fun f => { f with slot := 1 - slot })) s

/-- The flash is still busy 2.0 s after BOOT has started to poll it: both slots fail; what runs in it leaves its range
open. DEDUCED, log 45. -/
def flashNotReady (s : State) : State :=
  if mstate s.dev ≠ stBOOT ∨ s.dev.fsh.started then s
  else
    let s := match s.dev.fsh.orphan with
      | some j => flashFree j.range.1 j.range.2 s
      | none => s
    identityOwed [] <| onDev (fun d => d |> modFsh (fun f => { f with started := true, orphan := none })
      |> setVer 0 vrREAD |> setVer 1 vrREAD |> setFlag FLP_BOOT.FALLBACK true |> raise 249 |> verifyFailed) s

/-! ### Loading (R416; 02_focal_plane.md R69; 06_calibration_cards.md R152, R170; 16_nonvolatile_store.md R390, R391) -/

/-- The anchors of R152 are legal. -/
def anchorsOk (t : List Int) : Bool :=
  let x (k : Nat) : Int := t.getD k 0
  decide (-3200 ≤ x 0) && decide (x 3 ≤ 8000) &&
  (List.range 3).all (fun k => decide (640 ≤ x (k + 1) - x k) && decide (x (k + 1) - x k ≤ 5120))

/-- The anchors are loaded, or the defaults with an entry in the dailies. -/
def loadAnchors (t : Option (List Int)) (d : Dev) : Dev :=
  let good := match t with
    | some l => anchorsOk l
    | none => false
  let l : List Int := if good then t.getD [] else [-1280, 640, 2560, 4480]
  d |> fellBack (!good) |> whenD (!good) (note 128 [])
    |> forD (List.range 4) (fun k d =>
        let x := l.getD k 0
        let span := if k < 3 then roundDiv 16777216 (l.getD (k + 1) 0 - x).toNat else 0
        d |> setFld (CAL_ANCHOR.TEMP k) (ux 16 x) |> setFld (CAL_ANCHOR.RSPAN k) span)

/-- FACT_FPA, or the nominal values of R69. -/
def loadFpa (p : Option (List (BitVec 8))) (d : Dev) : Dev :=
  match p with
  | none =>
    d |> fellBack true |> note 32 [] |> setFld FPA_BIAS.CODE 160
      |> forD (List.range 128) (fun g d =>
          d |> setFld (FPA_GREF.LO_EXP g) 4096 |> setFld (FPA_GREF.HI_EXP g) 12288
            |> setFld (FPA_GCAL.GRATIO g) 0x1000 |> setFld (FPA_GCAL.AB_DELTA g) 0)
      |> loadAnchors none
  | some b =>
    d |> setFld FPA_BIAS.CODE (leNat (b.take 1))
      |> forD (List.range 128) (fun g d =>
          let r := word (b.drop 4) g
          let c := word (b.drop 0x204) g
          d |> setFld (FPA_GREF.LO_EXP g) (bitsN r 13 0) |> setFld (FPA_GREF.HI_EXP g) (bitsN r 29 16)
            |> setFld (FPA_GCAL.GRATIO g) (bitsN c 31 16) |> setFld (FPA_GCAL.AB_DELTA g) (bitsN c 7 0))
      |> loadAnchors (some ((List.range 4).map (fun k => sx 16 (half (b.drop 0x404) k))))

/-- D(n), and F(n) of each drive code: from FIELD_REF where it holds the code, else from FACT_OPTIC (R196). -/
def loadOptic (optic ref : Option (List (BitVec 8))) (d : Dev) : Dev :=
  let table (b : Option (List (BitVec 8))) (off : Nat) : List Nat := match b with
    | some l => (List.range 192).map (half (l.drop off))
    | none => []
  let holds := match ref with
    | some l => bitsN (word (l.drop 8) 0) 7 4
    | none => 0
  let f (k : Nat) : List Nat := if bitN holds k then table ref (0x18C + 0x180 * k) else table optic (0x180 + 0x180 * k)
  d |> fellBack (optic.isNone || ref.isNone)
    |> modTake (fun t => { t with depD := table optic 0, eref := (List.range 4).map f, erefField := holds })

/-- The standard program is loaded into every engine (05_column_programs.md R126). -/
def loadProgram (w : List (BitVec 32)) (d : Dev) : Dev :=
  let d := { d with en := { d.en with stdProg := w } }
  let std := mbuild (fun _ => 0#32) 1280 (fun k => w.getD k 0#32)
  mapEngs (fun _ g => { g with prog := std ++ g.prog.filter (fun x => decide (1280 ≤ x.1)) }) d

/-- BOOT's loading has been done (R416). DESIGN CHOICE, log 48. -/
def bootLoaded (errs : List NvsErr) (s : State) : State :=
  let d := s.dev
  if mstate d ≠ stBOOT ∨ !flag FLP_BOOT.BOOTED d ∨ !flag NVS_STATUS.CNT_VALID d ∨ d.waits.any (fun w => w.kind == wkBOOT)
  then s
  else
    let slot := fld FLP_BOOT.SLOT d
    let base := 0x400000 * slot + 0x100
    let w (off : Nat) : Nat := hdrWord slot off s
    let fpa := readOwnRec 0x01 errs s
    let optic := readOwnRec 0x02 errs fpa.2
    let trim := readOwnRec 0x03 errs optic.2
    let ref := readOwnRec 0x10 errs trim.2
    let prog := (List.range 1280).map (fun k => BitVec.ofNat 32 (rdLE 0xFF s.store.flash (base + w 0x18 + 4 * k) 4))
    let cols := if w 0x1C = 0 then none
      else some ((List.range 16384).map (fun k => rdLE 0xFF s.store.flash (base + w 0x1C + 2 * k) 2))
    let defs := if w 0x20 = 0 then none
      else some ((List.range (w 0x24)).map (fun k => rdLE 0xFF s.store.flash (base + w 0x20 + 4 * k) 4))
    onDev (fun d => d |> forD (w 0x18 :: [w 0x1C, w 0x20].filter (· != 0)) (fun off => flashRead (base + off))
      |> loadFpa fpa.1 |> loadOptic optic.1 ref.1 |> loadTrim trim.1 |> loadProgram prog
      |> fellBack (cols.isNone || defs.isNone) |> seedLoad cols defs |> bootDone) ref.2

end Sys2Proof.Machine
end

