-- ==== Sys2Proof/Machine/HostCmd.lean ====
section
/-! DEFINITION. What the host sends through the link: doorbells, the RING window's actions, descriptors and their buffers,
and the commands of the command rings (09_host_rings.md R227, R231 to R238, R246 to R248). -/

namespace Sys2Proof.Machine

/-! ### Errors of the ring context memory (R227) -/

/-- What the check bits show of a context that is read: a corrected error; an uncorrectable one, which puts the ring in
ERROR and the module in SAFE. DEDUCED, log 33. -/
def ctxEcc (n : Nat) (x : Ecc) (d : Dev) : Dev :=
  match x with
  | .clean => d
  | .corrected => d |> raise 166 |> dailyMemory 2 n 1 4 (32 * n) 166
  | .uncorrectable => d |> raise 167 |> dailyMemory 2 n 2 4 (32 * n) 167 |> ringError n 3 |> enterSafe 5

/-! ### Doorbells (R235, R236) -/

/-- The low word is written to the doorbell of ring `n` by requester `req`. DEDUCED, log 33. -/
def doorbell (req n : Nat) (v : BitVec 32) (d : Dev) : Dev :=
  let refuse (d : Dev) : Dev := d |> violLog 3 (8 * n) 1 n |> ringEvent 163 n
  if !served d then whenD (mstate d == stBOOT) (violLog 2 (8 * n) 1 req) d
  else
    let r := ring n d
    if !r.on then refuse d
    else
      let p := getBits v 23 0
      let w := getBits v 24 24
      let ahead := ((r.size * w + p) + 2 * r.size - r.ppos) % (2 * r.size)
      if p < r.size ∧ r.posted + ahead ≤ r.size then modRing n (fun r => { r with pidx := p, pwrap := w }) d
      else d |> ringError n 1 |> refuse

/-- The doorbell of ring `n` as it reads. -/
def doorbellLow (n : Nat) (d : Dev) : BitVec 32 := (ring n d).ctxWord 3
/-- DEDUCED, log 33. -/
def doorbellHigh (n : Nat) (d : Dev) : BitVec 32 :=
  BitVec.ofNat 32 ((ring n d).gen / 2 * 2 ^ 25 + (ring n d).cwrap * 2 ^ 24 + (ring n d).cidx)

/-! ### The RING window (R231 to R234) -/

def rrDONE : Nat := 1
def rrBAD_CTX : Nat := 2
def rrNOT_DISABLED : Nat := 3
def rrLIMIT : Nat := 4
def rrSTATE : Nat := 5
def rrNO_EFFECT : Nat := 6

/-- A write of RING_CMD with a defined ACTION. DEDUCED, log 33. -/
def ringCmd (a : Nat) (d : Dev) : Dev :=
  let n := fld RING_SEL.RING d
  if flag RING_STATUS.BUSY d then refuseRegT a RING_CMD.addr 0 n (ring n d).gen d
  else
    let d := setFld RING_STATUS.RING n d
    if !served d then d |> setFld RING_STATUS.RESULT rrSTATE |> refuseRegT a RING_CMD.addr rrSTATE n (ring n d).gen
    else
      let w := (List.range 8).map (fun k => rdReg (RING_CTX.addr k) d)
      { d with rings := { d.rings with action := some (a, n, w) } } |> setFlag RING_STATUS.BUSY true

/-- The checks of R232 on a context. -/
def ctxOk (r : Ring) : Bool :=
  let lg := r.log2
  let frame := r.typ == 2
  let win := r.typ == 3
  decide (4 ≤ lg) && decide (lg ≤ 24) && decide (r.base % 64 = 0) && decide (r.base + 32 * 2 ^ lg ≤ 2 ^ 64) &&
  (frame || win || r.w6 == 0) && (win || r.w7 == 0) && (!(frame || win) || r.stream != 3) &&
  (!win || (decide (r.x0 % 8 = 0) && decide (r.w % 8 = 0) && decide (8 ≤ r.w) && decide (r.w ≤ 4096) &&
    decide (r.x0 + r.w ≤ 4096) && decide (1 ≤ r.h) && decide (r.h ≤ 3072) && decide (r.y0 + r.h ≤ 3072)))

/-- The limit of R228, and the rings ENABLED or PAUSED that count toward it. -/
def typeLimit (t : Nat) : Option Nat :=
  if t = 0 then some 16 else if t = 1 then some 64 else if t = 2 then some 1 else if t = 3 then some 16
  else if t = 6 then some 4 else if t = 7 then some 1 else none
def limitReached (r : Ring) (d : Dev) : Bool :=
  let n := (d.rings.tab.filter (fun x => x.2.on && x.2.typ == r.typ && (r.typ != 2 || x.2.stream == r.stream))).length
  match typeLimit r.typ with
  | some k => decide (k ≤ n)
  | none => false

/-- RW bits of the context words 0, 1, 2, 5, 6 and 7 (R229). -/
def ctxMask (k : Nat) : BitVec 32 :=
  if k = 2 then 0x00FF07FF#32 else if k = 5 then 0x000000FF#32 else if k = 6 then 0xCFFF0FFF#32
  else if k = 7 then 0x1FFF1FFF#32 else 0xFFFFFFFF#32

/-- A device-to-host descriptor that holds something completes, after the piece being written (R233). -/
def ringFlush (n : Nat) (d : Dev) : Dev :=
  let r := ring n d
  match r.cur with
  | none => d
  | some c => if r.typ = 2 then closeCur n (framePart c false) d else if r.typ = 3 then closeWindow n false d
    else closeRecord n (slate32 d) d

/-- Every piece handed over is written. DEDUCED, log 33. -/
def ringDrain (n : Nat) : Nat → Dev → Dev
  | 0, d => d
  | k + 1, d => if (ring n d).jobs.isEmpty then d else ringDrain n k (pieceWritten n d)

/-- A card-load descriptor being acted on is finished; one that waits completes with STATE, and the blocks before it stand
(R159, R162, R169, R233). DESIGN CHOICE, log 33. -/
def cardFinish (n : Nat) : Nat → Dev → Dev
  | 0, d => d
  | k + 1, d =>
    match cardJob n d with
    | none => d
    | some j =>
      if j.wait = 1 ∨ j.wait = 2 then endCardJob j dsSTATE d
      else cardFinish n k (if j.wait = 3 then bulkComplete n d
        else if (blkHdr j.rest).kind = 1 then cardEntries n d else cardBulk n 12356 d)

/-- ENABLE of a DISABLED ring whose context passes: everything starts from its base. -/
def ringEnable (n : Nat) : Dev → Dev :=
  modRing n (fun r => { r with
    st := rgENABLED, gen := (r.gen + 1) % 256, err := 0, pidx := 0, pwrap := 0, cidx := 0, cwrap := 0, tpos := 0
    done := [], usable := [], cur := none, jobs := [], piece := 0, since := 0, epoch := r.epoch + 1 })

/-- DISABLE (R233). DEDUCED, log 33. -/
def ringDisable (n : Nat) (d : Dev) : Dev :=
  let fuel := match cardJob n d with
    | some j => 2 * j.rest.length + 2
    | none => 0
  d |> cardFinish n fuel |> ringFlush n |> (fun d => ringDrain n ((ring n d).jobs.length + 1) d)
    |> setRingSt n rgDISABLED |> modRing n (fun r => { r with usable := [], cur := none, jobs := [] }) |> dropHeld n

/-- An action is applied to ring `n`: its result. DEDUCED, log 33. -/
def ringAct (a n : Nat) (w : List (BitVec 32)) (d : Dev) : Nat × Dev :=
  let r := ring n d
  let word (k : Nat) : BitVec 32 := w.getD k 0 &&& ctxMask k
  if a = 1 then
    (rrDONE, forD (List.range 8) (fun k d => wrReg (RING_CTX.addr k) (r.ctxWord k) d) d)
  else if a = 2 then
    if r.st ≠ rgDISABLED then (rrNOT_DISABLED, d)
    else (rrDONE, modRing n (fun r => { r with
      w0 := word 0, w1 := word 1, w2 := word 2, w5 := word 5, w6 := word 6, w7 := word 7 }) d)
  else if a = 3 then
    if r.st ≠ rgDISABLED then (rrNOT_DISABLED, d)
    else if !ctxOk r then (rrBAD_CTX, d)
    else if limitReached r d then (rrLIMIT, d)
    else (rrDONE, ringEnable n d)
  else if a = 4 then (if r.on then (rrDONE, ringDisable n d) else (rrNO_EFFECT, d))
  else if a = 5 then
    if r.st = rgENABLED then (rrDONE, d |> ringFlush n |> setRingSt n rgPAUSED) else (rrNO_EFFECT, d)
  else if a = 6 then (if r.st = rgPAUSED then (rrDONE, setRingSt n rgENABLED d) else (rrNO_EFFECT, d))
  else (if r.st = rgERROR then (rrDONE, setRingSt n rgDISABLED d) else (rrNO_EFFECT, d))

/-- The action under way has been applied (R231). -/
def ringActionDone (d : Dev) : Dev :=
  match d.rings.action with
  | none => d
  | some (a, n, w) =>
    let x := ringAct a n w { d with rings := { d.rings with action := none } }
    x.2 |> setFld RING_STATUS.RESULT x.1 |> setFlag RING_STATUS.BUSY false
      |> whenD (x.1 != rrDONE) (refuseRegT a RING_CMD.addr x.1 n (ring n d).gen)

/-- RING_INFO.ACTIVE. -/
def ringsActive (d : Dev) : Nat := (d.rings.tab.filter (fun x => x.2.on)).length

/-- RING_CNT of the selected ring as it reads; a read clears it. -/
def ringCnt (d : Dev) : BitVec 32 :=
  let r := ring (fld RING_SEL.RING d) d
  BitVec.ofNat 32 (min 0xFFFF r.dropped * 65536 + min 0xFFFF r.overflow)
def ringCntClear (d : Dev) : Dev := modRing (fld RING_SEL.RING d) (fun r => { r with dropped := 0, overflow := 0 }) d

/-! ### Descriptors (R226, R228, R234, R237, R238) -/

/-- The module reads a descriptor of ring `n`: one is posted and not read, requests may be issued, and the ring is ENABLED
and served; up to 8 are read ahead of use (R250). -/
def fetches (n : Nat) (d : Dev) : Bool :=
  let r := ring n d
  served d && !linkBlocked d && r.st == rgENABLED && decide (0 < r.unread) &&
  (if r.typ = 0 then true else if r.typ = 1 then servedType 1 d && (cardJob n d).isNone
   else decide (r.usable.length < 8))

/-- The descriptor as read from its position. -/
def descOf (x : DescIn) (pos : Nat) : Desc :=
  { pos := pos, addr := x.addr % 2 ^ 64, len := x.len % 2 ^ 24, flags := x.flags % 256, tag := x.tag % 2 ^ 32 }

/-- Where the next descriptor of ring `n` lies in host memory. -/
def fetchAddr (n : Nat) (d : Dev) : Nat :=
  let r := ring n d
  (r.base + 32 * (r.tpos % r.size)) % 2 ^ 64

/-- The next descriptor's place in the ring has been read. -/
def fetchTaken (n : Nat) (d : Dev) : Dev :=
  d |> emitOut (.hostRead (fetchAddr n d) 32) |> modRing n (fun r => { r with tpos := (r.tpos + 1) % (2 * r.size) })

/-- The descriptor read fails (R234): ERROR, cause FETCH. -/
def fetchFailed (n : Nat) (d : Dev) : Dev :=
  let a := fetchAddr n d
  d |> emitOut (.hostRead a 32) |> violLog 6 a 0 n |> ringError n 2

/-- A host-to-device descriptor whose checks it passes goes on with its buffer; `none` where reading that failed. -/
def fetchChecked (n : Nat) (x : Desc) (buf : Option (List (BitVec 8)))
    (act : Desc → List (BitVec 8) → Dev → Dev) (d : Dev) : Dev :=
  let c := descCheck (ring n d) x
  if c ≠ 0 then descFails n x c d
  else
    let d := emitOut (.hostRead x.addr x.len) d
    match buf with
    | none => d |> violLog 5 x.addr 0 n |> complete n x dsRDERR 0 0 (slate32 d)
    | some b => act x b d

/-! ### Commands (R246 to R248) -/

def opNOP : Nat := 0x01
def opSTART : Nat := 0x02
def opSTOP : Nat := 0x03
def opTAKE : Nat := 0x04
def opCOMMIT : Nat := 0x05
def opENTER_SAFE : Nat := 0x06
def opRESUME : Nat := 0x07
def opRESET : Nat := 0x08
def opSHUTTER : Nat := 0x10
def opVALVE : Nat := 0x11
def opRELAY : Nat := 0x12
def opSPARE : Nat := 0x13
def opHOUSEKEEPING : Nat := 0x14
def opINDICATOR : Nat := 0x15

/-- The channels of an actuator command (13_actuators.md R340). -/
def opChannels (op : Nat) : List Nat :=
  if op = opSHUTTER then [0, 1] else if op = opVALVE then [2, 3] else if op = opRELAY then [4]
  else if op = opSPARE then [5] else []

/-- A command block passes the second check of R248. -/
def blkOk (op : Nat) (b : CmdBlk) : Bool :=
  let p0 := b.params.getD 0 0
  let rest := (b.params.drop 1).all (· == 0)
  b.rsvOk &&
  (if op = opNOP ∨ op = opSTART ∨ op = opSTOP ∨ op = opCOMMIT ∨ op = opENTER_SAFE ∨ op = opRESUME ∨ op = opRESET then
     b.target == 0 && p0 == 0 && rest
   else if op = opTAKE then b.target == 0 && decide (p0 ≤ 5) && rest
   else if opSHUTTER ≤ op ∧ op ≤ opSPARE then
     (opChannels op).contains b.target && (p0 == 1 || p0 == 2) && rest
   else if op = opHOUSEKEEPING then b.target == 0 && decide (1 ≤ p0) && decide (p0 ≤ 6) && rest
   else if op = opINDICATOR then b.target == 0 && (p0 == 1 || p0 == 2) && rest
   else false)

/-- The command acts on a field-side unit, which makes the comparison of generations itself (R247, R265). -/
def fieldOp (op : Nat) : Bool := decide (opSHUTTER ≤ op) && decide (op ≤ opINDICATOR)

/-- The states in which a command is legal (R247). -/
def opLegal (op : Nat) (d : Dev) : Bool :=
  let m := mstate d
  let idle := m == stIDLE
  let live := m == stLIVE
  let cold := m == stCOLD
  if op = opNOP then idle || live || cold
  else if op = opSTART then idle
  else if op = opSTOP then live
  else if op = opTAKE then live && !inTake d
  else if op = opCOMMIT then idle || live
  else if op = opENTER_SAFE then idle || live || cold
  else if op = opRESUME then m == stSAFE
  else if op = opRESET then served d
  else if op = opSHUTTER then idle || (live && !inTake d)
  else if op = opVALVE ∨ op = opRELAY ∨ op = opSPARE then idle || live
  else idle || live || cold

/-- The effect of an accepted command. -/
def cmdEffect (op : Nat) (b : CmdBlk) (c : CmdRef) (d : Dev) : Dev :=
  let p0 := b.params.getD 0 0
  let gen := fld GLB_MSTATE.GEN d
  let ok (d : Dev) : Dev := completeCmd c dsOK (slate32 d) gen d
  let no (d : Dev) : Dev := completeCmd c dsSTATE (slate32 d) gen d
  if op = opNOP then ok d
  else if op = opSTART then waitAdd wkSTART (some c) d
  else if op = opSTOP then waitAdd wkSTOP (some c) d
  else if op = opTAKE then takeTrigger p0 ttHOST (some c) d
  else if op = opCOMMIT then (if commitRefused d then no d else commitAccept c d)
  else if op = opENTER_SAFE then d |> enterSafe 4 |> ok
  else if op = opRESUME then (if resumeOk d then waitAdd wkRESUME (some c) d else no d)
  else if op = opRESET then d |> ok |> srcAssert 4
  else if op = opHOUSEKEEPING then sendHkCmd c b.checkGen (b.gen % 256) p0 d
  else if op = opINDICATOR then sendIndicator c b.checkGen (b.gen % 256) (p0 == 2) d
  else sendActCmd c b.checkGen (b.gen % 256) b.target p0 d

/-- GEN of the state word that the command's unit itself holds (10_events_errors.md R265). -/
def ownGen (op : Nat) (b : CmdBlk) (d : Dev) : Nat :=
  if !fieldOp op then fld GLB_MSTATE.GEN d else if op ≤ opSPARE then (chan b.target d).gen else d.fl.gen

/-- GEN of the state word of the command's unit, as the module shows it (10_events_errors.md R262): the unit's own while the
crossing is UP, else that of its mirror. DEDUCED, log 32. -/
def shownGen (op : Nat) (b : CmdBlk) (d : Dev) : Nat :=
  if fieldOp op && !xUp d then unitGen (if op ≤ opSPARE then b.target else 8) d else ownGen op b d

/-- A TAKE outside LIVE or in a take is a refused trigger (07_takes.md R178, R197). -/
def cmdState (op : Nat) (b : CmdBlk) (c : CmdRef) (d : Dev) : Dev :=
  if op = opTAKE then takeTrigger (b.params.getD 0 0) ttHOST (some c) d
  else completeCmd c dsSTATE (slate32 d) (shownGen op b d) d

/-- A command block of command ring `n` is checked and acted on. The field companion compares a field command's generation
itself when that command reaches it; of one that the module refuses, STALE is told from STATE by the companion's own word
while the crossing is UP. DEDUCED, log 32. -/
def cmdRun (n op : Nat) (b : CmdBlk) (x : Desc) (d : Dev) : Dev :=
  let c : CmdRef := { ring := n, pos := x.pos, flags := x.flags, tag := x.tag, op := op, target := b.target
                      genCarried := if b.checkGen then b.gen % 256 else 0, epoch := (ring n d).epoch }
  let refused := !opLegal op d || (fieldOp op && fieldRefuses d)
  let own := ownGen op b d
  if !blkOk op b then completeCmd c dsBADREC (slate32 d) (shownGen op b d) d
  else if b.checkGen && (!fieldOp op || (refused && xUp d)) && b.gen % 256 != own then
    completeCmd c dsSTALE (slate32 d) own d
  else if refused then cmdState op b c d
  else cmdEffect op b c d

/-- A command block in its 32 bytes (R246). -/
def blkOf (bs : List (BitVec 8)) : Nat × CmdBlk :=
  let w (k : Nat) : Nat := leNat ((bs.drop (4 * k)).take 4)
  (w 0 % 256, { checkGen := bitN (w 0) 8, gen := bitsN (w 0) 23 16, target := w 1 % 2 ^ 18,
                params := (List.range 6).map (fun k => w (2 + k))
                rsvOk := bitsN (w 0) 15 9 == 0 && bitsN (w 0) 31 24 == 0 && bitsN (w 1) 31 18 == 0 })

/-- The next descriptor of command ring `n` is `x`, its block the command `op` with `b`. DEDUCED, log 32. -/
def hostCommand (op n : Nat) (x : DescIn) (b : CmdBlk) (d : Dev) : Dev :=
  if (ring n d).typ ≠ 0 || !fetches n d then d
  else
    let y := descOf x (ring n d).tpos
    d |> fetchTaken n |> fetchChecked n y (some []) (fun y _ => cmdRun n op b y)

/-- A descriptor of ring `n`, and the buffer of a host-to-device one, has been read. DEDUCED, log 33. -/
def fetchDone (n : Nat) (f : FetchIn) (d : Dev) : Dev :=
  if !fetches n d then d
  else
    let r := ring n d
    let go (x : DescIn) (buf : Option (List (BitVec 8))) (d : Dev) : Dev :=
      let y := descOf x r.tpos
      let d := fetchTaken n d
      if r.typ = 0 then fetchChecked n y buf (fun y bs => let c := blkOf bs
        cmdRun n c.1 c.2 y) d
      else if r.typ = 1 then fetchChecked n y buf (cardFetched n) d
      else d |> modRing n (fun r => { r with usable := r.usable ++ [y] }) |> takeUp n
    match f with
    | .failed => fetchFailed n d
    | .bufFailed x => go x none d
    | .ok x buf => go x (some (buf.take (x.len % 2 ^ 24))) d

end Sys2Proof.Machine
end

