-- ==== Sys2Proof/Machine/Router.lean ====
section
/-! DEFINITION. Accesses to BAR0 from PCI Express and from the management port: which are served, paired words, access
codes, reserved encodings, and what a write or a read brings beside the value (00_scope.md R18 to R23; 09_host_rings.md
R224, R225; 11_management_port.md R268, R281, R282, R284; 12_field_side.md R307, R308; 18_register_index.md R420). -/

namespace Sys2Proof.Machine

/-! ### Where an access goes -/

/-- What an access meets: a served register, an unimplemented address, a block that is not served, or nothing that
answers. -/
inductive Target where
  | reg
  | unimplemented
  | unpowered
  | nobody
  deriving DecidableEq, Repr

/-- A mirror's address (12_field_side.md R307): mirror indices 0 to 127 lie from 0xD100. -/
def mirrorAddr (a : Nat) : Bool := decide (0xD100 ≤ a) && decide (a < 0xD300)

/-- Some bit of a register acts on a write. -/
def RegInfo.writable (r : RegInfo) : Bool := (r.rw ||| r.w1c ||| r.wo) != 0

/-- An address that a read, or a write, finds implemented (R308, R420): a read-only mirror is not for writes. -/
def implemented (a : Nat) (write : Bool) : Bool :=
  match regInfo a with
  | some r => !(write && mirrorAddr a && !r.writable)
  | none => false

/-- An address inside a block that the port reaches (R268, R420). -/
def portBlock (a : Nat) : Bool :=
  decide (a < 0xF000) || (decide (0x10000 ≤ a) && decide (a < 0x39000))

/-- What the port's access to an address meets (R268, R281, R282). -/
def portTarget (a : Nat) (write : Bool) (d : Dev) : Target :=
  if !auxOn d then .nobody
  else if !portBlock a then .unimplemented
  else if !auxAddr a && !served d then .unpowered
  else if implemented a write then .reg else .unimplemented

/-- The address is served through PCI Express (R224): GLB and the MSI-X structures in BOOT, everything after it. -/
def pcieServed (a : Nat) (d : Dev) : Bool :=
  served d || (mstate d == stBOOT && (decide (a < 0x1000) || decide (0x80000 ≤ a)))

/-- What an access through PCI Express meets (R224, R225). -/
def pcieTarget (a : Nat) (write : Bool) (d : Dev) : Target :=
  if !mainRuns d then .nobody
  else if pcieServed a d && implemented a write then .reg else .unimplemented

/-- What an access meets. -/
def target (p : Path) (a : Nat) (write : Bool) (d : Dev) : Target :=
  match p with
  | .pcie _ => pcieTarget a write d
  | .port => portTarget a write d

/-! ### Pairs (R19, R284) -/

/-- The low words of the paired registers: those named LO and HI, BASE of the ring context and the ADDR of a violation, and
the card slots of CAL_RD_DATA_n. The MSI-X table keeps the form of PCI Express. DEDUCED, log 50. -/
def pairLows : List Nat :=
  [GLB_SERIAL_LO.addr, SLATE_NO_LO.addr, SLATE_TIME_LO.addr, SLATE_START_LO.addr, SLATE_TLOAD_LO.addr,
   SLATE_NLOAD_LO.addr, NVS_PW_LO.addr, RING_CTX.addr 0] ++
  (List.range 16).map (fun n => EVT_VIOL0.addr n) ++ (List.range 64).map (fun k => CAL_RD_DATA.addr (2 * k))

/-- Address `a` is the low word of a pair now: CAL_RD_DATA_n holds slots of 64 bits after a read of KIND CARDS alone. -/
def pairLow (a : Nat) (d : Dev) : Bool :=
  pairLows.contains a && (d.cal.rdCards || !(decide (CAL_RD_DATA.addr 0 ≤ a) && decide (a < CAL_RD_DATA.addr 128)))

def pathRegs (p : Path) (d : Dev) : PathRegs :=
  match p with
  | .pcie _ => d.bus.pcie
  | .port => d.bus.port

def modPath (p : Path) (f : PathRegs → PathRegs) (d : Dev) : Dev :=
  match p with
  | .pcie _ => { d with bus := { d.bus with pcie := f d.bus.pcie } }
  | .port => { d with bus := { d.bus with port := f d.bus.port } }

/-! ### What registers read as -/

/-- A field set in a value. -/
def putF (f : Fld) (x : Nat) (v : BitVec 32) : BitVec 32 := setBits v f.hi f.lo x

/-- The enabled sources that are raised, rising. -/
def evtActive (d : Dev) : List Nat := (List.range 256).filter (fun s => flag (evtStat s) d && flag (evtEn s) d)

/-- The low or the high word of a number. DEDUCED, log 36. -/
def lowW (x : Nat) : BitVec 32 := BitVec.ofNat 32 x
/-- DEDUCED, log 36. -/
def highW (x : Nat) : BitVec 32 := BitVec.ofNat 32 (x / 2 ^ 32)

/-- The present value of a register, with those that are computed (R20: a field that only acts on writes reads 0). DEDUCED, log 25. -/
def regView (p : Path) (a : Nat) (d : Dev) : BitVec 32 :=
  match regInfo a with
  | none => 0
  | some r =>
    let n := (a - r.base) / r.stride
    let v := rdReg a d &&& ~~~ r.wo
    let b := r.base
    if b < 0x4000 then
      if b = GLB_ID.addr then putF GLB_ID.DEVICE (0x8840 + d.pw.strap) v
      else if b = GLB_VARIANT.addr then
        let v := putF GLB_VARIANT.STRAP d.pw.strap v
        if fld GLB_VARIANT.VARIANT d = 0 then putF GLB_VARIANT.VARIANT d.pw.strap v else v
      else if b = SLATE_NO_LO.addr then lowW d.sl.no
      else if b = SLATE_NO_HI.addr then highW d.sl.no
      else if b = SLATE_TIME_LO.addr then lowW (modTime d)
      else if b = SLATE_TIME_HI.addr then highW (modTime d)
      else if b = SLATE_START_LO.addr then lowW d.sl.start
      else if b = SLATE_START_HI.addr then highW d.sl.start
      else if b = HERD_STATUS.addr then putF HERD_STATUS.POS (posOf d) v
      else if b = FPA_STATUS.addr then putF FPA_STATUS.READING (b2n (isLive d)) v
      else v
    else if b < 0x8000 then
      if b = TAKE_DEPOT.addr then putF TAKE_DEPOT.LO_AGE (depotAge d) v
      else if b = TAKE_EMIT.addr then putF TAKE_EMIT.FIELD (b2n (erefFieldView d)) v
      else if b = TAKE_EREF.addr 0 then BitVec.ofNat 32 (erefView n d)
      else if b = CELL_MAPW.addr 0 then mapStaged (mapwIndex n d) d
      else if b = RING_INFO.addr then BitVec.ofNat 32 (ringsActive d)
      else if b = RING_CNT.addr then ringCnt d
      else if b = RING_LINK.addr then
        v |> putF RING_LINK.D3HOT (b2n d.link.d3hot) |> putF RING_LINK.BME (b2n d.link.busMaster)
          |> putF RING_LINK.LINK_UP (b2n d.link.up) |> putF RING_LINK.WIDTH d.link.width
          |> putF RING_LINK.SPEED d.link.speed
      else if b = EVT_SUMMARY.addr then
        match evtActive d with
        | [] => 0
        | s :: _ => (0 : BitVec 32) |> putF EVT_SUMMARY.ANY 1 |> putF EVT_SUMMARY.LOWEST s
      else if b = EVT_DAILIES.addr then putF EVT_DAILIES.QUEUED d.evt.queue.length v
      else v
    else
      if b = GAF_HOT.addr then
        let h := hottest d
        (0 : BitVec 32) |> putF GAF_HOT.SENSOR h.1 |> putF GAF_HOT.TEMP (ux 16 h.2)
      else if b = GAF_COLD.addr then
        let h := coldest d
        (0 : BitVec 32) |> putF GAF_COLD.SENSOR h.1 |> putF GAF_COLD.TEMP (ux 16 h.2)
      else if b = GAF_T.addr 0 then
        BitVec.ofNat 32 (ux 16 (sensor (2 * n) d).slate + 65536 * ux 16 (sensor (2 * n + 1) d).slate)
      else if b = GAF_BROKEN.addr 0 then
        BitVec.ofNat 32 (bitsOf ((List.range 32).filter (fun i => (sensor (32 * n + i) d).broken)))
      else if b = NVS_STATUS.addr then putF NVS_STATUS.PEND (heldMerge d.nvc.held).length v
      else if b = FLD_XSTATE.addr then putF FLD_XSTATE.WR_PEND (wrPend d) v
      else if b = FLD_MREAD.addr then (pathRegs p d).mread
      else v

/-! ### Reserved encodings (R22) -/

/-- The number of sensors ignored when word `n` of GAF_IGN holds `v`. -/
def ignCount (n : Nat) (v : BitVec 32) (d : Dev) : Nat :=
  ((List.range 7).map (fun i => popcount 32 (if i = n then v else rdReg (GAF_IGN.addr i) d).toNat)).foldl (· + ·) 0

/-- Sources that are never asserted (10_events_errors.md R254 and the source tables of the chapters). -/
def reservedSource (s : Nat) : Bool :=
  [(6, 15), (27, 31), (51, 63), (134, 135), (153, 159), (169, 191), (200, 207), (219, 219), (222, 223), (228, 231),
   (239, 239), (247, 247), (253, 253)].any (fun x => decide (x.1 ≤ s) && decide (s ≤ x.2))

/-- A value, taken as a whole, holds no reserved encoding in the register at `r`'s instance `n`; a rule of its own decides
for CAL_RD_CMD (R172), EVT_FORCE (R266) and NVS_CMD.REGION (R401). DEDUCED, log 36. -/
def encodingOk (b n : Nat) (v : BitVec 32) (d : Dev) : Bool :=
  let g (f : Fld) : Nat := getBits v f.hi f.lo
  let within (f : Fld) (lo hi : Nat) : Bool := decide (lo ≤ g f) && decide (g f ≤ hi)
  if b < 0x4000 then
    if b = FPA_MODE.addr then fpaModeOk v
    else if b = FPA_INT.addr then fpaIntOk v
    else if b = FPA_PLAUS.addr then g FPA_PLAUS.COUNT != 0
    else if b = FPA_GRP_CTRL.addr then g FPA_GRP_CTRL.ACTION != 0
    else if b = SLATE_TRIM.addr then decide ((sx 16 (g SLATE_TRIM.PPB_100)).natAbs ≤ 10000)
    else if b = HERD_CFG.addr then g HERD_CFG.MAX_BLIND != 0
    else true
  else if b < 0x5000 then
    if b = CAL_LEDGER_CFG.addr then within CAL_LEDGER_CFG.SCENE_MAX 0 1024
    else if b = PIPE_CLK.addr then divLegal (g PIPE_CLK.DIV)
    else if b = PIPE_HIST.addr then within PIPE_HIST.SHIFT 0 8
    else if b = PIPE_ENG_CTRL.addr then within PIPE_ENG_CTRL.ACTION 1 2
    else if b = TAKE_CFG.addr then g TAKE_CFG.SETTLE != 0
    else if b = TAKE_LIM.addr then
      g TAKE_LIM.MAP_DELTA != 0 && within TAKE_LIM.JUMP 1 63 && within TAKE_LIM.RG_STEP 1 100 && g TAKE_LIM.GS_TOL != 0
    else if b = TAKE_ST.addr then g TAKE_ST.DIV != 0
    else true
  else if b < 0x8000 then
    if b = CELL_RT_IDX.addr then g CELL_RT_IDX.IDX % 2 == 0
    else if b = CELL_RT_CMD.addr then within CELL_RT_CMD.ACTION 1 4
    else if b = CELL_ZONE0.addr 0 then decide (g (CELL_ZONE0.WARN 0) ≤ g (CELL_ZONE0.ALARM 0))
    else if b = CELL_ZONE2.addr 0 then g (CELL_ZONE2.PERSIST 0) != 0 && within (CELL_ZONE2.AREA 0) 1 48
    else if b = RING_CMD.addr then g RING_CMD.ACTION != 0
    else if b = EVT_FORCE.addr then !reservedSource (g EVT_FORCE.SOURCE)
    else true
  else
    if b = GAF_PLIM.addr then within GAF_PLIM.LIMIT 10 80
    else if b = GAF_GRAD.addr then within GAF_GRAD.FLOOR 0 8 && decide (5 ≤ g GAF_GRAD.LIMIT)
    else if b = GAF_WARM.addr then within GAF_WARM.POWER 10 80
    else if b = GAF_IGN.addr 0 then decide (ignCount n v d ≤ 16)
    else if b = NVS_CMD.addr then within NVS_CMD.ACTION 1 7
    else if b = FLP_CFG.addr then g FLP_CFG.CLK != 3
    else if b = FLP_CMD.addr then within FLP_CMD.ACTION 1 3
    else if b = MGP_CFG.addr then within MGP_CFG.W 4 32
    else if b = MGP_LEN.addr then within MGP_LEN.LEN 1 4096
    else if b = ENGP_CMD.addr then g ENGP_CMD.ACTION != 0
    else true

/-! ### Event registers (R256, R260, R266) -/

/-- A write of EVT_EN_n: a source enabled while it is raised makes its request at once. -/
def evtEnWrite (n : Nat) (v : BitVec 32) (d : Dev) : Dev :=
  let old := rdReg (EVT_EN.addr n) d
  let d := wrReg (EVT_EN.addr n) v d
  forD (List.range 32) (fun i d =>
    let s := 32 * n + i
    if v.getLsbD i && !old.getLsbD i && flag (evtStat s) d then msixRequest (fld (evtVec s) d) d else d) d

/-- EVT_VIOL_CNT.CLEAR. -/
def violClear (d : Dev) : Dev := d |> setFld EVT_VIOL_CNT.HELD 0 |> setFlag EVT_VIOL_CNT.OVER false

/-! ### Writes -/

/-- The bits a write leaves (R20, R21). DEDUCED, log 36. -/
def merged (r : RegInfo) (old v : BitVec 32) : BitVec 32 :=
  (old &&& ~~~ (r.rw ||| r.wo) &&& ~~~ (v &&& r.w1c)) ||| (v &&& (r.rw ||| r.wo))

/-- SLATE_CMD (03_slate_and_herd.md R80). -/
def slateCmd (v : BitVec 32) (d : Dev) : Dev :=
  { d with sl := { d.sl with
      loadTime := d.sl.loadTime || getBits v 0 0 == 1
      stepTime := d.sl.stepTime || getBits v 1 1 == 1
      loadNo := d.sl.loadNo || getBits v 2 2 == 1 } }

/-- FPA_GRP_CTRL (02_focal_plane.md R63): the action waits for the group's decision point. -/
def grpCtrl (v : BitVec 32) : Dev → Dev :=
  modGrp (getBits v FPA_GRP_CTRL.GROUP.hi FPA_GRP_CTRL.GROUP.lo) (fun g => { g with
    act := getBits v FPA_GRP_CTRL.ACTION.hi FPA_GRP_CTRL.ACTION.lo })

/-- What a legal write of merged value `v` does at instance `n` of the register at `b`. PRESUMED, log 4. -/
def writeEffect (a b n : Nat) (v : BitVec 32) (d : Dev) : Dev :=
  let g (f : Fld) : Nat := getBits v f.hi f.lo
  let keep (d : Dev) : Dev := wrReg a v d
  if b < 0x4000 then
    if b = FPA_MODE.addr ∨ b = FPA_INT.addr then d |> keep |> fpaStaged
    else if b = FPA_GRP_CTRL.addr then grpCtrl v d
    else if b = SLATE_CMD.addr then slateCmd v d
    else if b = HERD_CFG.addr then d |> keep |> herdCfgWritten
    else keep d
  else if b < 0x5000 then
    if b = PIPE_ENG_CTRL.addr then engCtrl (g PIPE_ENG_CTRL.ACTION) (g PIPE_ENG_CTRL.ENGINE) d
    else if b = CAL_RD_CMD.addr then calRdCmd v d
    else if b = CAL_RGAIN.addr 0 then rgainWrite a v d
    else if b = TAKE_STGATE.addr 0 then d |> keep |> stgateWritten
    else keep d
  else if b < 0x8000 then
    if b = CELL_ACK.addr then cellAck (g CELL_ACK.ALL == 1) (g CELL_ACK.CELL) d
    else if b = CELL_MAP_CTRL.addr then
      d |> setFld CELL_MAP_CTRL.BASE (g CELL_MAP_CTRL.BASE) |> whenD (g CELL_MAP_CTRL.APPLY == 1) mapApply
    else if b = CELL_RT_IDX.addr then rtIdxWrite v d
    else if b = CELL_RT_DATA.addr then rtDataWrite v d
    else if b = CELL_RT_CMD.addr then rtCmd (g CELL_RT_CMD.ACTION) d
    else if b = CELL_MAPW.addr 0 then mapwWrite n v d
    else if b = RING_CMD.addr then ringCmd (g RING_CMD.ACTION) d
    else if b = EVT_EN.addr 0 then evtEnWrite n v d
    else if b = EVT_FORCE.addr then raise (g EVT_FORCE.SOURCE) d
    else if b = EVT_VIOL_CNT.addr then
      d |> wrReg a (v &&& ~~~ (0x10 : BitVec 32)) |> whenD (g EVT_VIOL_CNT.CLEAR == 1) violClear
    else keep d
  else if b < 0xC000 then
    if b = GAF_IGN.addr 0 then d |> keep |> setFld GAF_STATUS.IGNORED (ignCount n v d)
    else if b = NVS_CMD.addr then nvsCmd v d
    else if b = FLP_CFG.addr then d |> keep |> flashCfg
    else if b = FLP_CMD.addr then flpCmd v d
    else if b = FLP_RESET.addr then flpReset v d
    else if b = MGP_ATTN.addr ∨ b = MGP_ATTN_EN.addr then attnChange keep d
    else keep d
  else
    if b = EMT_CTRL.addr then
      d |> wrReg a (v &&& ~~~ (4 : BitVec 32)) |> whenD (g EMT_CTRL.APPLY == 1) emtApply
    else if b = FLD_XCTRL.addr then
      d |> whenD (g FLD_XCTRL.REFRESH == 1) xRefresh |> whenD (g FLD_XCTRL.ECHO == 1) xEcho
    else if 0xD400 ≤ b ∧ b < 0xD800 then shotWrite a v.toNat d
    else if b = IND_NODE.addr 0 then d |> keep |> setFlag (IND_NODE.DIRTY n) true
    else if b = ENGP_CMD.addr then engpCmd (g ENGP_CMD.ACTION) d
    else if b = ENGP_PEEK_CMD.addr then engpPeek (g ENGP_PEEK_CMD.ENGINE) d
    else if b = MSIX_CTRL.addr 0 then d |> keep |> msixRelease
    else keep d

/-- The bits of a register that a write may set: GAF_IGN_6 covers sensors 192 to 199. -/
def rwMask (a : Nat) (r : RegInfo) : RegInfo := if a = GAF_IGN.addr 6 then { r with rw := 0xFF#32 } else r

/-- A write of one 32-bit word reaches a served register (DEDUCED, log 36). A high word written through a path that has written
no low word since its reset leaves the low word that the register holds, where R19 names no other. DESIGN CHOICE, log 71. -/
def regWrite (p : Path) (a : Nat) (v : BitVec 32) (d : Dev) : Dev :=
  match regInfo a with
  | none => d
  | some r0 =>
    let r := rwMask a r0
    let n := (a - r.base) / r.stride
    if !r.writable then d
    else if pairLow a d then modPath p (fun x => { x with low := mput x.low a v }) d
    else if mirrorAddr a then mirrorWrite a v.toNat (v &&& r.rw).toNat d
    else
      let new := merged r (rdReg a d) v
      if r.base = CELL_RT_IDX.addr ∧ flag CELL_RT_STATUS.BUSY d then rtIdxWrite new d
      else if !encodingOk r.base n new d then noteReserved a v d
      else
        let d := if pairLow (a - 4) d then
            match mfind (pathRegs p d).low (a - 4) with
            | some x => wrReg (a - 4) x d
            | none => d
          else d
        writeEffect a r.base n new d

/-- A write access of one word (R225, R281, R282): a refused one through PCI Express is dropped and logged. DEDUCED, log 36. -/
def busWrite (p : Path) (a : Nat) (v : BitVec 32) (d : Dev) : Dev :=
  match target p a true d with
  | .reg => regWrite p a v d
  | .unimplemented => (match p with
    | .pcie req => violLog 2 a 0 req.val d
    | .port => d)
  | _ => d

/-! ### Reads -/

/-- What a read takes with it: fields that it clears (R20), GEN and AGE of a mirror (R307). DEDUCED, log 36. -/
def readEffect (p : Path) (a : Nat) (d : Dev) : Dev :=
  match regInfo a with
  | none => d
  | some r =>
    if r.base = RING_CNT.addr then ringCntClear d
    else
      let d := if r.rc = 0 then d else wrReg a (rdReg a d &&& ~~~ r.rc) d
      if mirrorAddr a then
        let k := (a - 0xD100) / 4
        modPath p (fun x => { x with
          mread := (0 : BitVec 32) |> putF FLD_MREAD.GEN (mirGen k d) |> putF FLD_MREAD.AGE (mirAge k d) }) d
      else d

/-- The value that a read of one word returns (R19): of a high word whose low word the path has read, the one latched by its
last read, however often it is read; else the present value. DEDUCED, log 36. -/
def readValue (p : Path) (a : Nat) (d : Dev) : BitVec 32 :=
  match mfind (pathRegs p d).high a with
  | some x => if pairLow (a - 4) d then x else regView p a d
  | none => regView p a d

/-- A read of one word at a served register. -/
def regRead (p : Path) (a : Nat) (d : Dev) : Dev :=
  let d := if pairLow a d then
      let h := regView p (a + 4) d
      modPath p (fun x => { x with high := mput x.high (a + 4) h }) d
    else d
  readEffect p a d

/-- A read access of one word: the value goes to `readData`. DEDUCED, log 36. -/
def busRead (p : Path) (a : Nat) (d : Dev) : Dev :=
  match target p a false d with
  | .reg => { regRead p a d with readData := (readValue p a d).setWidth 64 }
  | .unimplemented => (match p with
    | .pcie req => d |> violLog 1 a 0 req.val |> emitOut .unsupported
    | .port => { d with readData := 0 })
  | .unpowered => { d with readData := 0 }
  | .nobody => d

/-! ### 64-bit accesses (R225) -/

/-- An aligned 64-bit access to the MSI-X table or the pending bit array. -/
def wideForm (a : Nat) : Bool := decide (0x80000 ≤ a) && decide (a % 8 = 0)

/-- A 64-bit write through PCI Express: served for the MSI-X structures alone. -/
def busWrite64 (req : Fin 65536) (a : Nat) (lo hi : BitVec 32) (d : Dev) : Dev :=
  if !mainRuns d then d
  else if wideForm a && pcieTarget a true d == .reg && pcieTarget (a + 4) true d == .reg then
    d |> regWrite (.pcie req) a lo |> regWrite (.pcie req) (a + 4) hi
  else violLog 2 a 0 req.val d

/-- A 64-bit read. -/
def busRead64 (req : Fin 65536) (a : Nat) (d : Dev) : Dev :=
  if !mainRuns d then d
  else if wideForm a && pcieTarget a false d == .reg && pcieTarget (a + 4) false d == .reg then
    { d with readData := (regView (.pcie req) (a + 4) d).setWidth 64 <<< 32 ||| (regView (.pcie req) a d).setWidth 64 }
  else d |> violLog 1 a 0 req.val |> emitOut .unsupported

/-! ### BAR2 (R224, R225, R235) -/

/-- A read of a doorbell: the low word, the high word, or both. -/
def doorbellRead (req : Fin 65536) (a : Nat) (wide : Bool) (d : Dev) : Dev :=
  if !mainRuns d then d
  else
    let n := a / 8
    if served d && decide (n < 262144) && decide (a % (if wide then 8 else 4) = 0) then
      { d with readData :=
          if wide then (doorbellHigh n d).setWidth 64 <<< 32 ||| (doorbellLow n d).setWidth 64
          else if a % 8 = 0 then (doorbellLow n d).setWidth 64 else (doorbellHigh n d).setWidth 64 }
    else d |> violLog 1 a 1 req.val |> emitOut .unsupported

/-- An access in an unserved form or to an address that is not implemented (R225). -/
def unservedAccess (write bar2 : Bool) (a req : Nat) (d : Dev) : Dev :=
  if !mainRuns d then d
  else d |> violLog (if write then 2 else 1) a (b2n bar2) req |> whenD (!write) (emitOut .unsupported)

end Sys2Proof.Machine
end

