-- ==== Sys2Proof/Machine/Mgmt.lean ====
section
/-! DEFINITION. The management port: frames, replies, the write buffer, faults and their records
(11_management_port.md R267 to R291). A frame is one command, taken when MP_SEL# rises. -/

namespace Sys2Proof.Machine

def modMgp (f : MgpCtl → MgpCtl) (d : Dev) : Dev := { d with mgp := f d.mgp }

/-! ### Formats (R271, R286, R287) -/

/-- The mode and the word length in force, and the bits of a quantity. -/
def mpCompat (d : Dev) : Bool := flag MGP_STATUS.COMPAT_IF d
def mpW (d : Dev) : Nat := fld MGP_STATUS.W_IF d
def quantityBits (w : Nat) : Nat := (32 + w - 1) / w * w
def mpQb (d : Dev) : Nat := quantityBits (mpW d)

/-- How many parts of `n` bits cover `x` bits. -/
def ceilDiv (x n : Nat) : Nat := (x + n - 1) / n

/-- A status word, and the 24 bits that open a compatibility reply. -/
def MgpReply.head (r : MgpReply) : Nat := r.op * 2 ^ 28 + r.flags * 2 ^ 22 + r.count
def MgpReply.head24 (r : MgpReply) : Nat := r.flags / 4 % 16 * 2 ^ 20 + r.waddr % 2 ^ 16

/-- A reply carries data. -/
def MgpReply.reads (r : MgpReply) : Bool := r.op == 1 || r.op == 3

/-- The reply's first quantity as the format in force sends it. -/
def replyHead (d : Dev) : Nat :=
  let r := d.mgp.reply
  if mpCompat d && !r.recovery then r.head24 else r.head

/-! ### Accesses (R272, R278, R280 to R282) -/

/-- The fault of an access to a word: 2 PWR, 3 ADDR. -/
def wordFault (w : Nat) (write : Bool) (d : Dev) : Option Nat :=
  match portTarget (4 * w) write d with
  | .reg => none
  | .unpowered => some 2
  | _ => some 3

/-- A fault that the next status word shows. DEDUCED, log 37. -/
def mpFault (kind w : Nat) : Dev → Dev := modMgp (fun m => { m with faults := m.faults ++ [⟨kind, w % 2 ^ 18⟩] })
def mpUndr : Dev → Dev := modMgp (fun m => { m with undr := true })

/-- The oldest buffered write is issued, or discarded with PWR. -/
def mpIssue (d : Dev) : Dev :=
  match d.mgp.buf with
  | [] => d
  | (w, v) :: rest =>
    let d := modMgp (fun m => { m with buf := rest }) d
    match wordFault w true d with
    | none => regWrite .port (4 * w) (BitVec.ofNat 32 v) d
    | some k => whenD (k == 2) (mpFault 2 w) d

/-- Issue `n` buffered writes. -/
def mpIssues : Nat → Dev → Dev
  | 0, d => d
  | n + 1, d => mpIssues n (mpIssue d)

/-- Every buffered write is issued before a later access (R273). -/
def mpDrain (d : Dev) : Dev := mpIssues d.mgp.buf.length d

/-- Mirror `w` as READ_MIRROR returns it (R274). DEDUCED, log 36. -/
def mirrorPair (w : Nat) (d : Dev) : List Nat :=
  let a := 4 * w
  let k := (a - 0xD100) / 4
  if mirrorAddr a && (regInfo a).isSome then
    [(regView .port a d).toNat, mirGen k d % 256 * 2 ^ 24 + min 0xFFFFFF (mirAge k d)]
  else [0, 0x00FFFFFF]

/-- The fault of a pair of READ_MIRROR. -/
def pairFault (w : Nat) (d : Dev) : Option Nat :=
  match wordFault w false d with
  | none => if mirrorAddr (4 * w) then none else some 3
  | k => k

/-- A word lies in the 4 KiB block of the first. -/
def inBlock (w0 w : Nat) : Bool := w / 1024 == w0 / 1024

/-- COUNT in the status word of a compatibility READ that the native format answers is not stated: a free value, the same in
the status word and wherever that is repeated. DESIGN CHOICE, log 12. -/
def mpCountOpen (d : Dev) : Dev :=
  let r := d.mgp.reply
  if r.words.isSome || mpCompat d || r.drawn then d
  else d |> modMgp (fun m => { m with reply := { r with count := freeVal d % 2048, drawn := true } }) |> freeTaken

/-- The next word of the reply is fetched, with its side effects; `late` of its quantities are not ready when they are
due and repeat the quantity before (R277, R278). -/
def mpFetch (late : Nat) (d : Dev) : Dev :=
  let r := d.mgp.reply
  let w := r.waddr + r.got
  let past := match r.words with
    | some n => decide (n ≤ r.got)
    | none => !inBlock r.waddr w
  if !r.reads || past then d
  else
    let d := mpDrain d
    let bad := if r.op = 3 then pairFault w d else wordFault w false d
    let qs : List Nat :=
      if !inBlock r.waddr w then (if r.op = 3 then [0, 0] else [0])
      else match bad with
        | some k => if r.op = 3 then (if k = 2 then [0, 0] else [0, 0x00FFFFFF]) else [0]
        | none => if r.op = 3 then mirrorPair w d else [(readValue .port (4 * w) d).toNat]
    let d := if inBlock r.waddr w && bad.isNone && r.op == 1 then regRead .port (4 * w) d else d
    let fresh := inBlock r.waddr w && (match bad with
      | some k => (r.words.isNone && r.got != 0) || (k == 2 && r.served)
      | none => false)
    let d := whenD fresh (mpFault (bad.getD 0) w) d
    let d := mpCountOpen d
    let prev := r.data.getLastD (replyHead d)
    let sent := (qs.zipIdx).map (fun x => if x.2 < late then prev else x.1)
    d |> whenD (late != 0) mpUndr
      |> modMgp (fun m => { m with reply := { m.reply with got := r.got + 1, data := r.data ++ sent } })

/-- Bits of the reply's first quantity and of each one after it, in the format in force (R271, R285, R288). -/
def replyBits (d : Dev) : Nat × Nat :=
  let r := d.mgp.reply
  let compat := mpCompat d && !r.recovery
  (if compat then 24 else if r.recovery then 32 else mpQb d, if compat then 32 else mpQb d)

/-- A frame of `nbits` bits reaches every quantity of the reply that it has been seen to start. -/
def mpReaches (nbits : Nat) (d : Dev) : Bool :=
  let k := d.mgp.reply.started
  decide (k ≤ 1) || decide ((replyBits d).1 + (replyBits d).2 * (k - 2) < nbits)

/-- Fetch until `n` words have been fetched. -/
def mpFetches : Nat → Nat → Dev → Dev
  | 0, _, d => d
  | k + 1, n, d => if n ≤ d.mgp.reply.got then d else mpFetches k n (mpFetch 0 d)

/-! ### A frame begins and shifts the reply out (R276 to R278, R286, R288) -/

/-- MP_SEL# falls: the writes of the frame before have been issued, and a changed format takes effect (R286). -/
def mpStart (d : Dev) : Dev :=
  let d := mpDrain d
  if flag MGP_STATUS.ACTIVE d then d
  else
    let c := flag MGP_CFG.COMPAT d
    let w := fld MGP_CFG.W d
    let l := fld MGP_LEN.LEN d
    let new := c != mpCompat d || w != mpW d || l != d.mgp.len
    d |> setFlag MGP_STATUS.ACTIVE true |> setFlag MGP_STATUS.COMPAT_IF c |> setFld MGP_STATUS.W_IF w
      |> modMgp (fun m => { m with len := l }) |> whenD new (raise 197)

/-- The first `n` bits of quantities, each with its width; 0 follows them. -/
def packBits (n : Nat) (qs : List (Nat × Nat)) : Nat :=
  let len := qs.foldl (fun a q => a + q.1) 0
  let v := qs.foldl (fun a q => a * 2 ^ q.1 + q.2 % 2 ^ q.1) 0
  if n ≤ len then v / 2 ^ (len - n) else v * 2 ^ (n - len)

/-- The reply is shifted out in a frame of `nbits` bits; an `early` frame starts before the status word is ready. DESIGN CHOICE, log 12. -/
def mpSend (nbits : Nat) (early : Bool) (d : Dev) : Dev :=
  let d := mpDrain d
  let r := d.mgp.reply
  let hw := (replyBits d).1
  let dw := (replyBits d).2
  let dataStarted := ceilDiv (nbits - hw) dw
  if early then
    let l := d.mgp.last
    d |> mpUndr |> emitOut (.mpReply nbits (packBits nbits [(hw, l)])) |> modMgp (fun m => { m with reply := {} })
  else
    let asked := if r.op = 3 then ceilDiv (1 + dataStarted) 2 else 1 + dataStarted
    let want := match r.words with
      | some n => min n asked
      | none => min asked (1024 - r.waddr % 1024)
    let d := d |> mpFetches want want |> mpCountOpen
    let hd := replyHead d
    let data := d.mgp.reply.data
    let edge := r.reads && r.words.isNone && decide (1024 - r.waddr % 1024 < dataStarted)
    let qs := hd :: data
    -- beyond the block's end the words sent are 0 (R280)
    let beyond := r.reads && r.words.isNone && decide (qs.length < 1 + dataStarted)
    d |> whenD edge (mpFault 1 (r.waddr - r.waddr % 1024 + 1024))
      |> emitOut (.mpReply nbits (packBits nbits ((hw, hd) :: data.map (fun q => (dw, q)))))
      |> modMgp (fun m => { m with
          reply := {}, last := if beyond then 0 else qs.getD (min (1 + dataStarted) qs.length - 1) 0 })

/-! ### A frame ends: decode, write, form the status (R272 to R276, R279 to R283, R287) -/

/-- The quantities after the first `h` bits of a frame: whole ones, and the last as far as it came, right-aligned. DEDUCED, log 37. -/
def received (nbits h u : Nat) (data : List (BitVec 32)) : List Nat :=
  let n := (nbits - h) / u
  let rest := (nbits - h) % u
  (List.range n).map (fun i => (data.getD i 0).toNat) ++
    (if rest = 0 then [] else [(data.getD n 0).toNat / 2 ^ (u - rest)])

/-- The quantity at index `i` is cut short. -/
def cutShort (nbits h u i : Nat) : Bool := decide ((nbits - h) % u ≠ 0) && i == (nbits - h) / u

/-- Writes of a frame: `qs` from word `w0` on, `full` those that find the buffer full; answers how many are written:
one that is discarded is not counted, and a partial one that is written sets PARTIAL (R276, R278, R279, R281, R282). -/
def mpWrites (w0 : Nat) (qs : List (Nat × Bool)) (full : List Nat) (d : Dev) : Nat × Dev :=
  (qs.zipIdx).foldl (fun x q =>
    let w := w0 + q.2
    let d := x.2
    if !inBlock w0 w then (x.1, mpFault 1 w d)
    else if full.contains q.2 then (x.1, mpUndr d)
    else
      match wordFault w true d with
      | some k => (x.1, mpFault k w d)
      | none =>
        let d := whenD q.1.2 (setFlag MGP_STATUS.PARTIAL true) d
        let d := whenD (decide (4 ≤ d.mgp.buf.length)) mpIssue d
        (x.1 + 1, modMgp (fun m => { m with buf := m.buf ++ [(w, q.1.1)] }) d)) (0, d)

/-- All but the last `kept` buffered writes have been issued when the frame ends. DEDUCED, log 37. -/
def mpSettle (kept : Nat) (d : Dev) : Dev := mpIssues (d.mgp.buf.length - kept) d

/-- The status word of the frame is formed; its faults are recorded (R276, R283, R290). -/
def mpStatus (op waddr count : Nat) (words : Option Nat) (stale : Bool) (d : Dev) : Dev :=
  let l := d.mgp.faults
  let has (k : Nat) : Bool := l.any (fun f => f.kind == k)
  let edge := has 1
  let pwr := has 2
  let err := has 3 || has 4
  let undr := d.mgp.undr
  let d := d |> whenD undr (fun d => d |> setFlag MGP_STATUS.UNDR true |> addFldSat MGP_CNT.UNDR 1 |> raise 195)
    |> whenD edge (fun d => d |> setFlag MGP_STATUS.EDGE true |> addFldSat MGP_CNT.EDGE 1 |> raise 193)
    |> whenD pwr (fun d => d |> setFlag MGP_STATUS.PWR true |> addFldSat MGP_CNT.PWR 1 |> raise 194)
    |> whenD err (fun d => d |> setFlag MGP_STATUS.ERR true |> addFldSat MGP_CNT.ERR 1)
    |> whenD (has 4) (raise 192)
    |> whenD stale (fun d => d |> setFlag MGP_STATUS.STALE true |> raise 198)
  let d := match l with
    | [] => d
    | f :: _ => if flag MGP_LOG.VALID d then d
      else d |> setFld MGP_LOG.KIND f.kind |> setFld MGP_LOG.WADDR f.waddr |> setFlag MGP_LOG.VALID true |> attn 4
  let flags := b2n undr * 32 + b2n edge * 16 + b2n pwr * 8 + b2n err * 4 + b2n stale * 2 + b2n (attnLow d)
  let r : MgpReply := { op := op, flags := flags, count := count, waddr := waddr, words := words
                        served := (wordFault waddr false d) != some 2 }
  let d := match l with
    | [] => d
    | f :: _ => whenD (served d)
        (note 192 [f.waddr, f.kind, if mpCompat d then r.head24 / 2 ^ 16 else r.head]) d
  d |> modMgp (fun m => { m with reply := r, faults := [], undr := false }) |> setFlag MGP_STATUS.ACTIVE false

/-- A command is discarded with ERR. -/
def mpDiscard (op waddr : Nat) (d : Dev) : Dev := d |> mpFault 4 0 |> mpStatus op waddr 0 (some 0) false

/-- The port can be selected for a frame of this mode: it is supplied, the frame reaches what has been fetched for, and the
mode that the fall of MP_SEL# brings, the writes of the frame before issued, is this one (R286). -/
def mpReady (compat : Bool) (nbits : Nat) (d : Dev) : Bool :=
  let d := mpDrain d
  auxOn d && nbits != 0 && mpReaches nbits d && (if flag MGP_STATUS.ACTIVE d then mpCompat d else flag MGP_CFG.COMPAT d) == compat

/-- A native frame whose command is complete goes on with `f`; a cut-short command is discarded (R279). DEDUCED, log 37. -/
def nativeFrame (nbits : Nat) (early : Bool) (f : Dev → Dev) (d : Dev) : Dev :=
  if !mpReady false nbits d then d
  else
    let d := d |> mpStart |> mpSend nbits early
    if nbits < mpQb d then mpDiscard 0 0 d else f d

/-- COUNT of a command (R272). -/
def mpCount (n : Nat) : Nat := if n = 0 then 1024 else n

/-- The faults of the words that a READ or READ_MIRROR addresses. -/
def mpAddressed (pair : Bool) (w0 n : Nat) (d : Dev) : Dev :=
  let k := min n (1024 - w0 % 1024)
  let d := forD (List.range k) (fun i d =>
    match (if pair then pairFault (w0 + i) d else wordFault (w0 + i) false d) with
    | some f => mpFault f (w0 + i) d
    | none => d) d
  whenD (decide (k < n)) (mpFault 1 (w0 + k)) d

/-- NOP, READ and READ_MIRROR. -/
def mpNop (nbits : Nat) (early : Bool) : Dev → Dev := nativeFrame nbits early (mpStatus 0 0 0 (some 0) false)
def mpRead (nbits : Nat) (early pair : Bool) (w0 count : Nat) : Dev → Dev :=
  nativeFrame nbits early (fun d =>
    let n := mpCount count
    d |> mpAddressed pair w0 n |> mpStatus (if pair then 3 else 1) w0 n (some n) false)

/-- The write quantities of a native frame after `h` bits, at most COUNT. -/
def nativeQuantities (nbits h count : Nat) (data : List (BitVec 32)) (d : Dev) : List (Nat × Bool) :=
  let u := mpQb d
  (((received nbits h u data).zipIdx).map (fun x => (x.1, cutShort nbits h u x.2))).take (mpCount count)

/-- WRITE. -/
def mpWrite (nbits : Nat) (early : Bool) (w0 count : Nat) (data : List (BitVec 32)) (full : List Nat) (kept : Nat) :
    Dev → Dev :=
  nativeFrame nbits early (fun d =>
    let x := mpWrites w0 (nativeQuantities nbits (mpQb d) count data d) full d
    x.2 |> mpSettle kept |> mpStatus 2 w0 x.1 (some 0) false)

/-- The state word's GEN of a unit of the check word: `none` for another class or a unit out of range, and whether the
unit lies in the main domain (R275). -/
def checkGen (cls unit : Nat) (d : Dev) : Option (Nat × Bool) :=
  if cls = 0 ∧ unit = 0 then some (fld GLB_MSTATE.GEN d, false)
  else if cls = 1 ∧ unit < 1024 then some (fld (ENG_STATE.GEN unit) d, true)
  else if cls = 2 then some ((ring unit d).gen, true)
  else none

/-- WRITE_CHECKED (R275). DEDUCED, log 37. -/
def mpWriteChecked (nbits : Nat) (early : Bool) (w0 count : Nat) (check : BitVec 32) (data : List (BitVec 32))
    (full : List Nat) (kept : Nat) : Dev → Dev :=
  nativeFrame nbits early (fun d =>
    let qb := mpQb d
    if nbits < 2 * qb ∨ getBits check 19 18 ≠ 0 then mpDiscard 4 w0 d
    else match checkGen (getBits check 23 20) (getBits check 17 0) d with
      | none => mpDiscard 4 w0 d
      | some (gen, main) =>
        if main && !served d then d |> mpFault 2 w0 |> mpStatus 4 w0 0 (some 0) false
        else if gen ≠ getBits check 31 24 then mpStatus 4 w0 0 (some 0) true d
        else
          let x := mpWrites w0 (nativeQuantities nbits (2 * qb) count data d) full d
          x.2 |> mpSettle kept |> mpStatus 4 w0 x.1 (some 0) false)

/-- A recovery frame, in any mode (R285). DEDUCED, log 37. -/
def mpRecovery (nbits : Nat) (early : Bool) (d : Dev) : Dev :=
  if !auxOn d || !mpReaches nbits d then d
  else
    let d := d |> mpStart |> mpSend nbits early
    let was := mpCompat d || mpW d != 32 || d.mgp.len != 56
    d |> wrReg MGP_CFG.addr (regReset MGP_CFG.addr) |> wrReg MGP_LEN.addr (regReset MGP_LEN.addr)
      |> setFlag MGP_STATUS.COMPAT_IF false |> setFld MGP_STATUS.W_IF 32
      |> whenD was (raise 197) |> setFlag MGP_STATUS.RECOVERED true |> raise 196
      |> modMgp (fun m => { m with
          len := 56, faults := [], undr := false, reply := { op := 15, words := some 0, recovery := true } })
      |> setFlag MGP_STATUS.ACTIVE false

/-- A compatibility frame goes on with `f` where its header is whole (R287). DEDUCED, log 37. -/
def compatFrame (nbits : Nat) (early : Bool) (f : Dev → Dev) (d : Dev) : Dev :=
  if !mpReady true nbits d then d
  else
    let d := d |> mpStart |> mpSend nbits early
    let d := whenD (nbits != d.mgp.len) (setFlag MGP_STATUS.LEN_ERR true) d
    if nbits < 24 then mpStatus 0 0 0 (some 0) false d else f d

def compatNop (nbits : Nat) (early : Bool) (w0 : Nat) : Dev → Dev :=
  compatFrame nbits early (mpStatus 0 w0 0 (some 0) false)

/-- A compatibility READ: its first word is decoded now, the others as they are fetched. -/
def compatRead (nbits : Nat) (early : Bool) (w0 : Nat) : Dev → Dev :=
  compatFrame nbits early (fun d => d |> mpAddressed false w0 1 |> mpStatus 1 w0 0 none false)

def compatWrite (nbits : Nat) (early : Bool) (w0 : Nat) (data : List (BitVec 32)) (full : List Nat) (kept : Nat) :
    Dev → Dev :=
  compatFrame nbits early (fun d =>
    let qs := ((received nbits 24 32 data).zipIdx).map (fun x => (x.1, cutShort nbits 24 32 x.2))
    let x := mpWrites w0 qs full d
    x.2 |> mpSettle kept |> mpStatus 2 w0 x.1 (some 0) false)

/-- A frame with a reserved OP, native or compatible. -/
def mpReserved (nbits : Nat) (early : Bool) (op w0 : Nat) (d : Dev) : Dev :=
  if mpReady false nbits d then nativeFrame nbits early (mpDiscard op w0) d
  else compatFrame nbits early (mpDiscard 0 w0) d

/-- A fetch ends during a frame, in time or late, with `started` quantities of the reply begun so far, the status word the
first: a word is fetched once the quantity before it has begun (R277, R278). -/
def mpFetchDone (late started : Nat) (d : Dev) : Dev :=
  let r := d.mgp.reply
  let started := max started r.started
  let before := if r.op = 3 then 2 * r.got + 1 else r.got + 1
  if !auxOn d || !r.reads || decide (started < before) then d
  else d |> mpStart |> modMgp (fun m => { m with reply := { m.reply with started := started } }) |> mpFetch late

end Sys2Proof.Machine
end

