-- ==== Sys2Proof/Machine/Slots.lean ====
section
/-! DEFINITION. What happens in each row slot and at a slate boundary: the work of 03_slate_and_herd.md R70 to R77, step by
step, over the operations of the units. -/

namespace Sys2Proof.Machine

/-! ### A row slot -/

/-- SLATE_OUT at the start of a row slot (R77). -/
def slateOutAt (slot : Nat) (d : Dev) : Dev :=
  if flag SLATE_CFG.OUT_EN d && served d && fld SLATE_CFG.OUT_SLOT d == slot then
    emitOut (.slateOut (!flag SLATE_CFG.OUT_POL d)) d
  else d

/-- The condition of every engine, for the frame status block (04_column_engines.md R120). DEDUCED, log 19. -/
def frameConds (d : Dev) : Dev :=
  let cond := mbuild (fun _ => 0) 1024 (fun e =>
    if engState e d = enFAULT then 2 else if engState e d = enSETTLE then 1 else 0)
  { d with en := { d.en with pack := { d.en.pack with cond := cond } } }

/-- Blanking slot 28: the map, the relay request, the staged bank, the class registers and THR (08_cell_watch.md R204 to
R218), and SLATE_MARK (12_field_side.md R295). DEDUCED, log 16. -/
def blank28 (x : SlotIn) (d : Dev) : Dev :=
  d |> cellEvaluate x.unevaluated x.kept |> relayRequest |> mapSwitch |> zonesLatch |> thrWrite |> sendSlateMark

/-- The work that starts with a row slot. DEDUCED, log 16. -/
def slotStart (slot : Nat) (x : SlotIn) (d : Dev) : Dev :=
  let b (k : Nat) : Bool := slot == blankSlot k d
  d |> slateOutAt slot
    |> whenD (slot == 8) sendSlateInfo |> whenD (slot == 16) sendRoster |> whenD (slot == 24) sendSeam
    |> whenD (b 2) peekCopy
    |> whenD (b 4 && isLive d) (fun d => d |> frameConds |> statusHandover |> latchAcks |> takeSlateWork)
    |> whenD (b 8 && isLive d) (decisionPoint x.refs)
    |> whenD (b 12) rtWrite
    |> whenD (b 16) engpApply
    |> whenD (b 20) (fun d => whenD (takeLast d) takeLastWork d)
    |> whenD (b 24) commitApply
    |> whenD (b 28) (blank28 x)

/-- The row read in slot `s` is handed over and dispatched (02_focal_plane.md R49; 04_column_engines.md R104). DEDUCED, log 16. -/
def handOver (s : Nat) (r : RowSamples) (d : Dev) : Dev :=
  match rowOfSlot s d with
  | .none => d
  | row =>
    let words := rowWords r d
    d |> fpaHandover s row r words |> rowDispatch s words

/-- The row read in slot `s` is over in the engines, and a band that it completes is handed over (R71, R242). DEDUCED, log 16. -/
def rowOver (s : Nat) (late : List LateRow) (d : Dev) : Dev :=
  let d := rowDeadline s d.en.words late d
  whenD (d.en.pack.band.length == 64) bandHandover d

/-- A row slot has ended. -/
def slotCount (d : Dev) : Dev := { d with sl := { d.sl with slots := d.sl.slots + 1 } }

/-- A row slot of the slate, but the last, ends and the next one starts (R52, R71). DEDUCED, log 16. -/
def rowSlotEnd (x : SlotIn) (d : Dev) : Dev :=
  if !d.sl.running || inLastSlot d then d
  else
    let t := d.sl.slot
    let live := isLive d
    let d := d |> forD x.ecc eccEvent |> advanceTo (ticksInForce d) |> slotCount
    let d := d |> whenD (live && decide (2 ≤ t)) (rowOver (t - 2) x.late)
      |> whenD (live && t == blankSlot 3 d) (frameClose x.unclosed)
    let d := { d with sl := { d.sl with slot := t + 1, slotTick := 0 } }
    d |> whenD (live && decide (1 ≤ t)) (handOver (t - 1) x.samples) |> slotStart (t + 1) x

/-! ### A slate boundary -/

/-- The per-slate inputs of the engines and the pipeline settings of the new slate (04_column_engines.md R107, R124). -/
def perSlate (d : Dev) : PerSlate :=
  { snap := snapshot d, kinv := kinvOf (fld FPA_STATUS.INT_STEPS d), low := flag FPA_STATUS.GAIN d
    anchors := anchorTemps d, rspan := anchorSpans d, rg := rgInForce d, gates := gateBits d
    level := fld PIPE_LEVEL.LEVEL d, driftEn := flag PIPE_CTRL.DRIFT_EN d, stEn := flag PIPE_CTRL.ST_EN d
    radEn := flag PIPE_CTRL.RAD_EN d, rawEn := flag PIPE_CTRL.RAW_EN d, corrEn := flag PIPE_CTRL.CORR_EN d }

/-- What the rows of the slate that has ended leave behind. -/
def slateOver (last len : Nat) (d : Dev) : Dev :=
  let read := isLive d
  d |> whenD read (formSeam last) |> slateValues |> warmCheck |> powerSlate len |> whenD (!read) grpActionsIdle |> fpaSlateEnd

/-- Takes and state transitions (01_architecture.md R33, R38; 07_takes.md R180). DEDUCED, log 24. -/
def slateStates (last : Nat) (d : Dev) : Dev :=
  let d := takeRegs d
  d |> takeBoundary last (waitTakeCause d) |> transitions |> takeClear |> takeBegin

/-- Staged settings, the loop and the clock (02_focal_plane.md R57; 15_thermal_power.md R372 to R376; R101). DEDUCED, log 24. -/
def slateSettings (d : Dev) : Dev :=
  let d := gradUpdate d
  let stripe := flag FPA_STATUS.STRIPE d
  d |> loopStep (inTake d || fpaWillApply d) |> fpaBoundary |> pauseReset stripe |> loopStatus |> clockInForce |> takeGain

/-- Commits, engines and tables (R106, R155, R165, R168, R203). -/
def slateEngines (changed : Bool) (d : Dev) : Dev :=
  let d := d |> rgInForceNow |> commitInForce |> commitFreeze |> lateClose |> settlingExit |> restartApply
    |> cellBoundary changed |> gateBoundary
  let per := perSlate d
  { d with en := { d.en with per := per, pack := {} } } |> depotBoundary |> mapTrigger |> commitBits |> engpHeld

/-- The slate ends and the next one starts (R71): nothing, where no edge, timeout or timer has ended it. DEDUCED, log 16 and 24. -/
def slateBoundary (d : Dev) : Dev :=
  if !slateEnds d then d
  else
    let last := d.sl.no
    let len := (nslots d - 1) * ticksInForce d + (if d.sl.endDue then d.sl.slotTick else ticksInForce d)
    let key (d : Dev) : Nat × Nat × Bool := (nslots d, ticksInForce d, flag FPA_STATUS.GAIN d)
    let old := key d
    let d := d |> slotCount |> startSlate (herdStride d) (herdTimeStep d) |> slateOver last len |> slateStates last |> slateSettings
    d |> slateEngines (key d != old) |> emtBoundary (inTake d) (takeCode d) |> herdBoundary len
      |> recordSlateEnd (last % 2 ^ 32) |> ringBoundaryIrq |> warmLoad |> nvsSettle |> slateOutAt 0

end Sys2Proof.Machine
end

