-- ==== Sys2Proof/Machine/Link.lean ====
section
/-! DEFINITION. The PCI Express link seen from the module: configuration requests, link changes, messages that wait, and
the ring writer's service of the dailies (09_host_rings.md R222 to R226; 10_events_errors.md R257, R261, R262). -/

namespace Sys2Proof.Machine

/-- The link or the function changes: what waited for the end of a condition of R226 follows (R226, R251, R257). DEDUCED, log 35. -/
def linkSet (f : Link → Link) (d : Dev) : Dev := { d with link := f d.link } |> releaseDone |> msixRelease

/-- Address bits of a base address register: BAR0 spans 1 MiB, BAR2 2 MiB, and the upper halves are BAR1 and BAR3; BAR4 and
BAR5 are not implemented (R223). -/
def barMask (n : Nat) : BitVec 32 :=
  if n = 0 then 0xFFF00000#32 else if n = 2 then 0xFFE00000#32 else if n = 1 ∨ n = 3 then 0xFFFFFFFF#32 else 0

/-- A base address register as it reads: 64-bit and not prefetchable. PRESUMED, log 56. -/
def barView (n : Nat) (d : Dev) : Nat := ((d.link.bars.getD n 0) ||| (if n = 0 ∨ n = 2 then 4#32 else 0)).toNat

/-- What configuration space presents (R222, R223). PRESUMED, log 56, for the codes of the PCI Express Base Specification. -/
def cfgValue (x : CfgItem) (d : Dev) : Nat :=
  match x with
  | .vendorId => 0x1D7E
  | .deviceId => 0x8840 + d.pw.strap
  | .classCode => 0x118000
  | .bar n => barView n.val d
  | .expansionRom => 0
  | .maxPayload => 2
  | .linkSpeeds => 4
  | .linkWidth => 4
  | .functionReset => 0
  | .capability ext id => b2n (if ext then [1, 3].contains id.val else [0x01, 0x10, 0x11].contains id.val)
  | .msixVectors => 256
  | .msixTable => 0x80000
  | .msixPba => 0x81000
  | .serialNumber => pair64 GLB_SERIAL_LO.addr GLB_SERIAL_HI.addr d
  | .aspm => 2
  | .d1d2 => 0

/-- A configuration request (R224): Retry Status until BOOT, and the endpoint has no power outside RESET and those
states. -/
def cfgRequest (q : CfgReq) (d : Dev) : Dev :=
  if mstate d = stRESET then emitOut .retry d
  else if !mainRuns d then d
  else match q with
    | .other => d
    | .read x => emitOut (.cfgData (cfgValue x d)) d
    | .bar n v => { d with link := { d.link with bars := d.link.bars.set n.val (v &&& barMask n.val) } }
    | .busMaster on => linkSet (fun l => { l with busMaster := on }) d
    | .power d3 => linkSet (fun l => { l with d3hot := d3 }) d
    | .msix e m => linkSet (fun l => { l with msixEnable := e, functionMask := m }) d

/-- The link goes up or down or changes speed or width (R226, R252); with the link down speed and width read 0, and the
message waits (10_events_errors.md R257). DEDUCED, log 35. -/
def linkChange (up : Bool) (speed width : Nat) (d : Dev) : Dev :=
  if mstate d ≠ stRESET ∧ mainRuns d = false then d
  else
    let s := if up then speed else 0
    let w := if up then width else 0
    if d.link.up = up ∧ d.link.speed = s ∧ d.link.width = w then d
    else d |> linkSet (fun l => { l with up := up, speed := s, width := w }) |> note 168 [] |> raise 168

/-- A vector's control word is written with its mask clear, or Function Mask is cleared (R257). -/
def unmask (u : Unmask) (d : Dev) : Dev :=
  match u with
  | .vector p n => busWrite p (MSIX_CTRL.addr n.val) 0 d
  | .function => if mainRuns d then linkSet (fun l => { l with functionMask := false }) d else d

/-- The bytes of a dailies entry (R262): header and payload units. -/
def Daily.bytes (e : Daily) : List (BitVec 8) :=
  leBytes 4 (e.kind + 2 ^ 8 * (e.payload.length / 4) + 2 ^ 16 * e.source) ++ leBytes 4 e.seq ++ leBytes 4 e.slate ++
    leBytes 4 e.timeLo ++ e.payload.flatMap (fun w => leBytes 4 w)

/-- The queue hands its next entry to the ENABLED dailies ring (R261); none is handed over while there is none. DEDUCED, log 31. -/
def dailiesDequeue (d : Dev) : Dev :=
  match d.evt.queue, d.rings.tab.find? (fun x => x.2.st == rgENABLED && x.2.typ == 7) with
  | e :: rest, some x => { d with evt := { d.evt with queue := rest } } |> putRecord x.1 e.bytes
  | _, _ => d

/-! ### Register accesses in the forms that commands name (R225) -/

/-- A write access. -/
def writeAccess (x : WriteForm) (a : Nat) : Dev → Dev :=
  match x with
  | .word p v => busWrite p a v
  | .wide req lo hi => busWrite64 req a lo hi

/-- A read access. -/
def readAccess (x : ReadForm) (a : Nat) : Dev → Dev :=
  match x with
  | .word p => busRead p a
  | .wide req => busRead64 req a
  | .doorbell req wide => doorbellRead req a wide

/-- A write of a word whose field `f` holds `k`, whatever its other bits: the write of an action. -/
def actionWrite (p : Path) (f : Fld) (k : Nat) (v : BitVec 32) : Dev → Dev := busWrite p f.addr (setBits v f.hi f.lo k)

end Sys2Proof.Machine
end

