-- ==== Sys2Proof/Machine/RowsActs.lean ====
section
/-! DEFINITION. Meanings of commands: actuator drive and the shot list (13_actuators.md R322 to R335). -/

namespace Sys2Proof.Machine

/-- PWM_PERIOD (R328). -/
def execPwmPeriod (ins : List PwmIn) (s : State) : Host.Outcome State Fault Refusal :=
  devStep (pwmPeriod ins) s

/-- SHOT_REG (R327). -/
def execShotReg (n : Fin 6) (s : State) : Host.Outcome State Fault Refusal :=
  devStep (stepDue 1 n.val) s

/-- SHOT_HOLD (R327). -/
def execShotHold (n : Fin 6) (s : State) : Host.Outcome State Fault Refusal :=
  devStep (stepDue 2 n.val) s

/-- SHOT_WAIT (R327). -/
def execShotWait (n : Fin 6) (s : State) : Host.Outcome State Fault Refusal :=
  devStep (stepDue 3 n.val) s

/-- SHOT_INJECT (R327). -/
def execShotInject (n : Fin 6) (s : State) : Host.Outcome State Fault Refusal :=
  devStep (stepDue 4 n.val) s

/-- SHOT_LOOP (R327). -/
def execShotLoop (n : Fin 6) (s : State) : Host.Outcome State Fault Refusal :=
  devStep (stepDue 5 n.val) s

/-- SHOT_END (R327). -/
def execShotEnd (n : Fin 6) (s : State) : Host.Outcome State Fault Refusal :=
  devStep (stepDue 6 n.val) s

/-- OVERCURRENT (R322). -/
def execOvercurrent (n : Fin 6) (s : State) : Host.Outcome State Fault Refusal :=
  devStep (overcurrent n.val) s

/-- HS_FAULT (R322). -/
def execHsFault (m : Fin 3) (s : State) : Host.Outcome State Fault Refusal :=
  devStep (hsFault m.val) s

/-- DECAY_END (R326). -/
def execDecayEnd (n : Fin 6) (s : State) : Host.Outcome State Fault Refusal :=
  devStep (decayEnd n.val) s

/-- COIL_MODEL_UPDATE (R334). -/
def execCoilModelUpdate (s : State) : Host.Outcome State Fault Refusal :=
  devStep coilModelUpdate s

/-- RESISTANCE_MEASUREMENT (R335). -/
def execResistanceMeasurement (n : Fin 6) (s : State) : Host.Outcome State Fault Refusal :=
  devStep (resistance n.val) s

end Sys2Proof.Machine
end

