-- ==== Sys2Proof/Machine/RowsCards.lean ====
section
/-! DEFINITION. Meanings of commands: card loads, commits and card reads (06_calibration_cards.md R155 to R172). -/

namespace Sys2Proof.Machine

/-- CARD_LOAD_ENTRIES (R159). -/
def execCardLoadEntries (ring : Fin 262144) (s : State) : Host.Outcome State Fault Refusal :=
  devStep (cardEntries ring.val) s

/-- CARD_LOAD_BULK (R168): `k` slots of the payload are read. -/
def execCardLoadBulk (ring : Fin 262144) (k : Fin 12357) (s : State) : Host.Outcome State Fault Refusal :=
  devStep (cardBulk ring.val k.val) s

/-- LEDGER_WAIT_RESUME (R162). -/
def execLedgerWaitResume (ring : Fin 262144) (s : State) : Host.Outcome State Fault Refusal :=
  devStep (ledgerResume ring.val) s

/-- BULK_LOAD_COMPLETE (R169). -/
def execBulkLoadComplete (ring : Fin 262144) (s : State) : Host.Outcome State Fault Refusal :=
  devStep (bulkComplete ring.val) s

/-- CAL_READ_CARDS (R172). -/
def execCalReadCards (p : Path) (v : BitVec 32) (s : State) : Host.Outcome State Fault Refusal :=
  devStep (actionWrite p CAL_RD_CMD.KIND 0 v) s

/-- CAL_READ_LEDGER (R172). -/
def execCalReadLedger (p : Path) (v : BitVec 32) (s : State) : Host.Outcome State Fault Refusal :=
  devStep (actionWrite p CAL_RD_CMD.KIND 1 v) s

/-- CAL_READ_CRC (R172). -/
def execCalReadCrc (p : Path) (v : BitVec 32) (s : State) : Host.Outcome State Fault Refusal :=
  devStep (actionWrite p CAL_RD_CMD.KIND 2 v) s

/-- CAL_READ_DONE (R172). -/
def execCalReadDone (s : State) : Host.Outcome State Fault Refusal :=
  devStep calRdDone s

/-- CAL_RGAIN_WRITE (R155). -/
def execCalRgainWrite (p : Path) (n : Fin 96) (v : BitVec 32) (s : State) : Host.Outcome State Fault Refusal :=
  devStep (busWrite p (CAL_RGAIN.addr n.val) v) s

end Sys2Proof.Machine
end

