-- ==== Sys2Proof/Machine/RowsCells.lean ====
section
/-! DEFINITION. Meanings of commands: the cell watch (08_cell_watch.md R202 to R213). -/

namespace Sys2Proof.Machine

/-- CELL_RT_DATA_WRITE (R202). -/
def execCellRtDataWrite (p : Path) (v : BitVec 32) (s : State) : Host.Outcome State Fault Refusal :=
  devStep (busWrite p CELL_RT_DATA.addr v) s

/-- COMMIT_HIGH (R202). -/
def execCommitHigh (p : Path) (v : BitVec 32) (s : State) : Host.Outcome State Fault Refusal :=
  devStep (actionWrite p CELL_RT_CMD.ACTION 1 v) s

/-- COMMIT_LOW (R202). -/
def execCommitLow (p : Path) (v : BitVec 32) (s : State) : Host.Outcome State Fault Refusal :=
  devStep (actionWrite p CELL_RT_CMD.ACTION 2 v) s

/-- CLEAR_HIGH (R202). -/
def execClearHigh (p : Path) (v : BitVec 32) (s : State) : Host.Outcome State Fault Refusal :=
  devStep (actionWrite p CELL_RT_CMD.ACTION 3 v) s

/-- CLEAR_LOW (R202). -/
def execClearLow (p : Path) (v : BitVec 32) (s : State) : Host.Outcome State Fault Refusal :=
  devStep (actionWrite p CELL_RT_CMD.ACTION 4 v) s

/-- RT_CMD_DONE (R202). -/
def execRtCmdDone (s : State) : Host.Outcome State Fault Refusal :=
  devStep rtDone s

/-- MAP_APPLY (R204). -/
def execMapApply (p : Path) (v : BitVec 32) (s : State) : Host.Outcome State Fault Refusal :=
  devStep (actionWrite p CELL_MAP_CTRL.APPLY 1 v) s

/-- MAP_COPY_DONE (R204). -/
def execMapCopyDone (s : State) : Host.Outcome State Fault Refusal :=
  devStep mapCopyDone s

/-- CELL_ACK (R210). -/
def execCellAck (p : Path) (v : BitVec 32) (s : State) : Host.Outcome State Fault Refusal :=
  devStep (busWrite p CELL_ACK.addr v) s

/-- CELL_RECORD_DEQUEUE (R213). -/
def execCellRecordDequeue (s : State) : Host.Outcome State Fault Refusal :=
  devStep recordDequeue s

end Sys2Proof.Machine
end

