-- ==== Sys2Proof/Machine/RowsCrossing.lean ====
section
/-! DEFINITION. Meanings of commands: the crossing: what its two ends send and their timeouts (01_architecture.md R36;
12_field_side.md R293 to R309). -/

namespace Sys2Proof.Machine

/-- HBEAT_H_SEND (R295). -/
def execHbeatHSend (s : State) : Host.Outcome State Fault Refusal :=
  devStep sendHbeatH s

/-- SAFE_MESSAGE_SEND (R36). -/
def execSafeMessageSend (s : State) : Host.Outcome State Fault Refusal :=
  devStep sendSafe s

/-- HBEAT_F_SEND (R295). -/
def execHbeatFSend (s : State) : Host.Outcome State Fault Refusal :=
  devStep sendHbeatF s

/-- BOOT_F_SEND (R295). -/
def execBootFSend (s : State) : Host.Outcome State Fault Refusal :=
  devStep sendBootF s

/-- CROSSING_MESSAGE_SENT (R296): the sender is the host end where `toField`. -/
def execCrossingMessageSent (toField : Bool) (s : State) : Host.Outcome State Fault Refusal :=
  devStep (fun d => if toField then hostMsgSent d else fieldMsgSent d) s

/-- CROSSING_MESSAGE_INVALID (R294). -/
def execCrossingMessageInvalid (toField : Bool) (w : BitVec 64) (s : State) : Host.Outcome State Fault Refusal :=
  devStep (invalidMsg toField w) s

/-- CROSSING_TIMEOUT (R297). -/
def execCrossingTimeout (s : State) : Host.Outcome State Fault Refusal :=
  devStep crossingTimeout s

/-- ACK_TIMEOUT (R305). -/
def execAckTimeout (tag : Fin 256) (s : State) : Host.Outcome State Fault Refusal :=
  devStep (ackTimeout tag.val) s

/-- ECHO_TIMEOUT (R319). -/
def execEchoTimeout (s : State) : Host.Outcome State Fault Refusal :=
  devStep echoTimeout s

/-- FIELD_HEARTBEAT_TIMEOUT (R299). -/
def execFieldHeartbeatTimeout (s : State) : Host.Outcome State Fault Refusal :=
  devStep fieldTimeout s

/-- INHIBIT_CHANGE (R303). -/
def execInhibitChange (t0 : Int) (t1 : Int) (t2 : Int) (t3 : Int) (s : State) : Host.Outcome State Fault Refusal :=
  devStep (inhibitChange [t0, t1, t2, t3]) s

/-- MIRROR_SEND (R309). -/
def execMirrorSend (k : Fin 128) (limit : Bool) (s : State) : Host.Outcome State Fault Refusal :=
  devStep (mirrorDue k.val limit) s

/-- XCTRL_REFRESH (R295). -/
def execXctrlRefresh (p : Path) (v : BitVec 32) (s : State) : Host.Outcome State Fault Refusal :=
  devStep (actionWrite p FLD_XCTRL.REFRESH 1 v) s

/-- XCTRL_ECHO (R295). -/
def execXctrlEcho (p : Path) (v : BitVec 32) (s : State) : Host.Outcome State Fault Refusal :=
  devStep (actionWrite p FLD_XCTRL.ECHO 1 v) s

/-- MIRROR_WRITE (R308). -/
def execMirrorWrite (p : Path) (k : Fin 128) (v : BitVec 32) (s : State) : Host.Outcome State Fault Refusal :=
  devStep (busWrite p (0xD100 + 4 * k.val) v) s

/-- SHOT_REGISTER_WRITE (R345). -/
def execShotRegisterWrite (p : Path) (n : Fin 6) (k : Fin 32) (v : BitVec 32)
    (s : State) : Host.Outcome State Fault Refusal :=
  devStep (busWrite p (SHOT.addr n.val k.val) v) s

end Sys2Proof.Machine
end

