-- ==== Sys2Proof/Machine/RowsEmit.lean ====
section
/-! DEFINITION. Meanings of commands: emitters and the indicator chain (14_emitters_indicators.md R348, R353, R354).
-/

namespace Sys2Proof.Machine

/-- EMITTER_LINE_SLOT (R348). -/
def execEmitterLineSlot (xs : List EmSample) (s : State) : Host.Outcome State Fault Refusal :=
  devStep (emtLineEnd xs) s

/-- EMT_APPLY (R353). -/
def execEmtApply (p : Path) (v : BitVec 32) (s : State) : Host.Outcome State Fault Refusal :=
  devStep (actionWrite p EMT_CTRL.APPLY 1 v) s

/-- IND_FRAME_LATCH_END (R354). -/
def execIndFrameLatchEnd (differs : Bool) (s : State) : Host.Outcome State Fault Refusal :=
  devStep (indFrameEnd differs) s

end Sys2Proof.Machine
end

