-- ==== Sys2Proof/Machine/RowsEngines.lean ====
section
/-! DEFINITION. Meanings of commands: engine actions and the loader (04_column_engines.md R106; 05_column_programs.md
R142 to R147). -/

namespace Sys2Proof.Machine

/-- RESTART (R106). -/
def execRestart (p : Path) (v : BitVec 32) (s : State) : Host.Outcome State Fault Refusal :=
  devStep (actionWrite p PIPE_ENG_CTRL.ACTION 1 v) s

/-- FORCE_FAULT (R106). -/
def execForceFault (p : Path) (v : BitVec 32) (s : State) : Host.Outcome State Fault Refusal :=
  devStep (actionWrite p PIPE_ENG_CTRL.ACTION 2 v) s

/-- ENGP_CHECK (R142). -/
def execEngpCheck (p : Path) (v : BitVec 32) (s : State) : Host.Outcome State Fault Refusal :=
  devStep (actionWrite p ENGP_CMD.ACTION 1 v) s

/-- ENGP_LOAD (R145). -/
def execEngpLoad (p : Path) (v : BitVec 32) (s : State) : Host.Outcome State Fault Refusal :=
  devStep (actionWrite p ENGP_CMD.ACTION 2 v) s

/-- ENGP_REMOVE (R145). -/
def execEngpRemove (p : Path) (v : BitVec 32) (s : State) : Host.Outcome State Fault Refusal :=
  devStep (actionWrite p ENGP_CMD.ACTION 3 v) s

/-- ENGP_TEST_DONE (R142). -/
def execEngpTestDone (s : State) : Host.Outcome State Fault Refusal :=
  devStep engpTestDone s

/-- ENGP_PEEK (R147). -/
def execEngpPeek (p : Path) (v : BitVec 32) (s : State) : Host.Outcome State Fault Refusal :=
  devStep (busWrite p ENGP_PEEK_CMD.addr v) s

end Sys2Proof.Machine
end

