-- ==== Sys2Proof/Machine/RowsEvents.lean ====
section
/-! DEFINITION. Meanings of commands: event sources, the violation log and the dailies (10_events_errors.md R256 to
R266). -/

namespace Sys2Proof.Machine

/-- MSIX_VECTOR_UNMASK (R257). -/
def execMsixVectorUnmask (u : Unmask) (s : State) : Host.Outcome State Fault Refusal :=
  devStep (unmask u) s

/-- EVT_EN_WRITE (R256). -/
def execEvtEnWrite (p : Path) (n : Fin 8) (v : BitVec 32) (s : State) : Host.Outcome State Fault Refusal :=
  devStep (busWrite p (EVT_EN.addr n.val) v) s

/-- EVT_FORCE (R266). -/
def execEvtForce (p : Path) (v : BitVec 32) (s : State) : Host.Outcome State Fault Refusal :=
  devStep (busWrite p EVT_FORCE.addr v) s

/-- VIOL_CLEAR (R260). -/
def execViolClear (p : Path) (v : BitVec 32) (s : State) : Host.Outcome State Fault Refusal :=
  devStep (actionWrite p EVT_VIOL_CNT.CLEAR 1 v) s

/-- DAILIES_DEQUEUE (R261). -/
def execDailiesDequeue (s : State) : Host.Outcome State Fault Refusal :=
  devStep dailiesDequeue s

end Sys2Proof.Machine
end

