-- ==== Sys2Proof/Machine/RowsField.lean ====
section
/-! DEFINITION. Meanings of commands: messages that the field companion receives (12_field_side.md R299 to R309;
13_actuators.md R324, R338, R341, R345; 14_emitters_indicators.md R357). -/

namespace Sys2Proof.Machine

/-- HBEAT_H (R301). -/
def execHbeatH (s : State) : Host.Outcome State Fault Refusal :=
  devStep (fieldReceive xHBEAT_H anyP onHbeatH) s

/-- SLATE_MARK (R338). -/
def execSlateMark (s : State) : Host.Outcome State Fault Refusal :=
  devStep (fieldReceive xSLATE_MARK anyP onSlateMark) s

/-- SAFE_MESSAGE (R299). -/
def execSafeMessage (s : State) : Host.Outcome State Fault Refusal :=
  devStep (fieldReceive xSAFE anyP onSafe) s

/-- ACT_RUN (R324): any ACTION but OFF; a reserved one is refused (R304). -/
def execActRun (s : State) : Host.Outcome State Fault Refusal :=
  devStep (fieldTagged xACT_CMD notOff actCmd) s

/-- ACT_OFF (R324). -/
def execActOff (s : State) : Host.Outcome State Fault Refusal :=
  devStep (fieldTagged xACT_CMD isOff actCmd) s

/-- SHOT_WR (R341). -/
def execShotWr (s : State) : Host.Outcome State Fault Refusal :=
  devStep (fieldTagged xSHOT_WR anyP onShotWr) s

/-- REG_WR (R308). -/
def execRegWr (s : State) : Host.Outcome State Fault Refusal :=
  devStep (fieldTagged xREG_WR anyP onRegWr) s

/-- HK_START (R306). -/
def execHkStart (s : State) : Host.Outcome State Fault Refusal :=
  devStep (fieldTagged xHK_CMD (isHk 1) onHkCmd) s

/-- HK_STOP (R306). -/
def execHkStop (s : State) : Host.Outcome State Fault Refusal :=
  devStep (fieldTagged xHK_CMD (isHk 2) onHkCmd) s

/-- HK_CAL_A (R315). -/
def execHkCalA (s : State) : Host.Outcome State Fault Refusal :=
  devStep (fieldTagged xHK_CMD (isHk 3) onHkCmd) s

/-- HK_CAL_B (R315). -/
def execHkCalB (s : State) : Host.Outcome State Fault Refusal :=
  devStep (fieldTagged xHK_CMD (isHk 4) onHkCmd) s

/-- HK_CAL_BOTH (R315). -/
def execHkCalBoth (s : State) : Host.Outcome State Fault Refusal :=
  devStep (fieldTagged xHK_CMD (isHk 5) onHkCmd) s

/-- HK_CLEAR_BUF (R306). -/
def execHkClearBuf (s : State) : Host.Outcome State Fault Refusal :=
  devStep (fieldTagged xHK_CMD (isHk 6) onHkCmd) s

/-- IND_DATA (R357). -/
def execIndData (s : State) : Host.Outcome State Fault Refusal :=
  devStep (fieldTagged xIND_DATA anyP onIndData) s

/-- IND_LATCH (R357). -/
def execIndLatch (s : State) : Host.Outcome State Fault Refusal :=
  devStep (fieldTagged xIND_LATCH anyP onIndLatch) s

/-- MIRROR_REQ (R309). -/
def execMirrorReq (s : State) : Host.Outcome State Fault Refusal :=
  devStep (fieldReceive xMIRROR_REQ anyP onMirrorReq) s

/-- ECHO_REQ (R295). -/
def execEchoReq (s : State) : Host.Outcome State Fault Refusal :=
  devStep (fieldReceive xECHO_REQ anyP onEchoReq) s

/-- SHOT_RD (R345). -/
def execShotRd (s : State) : Host.Outcome State Fault Refusal :=
  devStep (fieldReceive xSHOT_RD anyP onShotRd) s

end Sys2Proof.Machine
end

