-- ==== Sys2Proof/Machine/RowsFlash.lean ====
section
/-! DEFINITION. Meanings of commands: the flash port (17_flash_and_boot.md R406 to R412). -/

namespace Sys2Proof.Machine

/-- XIP_MISS (R406). -/
def execXipMiss (core : Fin 4) (line : Fin 131072) (s : State) : Host.Outcome State Fault Refusal :=
  devStep (xipMiss core.val line.val) s

/-- XIP_LINE_LOADED (R406). -/
def execXipLineLoaded (s : State) : Host.Outcome State Fault Refusal :=
  devStep xipLoaded s

/-- FLP_READ (R411). -/
def execFlpRead (p : Path) (v : BitVec 32) (s : State) : Host.Outcome State Fault Refusal :=
  devStep (actionWrite p FLP_CMD.ACTION 1 v) s

/-- PROGRAM (R411). -/
def execProgram (p : Path) (v : BitVec 32) (s : State) : Host.Outcome State Fault Refusal :=
  devStep (actionWrite p FLP_CMD.ACTION 2 v) s

/-- ERASE4K (R411). -/
def execErase4k (p : Path) (v : BitVec 32) (s : State) : Host.Outcome State Fault Refusal :=
  devStep (actionWrite p FLP_CMD.ACTION 3 v) s

/-- FLASH_OP_DONE (R411). -/
def execFlashOpDone (s : State) : Host.Outcome State Fault Refusal :=
  .next (flashDone s)

/-- FLASH_OP_TIMEOUT (R411). -/
def execFlashOpTimeout (s : State) : Host.Outcome State Fault Refusal :=
  .next (flashTimeout s)

/-- FLP_RESET (R412). -/
def execFlpReset (p : Path) (v : BitVec 32) (s : State) : Host.Outcome State Fault Refusal :=
  devStep (busWrite p FLP_RESET.addr v) s

end Sys2Proof.Machine
end

