-- ==== Sys2Proof/Machine/RowsFocal.lean ====
section
/-! DEFINITION. Meanings of commands: focal-plane settings and converter groups (02_focal_plane.md R46, R54, R57,
R63). -/

namespace Sys2Proof.Machine

/-- GROUP_RESET (R63). -/
def execGroupReset (p : Path) (v : BitVec 32) (s : State) : Host.Outcome State Fault Refusal :=
  devStep (actionWrite p FPA_GRP_CTRL.ACTION 1 v) s

/-- GROUP_DISABLE (R63). -/
def execGroupDisable (p : Path) (v : BitVec 32) (s : State) : Host.Outcome State Fault Refusal :=
  devStep (actionWrite p FPA_GRP_CTRL.ACTION 2 v) s

/-- GROUP_ENABLE (R63). -/
def execGroupEnable (p : Path) (v : BitVec 32) (s : State) : Host.Outcome State Fault Refusal :=
  devStep (actionWrite p FPA_GRP_CTRL.ACTION 3 v) s

/-- FPA_MODE_WRITE (R57). -/
def execFpaModeWrite (p : Path) (v : BitVec 32) (s : State) : Host.Outcome State Fault Refusal :=
  devStep (busWrite p FPA_MODE.addr v) s

/-- FPA_INT_WRITE (R57). -/
def execFpaIntWrite (p : Path) (v : BitVec 32) (s : State) : Host.Outcome State Fault Refusal :=
  devStep (busWrite p FPA_INT.addr v) s

end Sys2Proof.Machine
end

