-- ==== Sys2Proof/Machine/RowsHost.lean ====
section
/-! DEFINITION. Meanings of commands: commands of the command rings (09_host_rings.md R246 to R248). -/

namespace Sys2Proof.Machine

/-- CMD_NOP (R247). -/
def execCmdNop (ring : Fin 262144) (x : DescIn) (b : CmdBlk) (s : State) : Host.Outcome State Fault Refusal :=
  devStep (hostCommand opNOP ring.val x b) s

/-- START (R247). -/
def execStart (ring : Fin 262144) (x : DescIn) (b : CmdBlk) (s : State) : Host.Outcome State Fault Refusal :=
  devStep (hostCommand opSTART ring.val x b) s

/-- STOP (R35). -/
def execStop (ring : Fin 262144) (x : DescIn) (b : CmdBlk) (s : State) : Host.Outcome State Fault Refusal :=
  devStep (hostCommand opSTOP ring.val x b) s

/-- TAKE (R178). -/
def execTake (ring : Fin 262144) (x : DescIn) (b : CmdBlk) (s : State) : Host.Outcome State Fault Refusal :=
  devStep (hostCommand opTAKE ring.val x b) s

/-- COMMIT (R165). -/
def execCommit (ring : Fin 262144) (x : DescIn) (b : CmdBlk) (s : State) : Host.Outcome State Fault Refusal :=
  devStep (hostCommand opCOMMIT ring.val x b) s

/-- ENTER_SAFE (R36). -/
def execEnterSafe (ring : Fin 262144) (x : DescIn) (b : CmdBlk) (s : State) : Host.Outcome State Fault Refusal :=
  devStep (hostCommand opENTER_SAFE ring.val x b) s

/-- RESUME (R33). -/
def execResume (ring : Fin 262144) (x : DescIn) (b : CmdBlk) (s : State) : Host.Outcome State Fault Refusal :=
  devStep (hostCommand opRESUME ring.val x b) s

/-- RESET_COMMAND (R412). -/
def execResetCommand (ring : Fin 262144) (x : DescIn) (b : CmdBlk) (s : State) : Host.Outcome State Fault Refusal :=
  devStep (hostCommand opRESET ring.val x b) s

/-- SHUTTER (R340). -/
def execShutter (ring : Fin 262144) (x : DescIn) (b : CmdBlk) (s : State) : Host.Outcome State Fault Refusal :=
  devStep (hostCommand opSHUTTER ring.val x b) s

/-- VALVE (R340). -/
def execValve (ring : Fin 262144) (x : DescIn) (b : CmdBlk) (s : State) : Host.Outcome State Fault Refusal :=
  devStep (hostCommand opVALVE ring.val x b) s

/-- RELAY (R340). -/
def execRelay (ring : Fin 262144) (x : DescIn) (b : CmdBlk) (s : State) : Host.Outcome State Fault Refusal :=
  devStep (hostCommand opRELAY ring.val x b) s

/-- SPARE (R340). -/
def execSpare (ring : Fin 262144) (x : DescIn) (b : CmdBlk) (s : State) : Host.Outcome State Fault Refusal :=
  devStep (hostCommand opSPARE ring.val x b) s

/-- HOUSEKEEPING (R306). -/
def execHousekeeping (ring : Fin 262144) (x : DescIn) (b : CmdBlk) (s : State) : Host.Outcome State Fault Refusal :=
  devStep (hostCommand opHOUSEKEEPING ring.val x b) s

/-- INDICATOR_SEND (R356): PARAM0 is 1. -/
def execIndicatorSend (ring : Fin 262144) (x : DescIn) (b : CmdBlk) (s : State) : Host.Outcome State Fault Refusal :=
  devStep (hostCommand opINDICATOR ring.val x { b with params := 1 :: b.params.drop 1 }) s

/-- INDICATOR_SEND_ALL (R356): PARAM0 is 2. -/
def execIndicatorSendAll (ring : Fin 262144) (x : DescIn) (b : CmdBlk)
    (s : State) : Host.Outcome State Fault Refusal :=
  devStep (hostCommand opINDICATOR ring.val x { b with params := 2 :: b.params.drop 1 }) s

end Sys2Proof.Machine
end

