-- ==== Sys2Proof/Machine/RowsHostEnd.lean ====
section
/-! DEFINITION. Meanings of commands: messages that the host end receives (12_field_side.md R294 to R319;
13_actuators.md R342, R345; 14_emitters_indicators.md R358). -/

namespace Sys2Proof.Machine

/-- HBEAT_F (R302). -/
def execHbeatF (s : State) : Host.Outcome State Fault Refusal :=
  devStep (hostReceive xHBEAT_F onHbeatF) s

/-- ACK (R304). -/
def execAck (s : State) : Host.Outcome State Fault Refusal :=
  devStep (hostReceive xACK onAck) s

/-- MIRROR (R307). -/
def execMirror (s : State) : Host.Outcome State Fault Refusal :=
  devStep (hostReceive xMIRROR onMirror) s

/-- HK_RESULT (R317). -/
def execHkResult (s : State) : Host.Outcome State Fault Refusal :=
  devStep (hostReceive xHK_RESULT onHkResult) s

/-- HK_EVENT (R317). -/
def execHkEvent (s : State) : Host.Outcome State Fault Refusal :=
  devStep (hostReceive xHK_EVENT onHkEvent) s

/-- ACT_EVENT (R342). -/
def execActEvent (s : State) : Host.Outcome State Fault Refusal :=
  devStep (hostReceive xACT_EVENT onActEvent) s

/-- SHOT_STATUS (R342). -/
def execShotStatus (s : State) : Host.Outcome State Fault Refusal :=
  devStep (hostReceive xSHOT_STATUS onShotStatus) s

/-- IND_STATUS (R358). -/
def execIndStatus (s : State) : Host.Outcome State Fault Refusal :=
  devStep (hostReceive xIND_STATUS onIndStatus) s

/-- FIELD_EVENT (R302). -/
def execFieldEvent (s : State) : Host.Outcome State Fault Refusal :=
  devStep (hostReceive xFIELD_EVENT onFieldEvent) s

/-- BOOT_F (R345). -/
def execBootF (s : State) : Host.Outcome State Fault Refusal :=
  devStep (hostReceive xBOOT_F onBootF) s

/-- ECHO (R295). -/
def execEcho (s : State) : Host.Outcome State Fault Refusal :=
  devStep (hostReceive xECHO onEcho) s

/-- SHOT_DATA (R345). -/
def execShotData (s : State) : Host.Outcome State Fault Refusal :=
  devStep (hostReceive xSHOT_DATA onShotData) s

end Sys2Proof.Machine
end

