-- ==== Sys2Proof/Machine/RowsHouse.lean ====
section
/-! DEFINITION. Meanings of commands: housekeeping (12_field_side.md R310 to R315). -/

namespace Sys2Proof.Machine

/-- HK_SCAN_START (R311). -/
def execHkScanStart (s : State) : Host.Outcome State Fault Refusal :=
  devStep hkScanStart s

/-- HK_CONVERSION_DONE (R310): a new die temperature is tested (R299). -/
def execHkConversionDone (b : Bool) (code : Fin 65536) (s : State) : Host.Outcome State Fault Refusal :=
  devStep (fun d => d |> hkDone b code.val |> dieTemp) s

/-- HK_OPEN_WIRE_WAIT_END (R313). -/
def execHkOpenWireWaitEnd (b : Bool) (s : State) : Host.Outcome State Fault Refusal :=
  devStep (hkWaitEnd b) s

/-- HK_CALIBRATION_DONE (R315). -/
def execHkCalibrationDone (b : Bool) (s : State) : Host.Outcome State Fault Refusal :=
  devStep (hkCalDone b) s

/-- HK_AUTO_CAL_TIMER (R315). -/
def execHkAutoCalTimer (s : State) : Host.Outcome State Fault Refusal :=
  devStep hkCalTimer s

end Sys2Proof.Machine
end

