-- ==== Sys2Proof/Machine/RowsPort.lean ====
section
/-! DEFINITION. Meanings of commands: the management port (11_management_port.md R267 to R291). -/

namespace Sys2Proof.Machine

/-- MP_NOP (R272). -/
def execMpNop (nbits : Nat) (early : Bool) (s : State) : Host.Outcome State Fault Refusal :=
  devStep (mpNop nbits early) s

/-- MP_READ (R272). -/
def execMpRead (nbits : Nat) (early : Bool) (w0 : Fin 262144) (count : Fin 1024)
    (s : State) : Host.Outcome State Fault Refusal :=
  devStep (mpRead nbits early false w0.val count.val) s

/-- MP_WRITE (R272). -/
def execMpWrite (nbits : Nat) (early : Bool) (w0 : Fin 262144) (count : Fin 1024) (data : List (BitVec 32))
    (full : List Nat) (kept : Fin 5) (s : State) : Host.Outcome State Fault Refusal :=
  devStep (mpWrite nbits early w0.val count.val data full kept.val) s

/-- MP_READ_MIRROR (R274). -/
def execMpReadMirror (nbits : Nat) (early : Bool) (w0 : Fin 262144) (count : Fin 1024)
    (s : State) : Host.Outcome State Fault Refusal :=
  devStep (mpRead nbits early true w0.val count.val) s

/-- MP_WRITE_CHECKED (R275). -/
def execMpWriteChecked (nbits : Nat) (early : Bool) (w0 : Fin 262144) (count : Fin 1024) (check : BitVec 32)
    (data : List (BitVec 32)) (full : List Nat) (kept : Fin 5) (s : State) : Host.Outcome State Fault Refusal :=
  devStep (mpWriteChecked nbits early w0.val count.val check data full kept.val) s

/-- MP_RECOVERY_FRAME (R285): `extra` bits follow the 64 ones. -/
def execMpRecoveryFrame (extra : Nat) (early : Bool) (s : State) : Host.Outcome State Fault Refusal :=
  devStep (mpRecovery (64 + extra) early) s

/-- COMPAT_NOP (R287). -/
def execCompatNop (nbits : Nat) (early : Bool) (w0 : Fin 65536) (s : State) : Host.Outcome State Fault Refusal :=
  devStep (compatNop nbits early w0.val) s

/-- COMPAT_READ (R287). -/
def execCompatRead (nbits : Nat) (early : Bool) (w0 : Fin 65536) (s : State) : Host.Outcome State Fault Refusal :=
  devStep (compatRead nbits early w0.val) s

/-- COMPAT_WRITE (R287). -/
def execCompatWrite (nbits : Nat) (early : Bool) (w0 : Fin 65536) (data : List (BitVec 32)) (full : List Nat)
    (kept : Fin 5) (s : State) : Host.Outcome State Fault Refusal :=
  devStep (compatWrite nbits early w0.val data full kept.val) s

/-- MP_BUFFERED_WRITE_ISSUE (R278). -/
def execMpBufferedWriteIssue (s : State) : Host.Outcome State Fault Refusal :=
  devStep mpIssue s

/-- MP_FETCH_DONE (R277). -/
def execMpFetchDone (x : MpFetch) (s : State) : Host.Outcome State Fault Refusal :=
  devStep (mpFetchDone x.late.val x.started) s

/-- MP_RESERVED_OP (R272): OP is 5 + `op` in the native format. -/
def execMpReservedOp (nbits : Nat) (early : Bool) (op : Fin 11) (w0 : Fin 262144)
    (s : State) : Host.Outcome State Fault Refusal :=
  devStep (mpReserved nbits early (5 + op.val) w0.val) s

end Sys2Proof.Machine
end

