-- ==== Sys2Proof/Machine/RowsPower.lean ====
section
/-! DEFINITION. Meanings of commands: supplies, resets and BOOT (01_architecture.md R26, R27, R33, R34;
17_flash_and_boot.md R405, R409, R412, R416). -/

namespace Sys2Proof.Machine

/-- AUX_POWER_UP (R26): the straps hold variant code `strap` + 1 (R421); HOST_12V is the supply where `host`. DESIGN CHOICE, log 2. -/
def execAuxPowerUp (host : Bool) (strap : Fin 3) (s : State) : Host.Outcome State Fault Refusal :=
  devStep (fun d => d |> whenD (!auxOn d) (modPw (fun p => { p with strap := strap.val + 1 })) |> auxPowerUp host) s

/-- AUX_SOURCE_SWITCH (R26): AUX_3V3 supplies the aux domain from now on, or no longer does. -/
def execAuxSourceSwitch (aux : Bool) (s : State) : Host.Outcome State Fault Refusal :=
  devStep (auxSwitch aux) s

/-- AUX_DOMAIN_UNSUPPLIED (R33): every supply of the aux domain is lost. -/
def execAuxDomainUnsupplied (s : State) : Host.Outcome State Fault Refusal :=
  .next (enterOff s)

/-- HOST_12V_APPLIED (R33). -/
def execHost12vApplied (s : State) : Host.Outcome State Fault Refusal :=
  devStep hostApplied s

/-- HOST_12V_LOST (R27). -/
def execHost12vLost (s : State) : Host.Outcome State Fault Refusal :=
  .next (hostLost s)

/-- VVEH_APPLIED (R27). -/
def execVvehApplied (s : State) : Host.Outcome State Fault Refusal :=
  devStep vvehApplied s

/-- VVEH_LOST (R27). -/
def execVvehLost (s : State) : Host.Outcome State Fault Refusal :=
  devStep vvehLost s

/-- VVEH_LOW_DETECT (R299). -/
def execVvehLowDetect (s : State) : Host.Outcome State Fault Refusal :=
  devStep vvehLow s

/-- VVEH_LOW_CLEAR (R301). -/
def execVvehLowClear (s : State) : Host.Outcome State Fault Refusal :=
  devStep vvehLowClear s

/-- PERST_ASSERT (R412). -/
def execPerstAssert (s : State) : Host.Outcome State Fault Refusal :=
  devStep perstLow s

/-- PERST_RELEASE (R412). -/
def execPerstRelease (s : State) : Host.Outcome State Fault Refusal :=
  devStep perstHigh s

/-- HOT_RESET (R412). -/
def execHotReset (s : State) : Host.Outcome State Fault Refusal :=
  devStep (srcAssert 3) s

/-- RESET_RELEASE (R33): POS is sampled (03_slate_and_herd.md R82). DESIGN CHOICE, log 2. -/
def execResetRelease (pos : Fin 16) (s : State) : Host.Outcome State Fault Refusal :=
  devStep (fun d => d |> whenD (mstate d == stRESET && !d.pw.perst) (modPw (fun p => { p with pos := pos.val }))
    |> resetRelease) s

/-- FLASH_READY_TIMEOUT (R405). -/
def execFlashReadyTimeout (s : State) : Host.Outcome State Fault Refusal :=
  .next (flashNotReady s)

/-- SLOT_VERIFICATION_DONE (R409). -/
def execSlotVerificationDone (x : SfdpIn) (dword1 : BitVec 32) (dword2 : BitVec 32) (readA : Bool) (readB : Bool) (s : State) :
    Host.Outcome State Fault Refusal :=
  .next (slotVerified x dword1 dword2 readA readB s)

/-- BOOT_LOADING_DONE (R416). -/
def execBootLoadingDone (errs : List NvsErr) (s : State) : Host.Outcome State Fault Refusal :=
  .next (bootLoaded errs s)

/-- WATCHDOG_EXPIRY (R412, 18_register_index.md R422). -/
def execWatchdogExpiry (s : State) : Host.Outcome State Fault Refusal :=
  .next (identityOwed [] (onDev watchdogExpiry s))

end Sys2Proof.Machine
end

