-- ==== Sys2Proof/Machine/RowsRings.lean ====
section
/-! DEFINITION. Meanings of commands: the link, register accesses, rings and descriptors (00_scope.md R19, R20;
09_host_rings.md R224 to R245; 12_field_side.md R307). -/

namespace Sys2Proof.Machine

/-- CONFIG_REQUEST (R224). -/
def execConfigRequest (q : CfgReq) (s : State) : Host.Outcome State Fault Refusal :=
  devStep (cfgRequest q) s

/-- LINK_STATE_CHANGE (R226). -/
def execLinkStateChange (up : Bool) (speed : Fin 5) (width : Fin 5) (s : State) : Host.Outcome State Fault Refusal :=
  devStep (linkChange up speed.val width.val) s

/-- UNSERVED_ACCESS (R225). -/
def execUnservedAccess (write : Bool) (bar2 : Bool) (a : Nat) (req : Fin 65536)
    (s : State) : Host.Outcome State Fault Refusal :=
  devStep (unservedAccess write bar2 a req.val) s

/-- REGISTER_WRITE (R20). -/
def execRegisterWrite (x : WriteForm) (a : Nat) (s : State) : Host.Outcome State Fault Refusal :=
  devStep (writeAccess x a) s

/-- REGISTER_READ_CLEAR (R20). -/
def execRegisterReadClear (x : ReadForm) (a : Nat) (s : State) : Host.Outcome State Fault Refusal :=
  devStep (readAccess x a) s

/-- RING_READ (R231). -/
def execRingRead (p : Path) (v : BitVec 32) (s : State) : Host.Outcome State Fault Refusal :=
  devStep (actionWrite p RING_CMD.ACTION 1 v) s

/-- RING_WRITE (R231). -/
def execRingWrite (p : Path) (v : BitVec 32) (s : State) : Host.Outcome State Fault Refusal :=
  devStep (actionWrite p RING_CMD.ACTION 2 v) s

/-- RING_ENABLE (R232). -/
def execRingEnable (p : Path) (v : BitVec 32) (s : State) : Host.Outcome State Fault Refusal :=
  devStep (actionWrite p RING_CMD.ACTION 3 v) s

/-- RING_DISABLE (R233). -/
def execRingDisable (p : Path) (v : BitVec 32) (s : State) : Host.Outcome State Fault Refusal :=
  devStep (actionWrite p RING_CMD.ACTION 4 v) s

/-- RING_PAUSE (R233). -/
def execRingPause (p : Path) (v : BitVec 32) (s : State) : Host.Outcome State Fault Refusal :=
  devStep (actionWrite p RING_CMD.ACTION 5 v) s

/-- RING_UNPAUSE (R231). -/
def execRingUnpause (p : Path) (v : BitVec 32) (s : State) : Host.Outcome State Fault Refusal :=
  devStep (actionWrite p RING_CMD.ACTION 6 v) s

/-- RING_CLEAR_ERROR (R234). -/
def execRingClearError (p : Path) (v : BitVec 32) (s : State) : Host.Outcome State Fault Refusal :=
  devStep (actionWrite p RING_CMD.ACTION 7 v) s

/-- RING_ACTION_DONE (R231): the context read meets `ecc` (R227). -/
def execRingActionDone (ecc : Ecc) (s : State) : Host.Outcome State Fault Refusal :=
  devStep (fun d => ringActionDone (match d.rings.action with
    | some (_, n, _) => ctxEcc n ecc d
    | none => d)) s

/-- DOORBELL_WRITE (R236): the 32-bit low word, or the whole doorbell, whose high word is ignored. -/
def execDoorbellWrite (req : Fin 65536) (ring : Fin 262144) (ecc : Ecc) (v : BitVec 32)
    (s : State) : Host.Outcome State Fault Refusal :=
  devStep (fun d => d |> whenD (served d) (ctxEcc ring.val ecc) |> doorbell req.val ring.val v) s

/-- DESCRIPTOR_FETCH_DONE (R238). -/
def execDescriptorFetchDone (ring : Fin 262144) (ecc : Ecc) (f : FetchIn)
    (s : State) : Host.Outcome State Fault Refusal :=
  devStep (fun d => d |> whenD (fetches ring.val d) (ctxEcc ring.val ecc) |> fetchDone ring.val f) s

/-- BAND_WRITE_DONE (R242). -/
def execBandWriteDone (ring : Fin 262144) (s : State) : Host.Outcome State Fault Refusal :=
  devStep (bandWritten ring.val) s

/-- BAND_WRITE_DEADLINE (R73): `k` bytes of the piece are written. -/
def execBandWriteDeadline (ring : Fin 262144) (k : Nat) (s : State) : Host.Outcome State Fault Refusal :=
  devStep (bandDeadline ring.val k) s

/-- LOW_WORD_READ (R19). -/
def execLowWordRead (p : Path) (a : Nat) (s : State) : Host.Outcome State Fault Refusal :=
  devStep (busRead p a) s

/-- MIRROR_READ (R307). -/
def execMirrorRead (p : Path) (k : Fin 128) (s : State) : Host.Outcome State Fault Refusal :=
  devStep (busRead p (0xD100 + 4 * k.val)) s

end Sys2Proof.Machine
end

