-- ==== Sys2Proof/Machine/RowsSlate.lean ====
section
/-! DEFINITION. Meanings of commands: the slate timer, module time and the herd (02_focal_plane.md R52;
03_slate_and_herd.md R71 to R93). -/

namespace Sys2Proof.Machine

/-- ROW_SLOT_END (R52). -/
def execRowSlotEnd (x : SlotIn) (s : State) : Host.Outcome State Fault Refusal :=
  devStep (rowSlotEnd x) s

/-- SLATE_BOUNDARY (R71). -/
def execSlateBoundary (s : State) : Host.Outcome State Fault Refusal :=
  devStep slateBoundary s

/-- SLATE_IN_EDGE (R75): `t` ticks after the start of the row slot. -/
def execSlateInEdge (t : Nat) (s : State) : Host.Outcome State Fault Refusal :=
  devStep (fun d => if d.sl.running && edgeSource d == 1 then edgeArrives t d else d) s

/-- EARLY_EDGE_RELEASE (R75). -/
def execEarlyEdgeRelease (s : State) : Host.Outcome State Fault Refusal :=
  devStep earlyRelease s

/-- MISSED_EDGE_TIMEOUT (R75). -/
def execMissedEdgeTimeout (s : State) : Host.Outcome State Fault Refusal :=
  devStep missedEdge s

/-- HELD_SLOT_TIMEOUT (R76). -/
def execHeldSlotTimeout (s : State) : Host.Outcome State Fault Refusal :=
  devStep heldTimeout s

/-- CLAPPER_EDGE (R83): a low period of `ns` nanoseconds begins `t` ticks after the start of the row slot. -/
def execClapperEdge (ns : Nat) (t : Nat) (s : State) : Host.Outcome State Fault Refusal :=
  devStep (clapperLow ns t) s

/-- ELECTION_INITIATE (R85). -/
def execElectionInitiate (s : State) : Host.Outcome State Fault Refusal :=
  devStep electionInitiate s

/-- ELECTION_BIT_CELL (R85). -/
def execElectionBitCell (low : Bool) (s : State) : Host.Outcome State Fault Refusal :=
  devStep (electionCell low) s

/-- ELECTION_END (R85). -/
def execElectionEnd (s : State) : Host.Outcome State Fault Refusal :=
  devStep electionEnd s

/-- ROSTER (R88). -/
def execRoster (origin : Fin 16) (seq : Fin 256) (herdId : Nat) (st : Nat) (taking : Bool) (ticks : Nat)
    (slots : Nat) (stripe : Bool) (serial : Nat) (s : State) : Host.Outcome State Fault Refusal :=
  devStep (fun d => d
    |> laneReceive ⟨hmROSTER, origin.val, 0, true, seq.val, [herdId, st, b2n taking, ticks, slots, b2n stripe, serial]⟩
      (rosterHeard origin.val herdId taking (ticks * slots))
    |> whenD (mainRuns d && origin.val == posOf d) (rosterOwn herdId serial)) s

/-- SLATE_INFO (R88). -/
def execSlateInfo (origin : Fin 16) (seq : Fin 256) (no : Nat) (start : Nat) (blind : Nat)
    (s : State) : Host.Outcome State Fault Refusal :=
  devStep (laneReceive ⟨hmSLATE_INFO, origin.val, 0, true, seq.val, [no, start, blind]⟩
    (slateInfo origin.val no start blind)) s

/-- TAKE_REQ (R89). -/
def execTakeReq (origin : Fin 16) (seq : Fin 256) (dest : Fin 16) (auto : Bool)
    (s : State) : Host.Outcome State Fault Refusal :=
  devStep (laneReceive ⟨hmTAKE_REQ, origin.val, dest.val, false, seq.val, [b2n auto]⟩ (takeReq origin.val auto)) s

/-- TAKE_GRANT (R89). -/
def execTakeGrant (origin : Fin 16) (seq : Fin 256) (dest : Fin 16) (start : Nat)
    (s : State) : Host.Outcome State Fault Refusal :=
  devStep (laneReceive ⟨hmTAKE_GRANT, origin.val, dest.val, false, seq.val, [start]⟩ (takeGranted start)) s

/-- TAKE_DENY (R89). -/
def execTakeDeny (origin : Fin 16) (seq : Fin 256) (dest : Fin 16) (reason : Fin 3)
    (s : State) : Host.Outcome State Fault Refusal :=
  devStep (laneReceive ⟨hmTAKE_DENY, origin.val, dest.val, false, seq.val, [reason.val]⟩ takeDenied) s

/-- TAKE_DONE (R89). -/
def execTakeDone (origin : Fin 16) (seq : Fin 256) (dest : Fin 16) (abandoned : Bool)
    (s : State) : Host.Outcome State Fault Refusal :=
  devStep (laneReceive ⟨hmTAKE_DONE, origin.val, dest.val, false, seq.val, [b2n abandoned]⟩ (takeDone origin.val)) s

/-- SEAM (R90). -/
def execSeam (origin : Fin 16) (seq : Fin 256) (slate : Nat) (left : Fin 65536) (right : Fin 65536)
    (top : Fin 65536) (bottom : Fin 65536) (s : State) : Host.Outcome State Fault Refusal :=
  devStep (laneReceive ⟨hmSEAM, origin.val, 0, true, seq.val, [slate, left.val, right.val, top.val, bottom.val]⟩
    (seamStore origin.val slate left.val right.val top.val bottom.val)) s

/-- HERD_MESSAGE_BAD_CRC (R88). -/
def execHerdMessageBadCrc (s : State) (w : List (BitVec 8) := []) : Host.Outcome State Fault Refusal :=
  devStep (laneOther w) s

/-- HERD_LANE_LOSS (R88). -/
def execHerdLaneLoss (s : State) : Host.Outcome State Fault Refusal :=
  devStep laneLoss s

/-- ROSTER_TIMEOUT (R88). -/
def execRosterTimeout (s : State) : Host.Outcome State Fault Refusal :=
  devStep rosterTimeout s

/-- TAKE_REQ_TIMEOUT (R89). -/
def execTakeReqTimeout (s : State) : Host.Outcome State Fault Refusal :=
  devStep reqTimeout s

/-- WAIT_EXPIRED (R89). -/
def execWaitExpired (s : State) : Host.Outcome State Fault Refusal :=
  devStep waitExpired s

/-- SCHEDULE_GRANT (R89). -/
def execScheduleGrant (s : State) : Host.Outcome State Fault Refusal :=
  devStep scheduleGrant s

/-- LOAD_TIME (R80). -/
def execLoadTime (p : Path) (v : BitVec 32) (s : State) : Host.Outcome State Fault Refusal :=
  devStep (actionWrite p SLATE_CMD.LOAD_TIME 1 v) s

/-- STEP_TIME (R80). -/
def execStepTime (p : Path) (v : BitVec 32) (s : State) : Host.Outcome State Fault Refusal :=
  devStep (actionWrite p SLATE_CMD.STEP_TIME 1 v) s

/-- LOAD_NO (R80). -/
def execLoadNo (p : Path) (v : BitVec 32) (s : State) : Host.Outcome State Fault Refusal :=
  devStep (actionWrite p SLATE_CMD.LOAD_NO 1 v) s

/-- HERD_CFG_WRITE (R93). -/
def execHerdCfgWrite (p : Path) (v : BitVec 32) (s : State) : Host.Outcome State Fault Refusal :=
  devStep (busWrite p HERD_CFG.addr v) s

/-- LANE_UP (R88). -/
def execLaneUp (s : State) : Host.Outcome State Fault Refusal :=
  devStep laneUp s

end Sys2Proof.Machine
end

