-- ==== Sys2Proof/Machine/RowsStore.lean ====
section
/-! DEFINITION. Meanings of commands: the nonvolatile store (16_nonvolatile_store.md R384 to R398). -/

namespace Sys2Proof.Machine

/-- NVS_READY (R384). -/
def execNvsReady (s : State) : Host.Outcome State Fault Refusal :=
  devStep nvsReady s

/-- NVS_INIT_DONE (R384). -/
def execNvsInitDone (errs : List NvsErr) (s : State) : Host.Outcome State Fault Refusal :=
  .next (identityOwed errs (nvsInit errs s))

/-- NVS_READ (R385). -/
def execNvsRead (p : Path) (v : BitVec 32) (s : State) : Host.Outcome State Fault Refusal :=
  devStep (actionWrite p NVS_CMD.ACTION 1 v) s

/-- NVS_WRITE (R385). -/
def execNvsWrite (p : Path) (v : BitVec 32) (s : State) : Host.Outcome State Fault Refusal :=
  devStep (actionWrite p NVS_CMD.ACTION 2 v) s

/-- REC_READ (R388). -/
def execRecRead (p : Path) (v : BitVec 32) (s : State) : Host.Outcome State Fault Refusal :=
  devStep (actionWrite p NVS_CMD.ACTION 3 v) s

/-- REC_WRITE (R389). -/
def execRecWrite (p : Path) (v : BitVec 32) (s : State) : Host.Outcome State Fault Refusal :=
  devStep (actionWrite p NVS_CMD.ACTION 4 v) s

/-- UNLOCK (R393). -/
def execUnlock (p : Path) (v : BitVec 32) (s : State) : Host.Outcome State Fault Refusal :=
  devStep (actionWrite p NVS_CMD.ACTION 5 v) s

/-- LOCK (R393). -/
def execLock (p : Path) (v : BitVec 32) (s : State) : Host.Outcome State Fault Refusal :=
  devStep (actionWrite p NVS_CMD.ACTION 6 v) s

/-- SET_PW (R393). -/
def execSetPw (p : Path) (v : BitVec 32) (s : State) : Host.Outcome State Fault Refusal :=
  devStep (actionWrite p NVS_CMD.ACTION 7 v) s

/-- NVS_PAGE_OP_DONE (R398). -/
def execNvsPageOpDone (errs : List NvsErr) (weak : List (Fin 16)) (s : State) : Host.Outcome State Fault Refusal :=
  .next (pageOpDone errs weak s)

/-- SCRUB_TIMER (R397). -/
def execScrubTimer (s : State) : Host.Outcome State Fault Refusal :=
  devStep scrubTimer s

/-- HOURS (R394). -/
def execHours (s : State) : Host.Outcome State Fault Refusal :=
  devStep (fun d => whenD (mstate d != stAUX && mstate d != stOFF) (countUp 7) d) s

end Sys2Proof.Machine
end

