-- ==== Sys2Proof/Machine/RowsTakes.lean ====
section
/-! DEFINITION. Meanings of commands: takes and their timers (07_takes.md R175 to R195). -/

namespace Sys2Proof.Machine

/-- INTERVAL_TRIGGER (R175). -/
def execIntervalTrigger (s : State) : Host.Outcome State Fault Refusal :=
  devStep intervalFires s

/-- MIN_GAP_END (R176). -/
def execMinGapEnd (s : State) : Host.Outcome State Fault Refusal :=
  devStep minGapEnds s

/-- TAKE_SHUTTER_TIMEOUT (R181). -/
def execTakeShutterTimeout (s : State) : Host.Outcome State Fault Refusal :=
  devStep shutterTimeout s

/-- DEPOT_L_EXPIRY (R195). -/
def execDepotLExpiry (s : State) : Host.Outcome State Fault Refusal :=
  devStep depotExpiry s

/-- STGATE_LIFE_EXPIRY (R193). -/
def execStgateLifeExpiry (s : State) : Host.Outcome State Fault Refusal :=
  devStep gateExpiry s

/-- TAKE_STGATE_WRITE (R193). -/
def execTakeStgateWrite (p : Path) (n : Fin 6) (v : BitVec 32) (s : State) : Host.Outcome State Fault Refusal :=
  devStep (busWrite p (TAKE_STGATE.addr n.val) v) s

end Sys2Proof.Machine
end

