-- ==== Sys2Proof/Machine/RowsThermal.lean ====
section
/-! DEFINITION. Meanings of commands: the thermal map, the Gaffer and power (15_thermal_power.md R365 to R377). -/

namespace Sys2Proof.Machine

/-- SENSOR_WINDOW (R365, 18_register_index.md R422). -/
def execSensorWindow (rest : SensCount) (xs : List SensCount) (s : State) : Host.Outcome State Fault Refusal :=
  .next (identityOwed [] (windowEnd rest xs s))

/-- POWER_MEASUREMENT (R377). -/
def execPowerMeasurement (mw : Nat) (s : State) : Host.Outcome State Fault Refusal :=
  devStep (powerMeasured mw) s

/-- WARM_OK_TIMER (R370). -/
def execWarmOkTimer (s : State) : Host.Outcome State Fault Refusal :=
  devStep (fun d => whenD (auxOn d && warmHolds d) (setWarmOk true) d) s

end Sys2Proof.Machine
end

