-- ==== Sys2Proof/Machine/Dispatch.lean ====
section
/-! DEFINITION. What each command does: one arm per row of the opcode table, each one direct call of its
meaning. -/

namespace Sys2Proof.Machine

def exec (i : Instr) (s : State) : Host.Outcome State Fault Refusal :=
  match i with
  | .auxPowerUp host strap => Sys2Proof.Machine.execAuxPowerUp host strap s
  | .auxSourceSwitch aux => Sys2Proof.Machine.execAuxSourceSwitch aux s
  | .resetRelease pos => Sys2Proof.Machine.execResetRelease pos s
  | .slotVerificationDone x dword1 dword2 readA readB => Sys2Proof.Machine.execSlotVerificationDone x dword1 dword2 readA readB s
  | .bootLoadingDone errs => Sys2Proof.Machine.execBootLoadingDone errs s
  | .rowSlotEnd x => Sys2Proof.Machine.execRowSlotEnd x s
  | .slateInEdge t => Sys2Proof.Machine.execSlateInEdge t s
  | .clapperEdge ns t => Sys2Proof.Machine.execClapperEdge ns t s
  | .electionBitCell low => Sys2Proof.Machine.execElectionBitCell low s
  | .roster origin seq herdId st taking ticks slots stripe serial => Sys2Proof.Machine.execRoster origin seq herdId st taking ticks slots stripe serial s
  | .slateInfo origin seq no start blind => Sys2Proof.Machine.execSlateInfo origin seq no start blind s
  | .takeReq origin seq dest auto => Sys2Proof.Machine.execTakeReq origin seq dest auto s
  | .takeGrant origin seq dest start => Sys2Proof.Machine.execTakeGrant origin seq dest start s
  | .takeDeny origin seq dest reason => Sys2Proof.Machine.execTakeDeny origin seq dest reason s
  | .takeDone origin seq dest abandoned => Sys2Proof.Machine.execTakeDone origin seq dest abandoned s
  | .seam origin seq slate left right top bottom => Sys2Proof.Machine.execSeam origin seq slate left right top bottom s
  | .nop e f => Sys2Proof.Machine.execNop e f s
  | .vadd e f => Sys2Proof.Machine.execVadd e f s
  | .vsub e f => Sys2Proof.Machine.execVsub e f s
  | .vadds e f => Sys2Proof.Machine.execVadds e f s
  | .vsubs e f => Sys2Proof.Machine.execVsubs e f s
  | .vand e f => Sys2Proof.Machine.execVand e f s
  | .vor e f => Sys2Proof.Machine.execVor e f s
  | .vxor e f => Sys2Proof.Machine.execVxor e f s
  | .vshl e f => Sys2Proof.Machine.execVshl e f s
  | .vshr e f => Sys2Proof.Machine.execVshr e f s
  | .vshru e f => Sys2Proof.Machine.execVshru e f s
  | .vmin e f => Sys2Proof.Machine.execVmin e f s
  | .vmax e f => Sys2Proof.Machine.execVmax e f s
  | .vclamp e f => Sys2Proof.Machine.execVclamp e f s
  | .vsel e f => Sys2Proof.Machine.execVsel e f s
  | .vcmp e f => Sys2Proof.Machine.execVcmp e f s
  | .vaddi e f => Sys2Proof.Machine.execVaddi e f s
  | .vli e f => Sys2Proof.Machine.execVli e f s
  | .vsplat e f => Sys2Proof.Machine.execVsplat e f s
  | .vidx e f => Sys2Proof.Machine.execVidx e f s
  | .vext e f => Sys2Proof.Machine.execVext e f s
  | .plog e f => Sys2Proof.Machine.execPlog e f s
  | .vmul e f => Sys2Proof.Machine.execVmul e f s
  | .vmac e f => Sys2Proof.Machine.execVmac e f s
  | .vmuls e f => Sys2Proof.Machine.execVmuls e f s
  | .sadd e f => Sys2Proof.Machine.execSadd e f s
  | .sli e f => Sys2Proof.Machine.execSli e f s
  | .slui e f => Sys2Proof.Machine.execSlui e f s
  | .salu e f => Sys2Proof.Machine.execSalu e f s
  | .sget e f => Sys2Proof.Machine.execSget e f s
  | .lddw e f x => Sys2Proof.Machine.execLddw e f x s
  | .lddh e f x => Sys2Proof.Machine.execLddh e f x s
  | .lddhu e f x => Sys2Proof.Machine.execLddhu e f x s
  | .stdw e f => Sys2Proof.Machine.execStdw e f s
  | .stdh e f => Sys2Proof.Machine.execStdh e f s
  | .lds e f x => Sys2Proof.Machine.execLds e f x s
  | .ldc e f x l => Sys2Proof.Machine.execLdc e f x l s
  | .stc e f => Sys2Proof.Machine.execStc e f s
  | .ldx e f x => Sys2Proof.Machine.execLdx e f x s
  | .stx e f => Sys2Proof.Machine.execStx e f s
  | .tlu e f x => Sys2Proof.Machine.execTlu e f x s
  | .npub e f => Sys2Proof.Machine.execNpub e f s
  | .nleft e f => Sys2Proof.Machine.execNleft e f s
  | .nright e f => Sys2Proof.Machine.execNright e f s
  | .neighbourReadResume e => Sys2Proof.Machine.execNeighbourReadResume e s
  | .cacc e f => Sys2Proof.Machine.execCacc e f s
  | .ccnt e f => Sys2Proof.Machine.execCcnt e f s
  | .hadd e f => Sys2Proof.Machine.execHadd e f s
  | .emit e f => Sys2Proof.Machine.execEmit e f s
  | .loop e f => Sys2Proof.Machine.execLoop e f s
  | .skip e f => Sys2Proof.Machine.execSkip e f s
  | .hook e f => Sys2Proof.Machine.execHook e f s
  | .ret e f => Sys2Proof.Machine.execRet e f s
  | .yield e f => Sys2Proof.Machine.execYield e f s
  | .yieldWaitEnd e => Sys2Proof.Machine.execYieldWaitEnd e s
  | .cmdNop ring x b => Sys2Proof.Machine.execCmdNop ring x b s
  | .start ring x b => Sys2Proof.Machine.execStart ring x b s
  | .stop ring x b => Sys2Proof.Machine.execStop ring x b s
  | .take ring x b => Sys2Proof.Machine.execTake ring x b s
  | .commit ring x b => Sys2Proof.Machine.execCommit ring x b s
  | .enterSafe ring x b => Sys2Proof.Machine.execEnterSafe ring x b s
  | .resume ring x b => Sys2Proof.Machine.execResume ring x b s
  | .resetCommand ring x b => Sys2Proof.Machine.execResetCommand ring x b s
  | .shutter ring x b => Sys2Proof.Machine.execShutter ring x b s
  | .valve ring x b => Sys2Proof.Machine.execValve ring x b s
  | .relay ring x b => Sys2Proof.Machine.execRelay ring x b s
  | .spare ring x b => Sys2Proof.Machine.execSpare ring x b s
  | .housekeeping ring x b => Sys2Proof.Machine.execHousekeeping ring x b s
  | .indicatorSend ring x b => Sys2Proof.Machine.execIndicatorSend ring x b s
  | .indicatorSendAll ring x b => Sys2Proof.Machine.execIndicatorSendAll ring x b s
  | .takeStgateWrite p n v => Sys2Proof.Machine.execTakeStgateWrite p n v s
  | .cardLoadEntries ring => Sys2Proof.Machine.execCardLoadEntries ring s
  | .cardLoadBulk ring k => Sys2Proof.Machine.execCardLoadBulk ring k s
  | .ledgerWaitResume ring => Sys2Proof.Machine.execLedgerWaitResume ring s
  | .bulkLoadComplete ring => Sys2Proof.Machine.execBulkLoadComplete ring s
  | .calReadCards p v => Sys2Proof.Machine.execCalReadCards p v s
  | .calReadLedger p v => Sys2Proof.Machine.execCalReadLedger p v s
  | .calReadCrc p v => Sys2Proof.Machine.execCalReadCrc p v s
  | .calRgainWrite p n v => Sys2Proof.Machine.execCalRgainWrite p n v s
  | .groupReset p v => Sys2Proof.Machine.execGroupReset p v s
  | .groupDisable p v => Sys2Proof.Machine.execGroupDisable p v s
  | .groupEnable p v => Sys2Proof.Machine.execGroupEnable p v s
  | .fpaModeWrite p v => Sys2Proof.Machine.execFpaModeWrite p v s
  | .fpaIntWrite p v => Sys2Proof.Machine.execFpaIntWrite p v s
  | .loadTime p v => Sys2Proof.Machine.execLoadTime p v s
  | .stepTime p v => Sys2Proof.Machine.execStepTime p v s
  | .loadNo p v => Sys2Proof.Machine.execLoadNo p v s
  | .herdCfgWrite p v => Sys2Proof.Machine.execHerdCfgWrite p v s
  | .restart p v => Sys2Proof.Machine.execRestart p v s
  | .forceFault p v => Sys2Proof.Machine.execForceFault p v s
  | .engpCheck p v => Sys2Proof.Machine.execEngpCheck p v s
  | .engpLoad p v => Sys2Proof.Machine.execEngpLoad p v s
  | .engpRemove p v => Sys2Proof.Machine.execEngpRemove p v s
  | .engpPeek p v => Sys2Proof.Machine.execEngpPeek p v s
  | .cellRtDataWrite p v => Sys2Proof.Machine.execCellRtDataWrite p v s
  | .commitHigh p v => Sys2Proof.Machine.execCommitHigh p v s
  | .commitLow p v => Sys2Proof.Machine.execCommitLow p v s
  | .clearHigh p v => Sys2Proof.Machine.execClearHigh p v s
  | .clearLow p v => Sys2Proof.Machine.execClearLow p v s
  | .mapApply p v => Sys2Proof.Machine.execMapApply p v s
  | .cellAck p v => Sys2Proof.Machine.execCellAck p v s
  | .configRequest q => Sys2Proof.Machine.execConfigRequest q s
  | .linkStateChange up speed width => Sys2Proof.Machine.execLinkStateChange up speed width s
  | .unservedAccess write bar2 a req => Sys2Proof.Machine.execUnservedAccess write bar2 a req s
  | .registerWrite x a => Sys2Proof.Machine.execRegisterWrite x a s
  | .registerReadClear x a => Sys2Proof.Machine.execRegisterReadClear x a s
  | .msixVectorUnmask u => Sys2Proof.Machine.execMsixVectorUnmask u s
  | .ringRead p v => Sys2Proof.Machine.execRingRead p v s
  | .ringWrite p v => Sys2Proof.Machine.execRingWrite p v s
  | .ringEnable p v => Sys2Proof.Machine.execRingEnable p v s
  | .ringDisable p v => Sys2Proof.Machine.execRingDisable p v s
  | .ringPause p v => Sys2Proof.Machine.execRingPause p v s
  | .ringUnpause p v => Sys2Proof.Machine.execRingUnpause p v s
  | .ringClearError p v => Sys2Proof.Machine.execRingClearError p v s
  | .ringActionDone ecc => Sys2Proof.Machine.execRingActionDone ecc s
  | .doorbellWrite req ring ecc v => Sys2Proof.Machine.execDoorbellWrite req ring ecc v s
  | .descriptorFetchDone ring ecc f => Sys2Proof.Machine.execDescriptorFetchDone ring ecc f s
  | .bandWriteDone ring => Sys2Proof.Machine.execBandWriteDone ring s
  | .bandWriteDeadline ring k => Sys2Proof.Machine.execBandWriteDeadline ring k s
  | .evtEnWrite p n v => Sys2Proof.Machine.execEvtEnWrite p n v s
  | .evtForce p v => Sys2Proof.Machine.execEvtForce p v s
  | .violClear p v => Sys2Proof.Machine.execViolClear p v s
  | .mpNop nbits early => Sys2Proof.Machine.execMpNop nbits early s
  | .mpRead nbits early w0 count => Sys2Proof.Machine.execMpRead nbits early w0 count s
  | .mpWrite nbits early w0 count data full kept => Sys2Proof.Machine.execMpWrite nbits early w0 count data full kept s
  | .mpReadMirror nbits early w0 count => Sys2Proof.Machine.execMpReadMirror nbits early w0 count s
  | .mpWriteChecked nbits early w0 count check data full kept => Sys2Proof.Machine.execMpWriteChecked nbits early w0 count check data full kept s
  | .mpRecoveryFrame extra early => Sys2Proof.Machine.execMpRecoveryFrame extra early s
  | .compatNop nbits early w0 => Sys2Proof.Machine.execCompatNop nbits early w0 s
  | .compatRead nbits early w0 => Sys2Proof.Machine.execCompatRead nbits early w0 s
  | .compatWrite nbits early w0 data full kept => Sys2Proof.Machine.execCompatWrite nbits early w0 data full kept s
  | .mpFetchDone x => Sys2Proof.Machine.execMpFetchDone x s
  | .crossingMessageSent toField => Sys2Proof.Machine.execCrossingMessageSent toField s
  | .crossingMessageInvalid toField w => Sys2Proof.Machine.execCrossingMessageInvalid toField w s
  | .ackTimeout tag => Sys2Proof.Machine.execAckTimeout tag s
  | .inhibitChange t0 t1 t2 t3 => Sys2Proof.Machine.execInhibitChange t0 t1 t2 t3 s
  | .mirrorSend k limit => Sys2Proof.Machine.execMirrorSend k limit s
  | .xctrlRefresh p v => Sys2Proof.Machine.execXctrlRefresh p v s
  | .xctrlEcho p v => Sys2Proof.Machine.execXctrlEcho p v s
  | .mirrorWrite p k v => Sys2Proof.Machine.execMirrorWrite p k v s
  | .shotRegisterWrite p n k v => Sys2Proof.Machine.execShotRegisterWrite p n k v s
  | .hkConversionDone b code => Sys2Proof.Machine.execHkConversionDone b code s
  | .hkOpenWireWaitEnd b => Sys2Proof.Machine.execHkOpenWireWaitEnd b s
  | .hkCalibrationDone b => Sys2Proof.Machine.execHkCalibrationDone b s
  | .pwmPeriod ins => Sys2Proof.Machine.execPwmPeriod ins s
  | .shotReg n => Sys2Proof.Machine.execShotReg n s
  | .shotHold n => Sys2Proof.Machine.execShotHold n s
  | .shotWait n => Sys2Proof.Machine.execShotWait n s
  | .shotInject n => Sys2Proof.Machine.execShotInject n s
  | .shotLoop n => Sys2Proof.Machine.execShotLoop n s
  | .shotEnd n => Sys2Proof.Machine.execShotEnd n s
  | .overcurrent n => Sys2Proof.Machine.execOvercurrent n s
  | .hsFault m => Sys2Proof.Machine.execHsFault m s
  | .decayEnd n => Sys2Proof.Machine.execDecayEnd n s
  | .resistanceMeasurement n => Sys2Proof.Machine.execResistanceMeasurement n s
  | .emitterLineSlot xs => Sys2Proof.Machine.execEmitterLineSlot xs s
  | .emtApply p v => Sys2Proof.Machine.execEmtApply p v s
  | .indFrameLatchEnd differs => Sys2Proof.Machine.execIndFrameLatchEnd differs s
  | .sensorWindow rest xs => Sys2Proof.Machine.execSensorWindow rest xs s
  | .powerMeasurement mw => Sys2Proof.Machine.execPowerMeasurement mw s
  | .nvsInitDone errs => Sys2Proof.Machine.execNvsInitDone errs s
  | .nvsRead p v => Sys2Proof.Machine.execNvsRead p v s
  | .nvsWrite p v => Sys2Proof.Machine.execNvsWrite p v s
  | .recRead p v => Sys2Proof.Machine.execRecRead p v s
  | .recWrite p v => Sys2Proof.Machine.execRecWrite p v s
  | .unlock p v => Sys2Proof.Machine.execUnlock p v s
  | .lock p v => Sys2Proof.Machine.execLock p v s
  | .setPw p v => Sys2Proof.Machine.execSetPw p v s
  | .nvsPageOpDone errs weak => Sys2Proof.Machine.execNvsPageOpDone errs weak s
  | .xipMiss core line => Sys2Proof.Machine.execXipMiss core line s
  | .flpRead p v => Sys2Proof.Machine.execFlpRead p v s
  | .program p v => Sys2Proof.Machine.execProgram p v s
  | .erase4k p v => Sys2Proof.Machine.execErase4k p v s
  | .flpReset p v => Sys2Proof.Machine.execFlpReset p v s
  | .mpReservedOp nbits early op w0 => Sys2Proof.Machine.execMpReservedOp nbits early op w0 s
  | .lowWordRead p a => Sys2Proof.Machine.execLowWordRead p a s
  | .mirrorRead p k => Sys2Proof.Machine.execMirrorRead p k s
  | .auxDomainUnsupplied => Sys2Proof.Machine.execAuxDomainUnsupplied s
  | .host12vApplied => Sys2Proof.Machine.execHost12vApplied s
  | .host12vLost => Sys2Proof.Machine.execHost12vLost s
  | .vvehApplied => Sys2Proof.Machine.execVvehApplied s
  | .vvehLost => Sys2Proof.Machine.execVvehLost s
  | .vvehLowDetect => Sys2Proof.Machine.execVvehLowDetect s
  | .vvehLowClear => Sys2Proof.Machine.execVvehLowClear s
  | .perstAssert => Sys2Proof.Machine.execPerstAssert s
  | .perstRelease => Sys2Proof.Machine.execPerstRelease s
  | .hotReset => Sys2Proof.Machine.execHotReset s
  | .flashReadyTimeout => Sys2Proof.Machine.execFlashReadyTimeout s
  | .watchdogExpiry => Sys2Proof.Machine.execWatchdogExpiry s
  | .slateBoundary => Sys2Proof.Machine.execSlateBoundary s
  | .earlyEdgeRelease => Sys2Proof.Machine.execEarlyEdgeRelease s
  | .missedEdgeTimeout => Sys2Proof.Machine.execMissedEdgeTimeout s
  | .heldSlotTimeout => Sys2Proof.Machine.execHeldSlotTimeout s
  | .electionInitiate => Sys2Proof.Machine.execElectionInitiate s
  | .electionEnd => Sys2Proof.Machine.execElectionEnd s
  | .herdMessageBadCrc w => Sys2Proof.Machine.execHerdMessageBadCrc s w
  | .herdLaneLoss => Sys2Proof.Machine.execHerdLaneLoss s
  | .rosterTimeout => Sys2Proof.Machine.execRosterTimeout s
  | .takeReqTimeout => Sys2Proof.Machine.execTakeReqTimeout s
  | .waitExpired => Sys2Proof.Machine.execWaitExpired s
  | .scheduleGrant => Sys2Proof.Machine.execScheduleGrant s
  | .intervalTrigger => Sys2Proof.Machine.execIntervalTrigger s
  | .minGapEnd => Sys2Proof.Machine.execMinGapEnd s
  | .takeShutterTimeout => Sys2Proof.Machine.execTakeShutterTimeout s
  | .depotLExpiry => Sys2Proof.Machine.execDepotLExpiry s
  | .stgateLifeExpiry => Sys2Proof.Machine.execStgateLifeExpiry s
  | .calReadDone => Sys2Proof.Machine.execCalReadDone s
  | .engpTestDone => Sys2Proof.Machine.execEngpTestDone s
  | .rtCmdDone => Sys2Proof.Machine.execRtCmdDone s
  | .mapCopyDone => Sys2Proof.Machine.execMapCopyDone s
  | .cellRecordDequeue => Sys2Proof.Machine.execCellRecordDequeue s
  | .dailiesDequeue => Sys2Proof.Machine.execDailiesDequeue s
  | .mpBufferedWriteIssue => Sys2Proof.Machine.execMpBufferedWriteIssue s
  | .hbeatHSend => Sys2Proof.Machine.execHbeatHSend s
  | .safeMessageSend => Sys2Proof.Machine.execSafeMessageSend s
  | .hbeatFSend => Sys2Proof.Machine.execHbeatFSend s
  | .bootFSend => Sys2Proof.Machine.execBootFSend s
  | .hbeatH => Sys2Proof.Machine.execHbeatH s
  | .slateMark => Sys2Proof.Machine.execSlateMark s
  | .safeMessage => Sys2Proof.Machine.execSafeMessage s
  | .actRun => Sys2Proof.Machine.execActRun s
  | .actOff => Sys2Proof.Machine.execActOff s
  | .shotWr => Sys2Proof.Machine.execShotWr s
  | .regWr => Sys2Proof.Machine.execRegWr s
  | .hkStart => Sys2Proof.Machine.execHkStart s
  | .hkStop => Sys2Proof.Machine.execHkStop s
  | .hkCalA => Sys2Proof.Machine.execHkCalA s
  | .hkCalB => Sys2Proof.Machine.execHkCalB s
  | .hkCalBoth => Sys2Proof.Machine.execHkCalBoth s
  | .hkClearBuf => Sys2Proof.Machine.execHkClearBuf s
  | .indData => Sys2Proof.Machine.execIndData s
  | .indLatch => Sys2Proof.Machine.execIndLatch s
  | .mirrorReq => Sys2Proof.Machine.execMirrorReq s
  | .echoReq => Sys2Proof.Machine.execEchoReq s
  | .shotRd => Sys2Proof.Machine.execShotRd s
  | .hbeatF => Sys2Proof.Machine.execHbeatF s
  | .ack => Sys2Proof.Machine.execAck s
  | .mirror => Sys2Proof.Machine.execMirror s
  | .hkResult => Sys2Proof.Machine.execHkResult s
  | .hkEvent => Sys2Proof.Machine.execHkEvent s
  | .actEvent => Sys2Proof.Machine.execActEvent s
  | .shotStatus => Sys2Proof.Machine.execShotStatus s
  | .indStatus => Sys2Proof.Machine.execIndStatus s
  | .fieldEvent => Sys2Proof.Machine.execFieldEvent s
  | .bootF => Sys2Proof.Machine.execBootF s
  | .echo => Sys2Proof.Machine.execEcho s
  | .shotData => Sys2Proof.Machine.execShotData s
  | .crossingTimeout => Sys2Proof.Machine.execCrossingTimeout s
  | .echoTimeout => Sys2Proof.Machine.execEchoTimeout s
  | .fieldHeartbeatTimeout => Sys2Proof.Machine.execFieldHeartbeatTimeout s
  | .hkScanStart => Sys2Proof.Machine.execHkScanStart s
  | .hkAutoCalTimer => Sys2Proof.Machine.execHkAutoCalTimer s
  | .coilModelUpdate => Sys2Proof.Machine.execCoilModelUpdate s
  | .warmOkTimer => Sys2Proof.Machine.execWarmOkTimer s
  | .nvsReady => Sys2Proof.Machine.execNvsReady s
  | .scrubTimer => Sys2Proof.Machine.execScrubTimer s
  | .xipLineLoaded => Sys2Proof.Machine.execXipLineLoaded s
  | .flashOpDone => Sys2Proof.Machine.execFlashOpDone s
  | .flashOpTimeout => Sys2Proof.Machine.execFlashOpTimeout s
  | .laneUp => Sys2Proof.Machine.execLaneUp s
  | .hours => Sys2Proof.Machine.execHours s

end Sys2Proof.Machine
end

