-- ==== Sys2Proof/Machine/Step.lean ====
section
/-! DEFINITION. One step of the machine: the command at the front of the queue, or one tick of the 400 MHz timing
clock when no command waits. -/

namespace Sys2Proof.Machine

/-- One tick of the timing clock with nothing commanded: time advances. DESIGN CHOICE, log 9. -/
def idleTick (s : State) : State := { s with dev := advance 1 s.dev }

/-- Take the command at the front of the queue and run it with the queue's rest; idle on an empty queue. DESIGN CHOICE, log 9 and 10 and 49. -/
def step (s : State) : Host.Outcome State Fault Refusal :=
  match s.pending with
  | [] => .next (idleTick s)
  | c :: rest => exec c { s with pending := rest }

/-- The state with the command that a word spells at the front of its queue; unchanged where it spells none. -/
def State.withFetchWord (s : State) (nbits w : Nat) : State :=
  match decodeTableWord nbits w with
  | none => s
  | some c => { s with pending := c :: s.pending }

end Sys2Proof.Machine
end

