-- ==== Sys2Proof/Machine/Pins.lean ====
section
/-! DEFINITION. What the module's outputs carry between commands, as its state gives it (17_flash_and_boot.md R415;
03_slate_and_herd.md R77, R83; 11_management_port.md R269, R289; 14_emitters_indicators.md R347; 12_field_side.md R300).
The pulses and messages that a command sends leave in `Dev.out`. -/

namespace Sys2Proof.Machine

/-- A pin's condition; `driven` where it shifts out bits that a command's end gives. -/
inductive Pin where
  | hiZ
  | low
  | high
  | driven
  deriving DecidableEq, Repr

/-- The herd lane's transmitter (R415). -/
inductive HerdDrive where
  | hiZ
  | off
  | on
  deriving DecidableEq, Repr

/-- The PCI Express transmit pairs (R415); `active` covers training and the trained link. -/
inductive PcieTx where
  | unpowered
  | idle
  | active
  deriving DecidableEq, Repr

/-- The J2 outputs (R415). -/
inductive FieldOut where
  | off
  | safe
  | run
  deriving DecidableEq, Repr

/-- The main domain is supplied: RESET, BOOT and every later state. -/
def mainSupplied (d : Dev) : Bool := mstate d != stOFF && mstate d != stAUX

/-- PCIe transmit pairs. -/
def pinPcieTx (d : Dev) : PcieTx :=
  if !mainSupplied d then .unpowered else if mstate d = stRESET then .idle else .active

/-- CLKREQ#: low from RESET onward (19_electrical_mechanical.md). -/
def pinClkreq (d : Dev) : Pin := if mainSupplied d then .low else .hiZ

/-- WAKE#: released always. -/
def pinWake (_ : Dev) : Pin := .hiZ

/-- MP_SDO: high impedance while MP_SEL# is high, and driven with the reply's bits while it is low (R269). -/
def pinSdo (d : Dev) : Pin := if auxOn d && flag MGP_STATUS.ACTIVE d then .driven else .hiZ

/-- MP_ATTN#: driven low while an enabled bit is set (R289). -/
def pinAttn (d : Dev) : Pin := if mstate d != stOFF && attnLow d then .low else .hiZ

/-- CLAPPER between the low periods that a member drives: released (R83). -/
def pinClapper (_ : Dev) : Pin := .hiZ

/-- HERD_OUT±: high impedance without the main domain and in RESET, off until the control cores have started (R87, R415). -/
def pinHerdOut (d : Dev) : HerdDrive :=
  if !mainSupplied d || mstate d == stRESET then .hiZ else if d.xh.on then .on else .off

/-- SLATE_OUT between pulses: the inactive level by OUT_POL, low in RESET (R77, R415). -/
def pinSlateOut (d : Dev) : Pin :=
  if !mainSupplied d then .hiZ
  else if mstate d != stRESET && flag SLATE_CFG.OUT_POL d then .high else .low

/-- An emitter line is driven (R347). -/
def emitterDriven (d : Dev) : Bool := (mstate d == stIDLE || mstate d == stLIVE) && d.emt.line.isSome

/-- J2: the field side alone, off without VVEH. -/
def fieldOut (d : Dev) : FieldOut := if !d.pw.vveh || !d.fl.on then .off else if d.fl.mode = 1 then .run else .safe

end Sys2Proof.Machine
end

