-- ==== Sys2Proof/WellFormed.lean ====
section
/-! DEFINITION. Which commands are well formed: operands that no sender can bring are refused. -/

namespace Sys2Proof

/-- A descriptor's fields fit their bits (09_host_rings.md R237). -/
def DescIn.wf (x : DescIn) : Bool :=
  decide (x.addr < 2 ^ 64) && decide (x.len < 2 ^ 24) && decide (x.flags < 2 ^ 8) && decide (x.tag < 2 ^ 32)

/-- A command block's fields fit their bits (R246). -/
def CmdBlk.wf (b : CmdBlk) : Bool :=
  decide (b.gen < 2 ^ 8) && decide (b.target < 2 ^ 18) && decide (b.params.length = 6) &&
  b.params.all (fun p => decide (p < 2 ^ 32))

/-- What a descriptor fetch brings fits. -/
def FetchIn.wf (f : FetchIn) : Bool :=
  match f with
  | .failed => true
  | .bufFailed x => x.wf
  | .ok x buf => x.wf && decide (buf.length ≤ x.len)

/-- An error names a group of the store (16_nonvolatile_store.md R381, R382). -/
def NvsErr.wf (e : NvsErr) : Bool := decide (e.page < 2048) && decide (e.grp < 16)

/-- A converter's sample word: with SAT, unless the converter fault mark says that the code is no measurement, the code is
clipped to 0 or 16,383 (02_focal_plane.md R50). -/
def sampleOk (c : Nat) : Bool :=
  decide (c < 2 ^ 16) && (c / 32768 != 0 || c / 16384 == 0 || c % 16384 == 0 || c % 16384 == 16383)

/-- Sample words, engines and cells of a row slot are in range. -/
def SlotIn.wf (x : SlotIn) : Bool :=
  sampleOk x.samples.fill && decide (x.samples.codes.length ≤ 4096) && x.samples.codes.all sampleOk &&
  x.refs.all (fun r => decide (r.col < 4096) && decide (r.code < 2 ^ 14)) &&
  x.late.all (fun l => decide (l.e < 1024) && (l.reads || !l.trim)) && x.unclosed.all (fun e => decide (e < 1024)) &&
  x.unevaluated.all (fun c => decide (c < 2 ^ 18)) && x.ecc.all (fun e => decide (e.e < 1024))

/-- A write access is aligned and inside its BAR (09_host_rings.md R225). -/
def WriteForm.wf (x : WriteForm) (a : Nat) : Bool :=
  match x with
  | .word _ _ => decide (a < 2 ^ 20) && decide (a % 4 = 0)
  | .wide _ _ _ => decide (a < 2 ^ 20) && decide (a % 8 = 0)

/-- A read access is aligned and inside its BAR. -/
def ReadForm.wf (x : ReadForm) (a : Nat) : Bool :=
  match x with
  | .word _ => decide (a < 2 ^ 20) && decide (a % 4 = 0)
  | .wide _ => decide (a < 2 ^ 20) && decide (a % 8 = 0)
  | .doorbell _ w => decide (a < 2 ^ 21) && decide (a % (if w then 8 else 4) = 0)

/-- A command is well formed. DESIGN CHOICE, log 11. -/
def Instr.wf (i : Instr) : Bool :=
  match i with
  | .auxPowerUp _ _ => true
  | .auxSourceSwitch _ => true
  | .resetRelease _ => true
  | .slotVerificationDone _ _ _ _ _ => true
  | .bootLoadingDone errs => errs.all NvsErr.wf
  | .rowSlotEnd x => x.wf
  | .slateInEdge _ => true
  | .clapperEdge _ _ => true
  | .electionBitCell _ => true
  | .roster _ _ herdId st _ ticks slots _ serial => decide (herdId < 2 ^ 10) && decide (st < 8) && decide (ticks < 2 ^ 16) && decide (slots < 2 ^ 16) &&
    decide (serial < 2 ^ 64)
  | .slateInfo _ _ no s0 blind => decide (no < 2 ^ 48) && decide (s0 < 2 ^ 64) && decide (blind ≤ 16)
  | .takeReq _ _ _ _ => true
  | .takeGrant _ _ _ s0 => decide (s0 < 2 ^ 48)
  | .takeDeny _ _ _ _ => true
  | .takeDone _ _ _ _ => true
  | .seam _ _ slate _ _ _ _ => decide (slate < 2 ^ 48)
  | .nop _ _ => true
  | .vadd _ _ => true
  | .vsub _ _ => true
  | .vadds _ _ => true
  | .vsubs _ _ => true
  | .vand _ _ => true
  | .vor _ _ => true
  | .vxor _ _ => true
  | .vshl _ _ => true
  | .vshr _ _ => true
  | .vshru _ _ => true
  | .vmin _ _ => true
  | .vmax _ _ => true
  | .vclamp _ _ => true
  | .vsel _ _ => true
  | .vcmp _ _ => true
  | .vaddi _ _ => true
  | .vli _ _ => true
  | .vsplat _ _ => true
  | .vidx _ _ => true
  | .vext _ _ => true
  | .plog _ _ => true
  | .vmul _ _ => true
  | .vmac _ _ => true
  | .vmuls _ _ => true
  | .sadd _ _ => true
  | .sli _ _ => true
  | .slui _ _ => true
  | .salu _ _ => true
  | .sget _ _ => true
  | .lddw _ _ _ => true
  | .lddh _ _ _ => true
  | .lddhu _ _ _ => true
  | .stdw _ _ => true
  | .stdh _ _ => true
  | .lds _ _ _ => true
  | .ldc _ _ _ _ => true
  | .stc _ _ => true
  | .ldx _ _ _ => true
  | .stx _ _ => true
  | .tlu _ _ _ => true
  | .npub _ _ => true
  | .nleft _ _ => true
  | .nright _ _ => true
  | .neighbourReadResume _ => true
  | .cacc _ _ => true
  | .ccnt _ _ => true
  | .hadd _ _ => true
  | .emit _ _ => true
  | .loop _ _ => true
  | .skip _ _ => true
  | .hook _ _ => true
  | .ret _ _ => true
  | .yield _ _ => true
  | .yieldWaitEnd _ => true
  | .cmdNop _ x b => x.wf && b.wf
  | .start _ x b => x.wf && b.wf
  | .stop _ x b => x.wf && b.wf
  | .take _ x b => x.wf && b.wf
  | .commit _ x b => x.wf && b.wf
  | .enterSafe _ x b => x.wf && b.wf
  | .resume _ x b => x.wf && b.wf
  | .resetCommand _ x b => x.wf && b.wf
  | .shutter _ x b => x.wf && b.wf
  | .valve _ x b => x.wf && b.wf
  | .relay _ x b => x.wf && b.wf
  | .spare _ x b => x.wf && b.wf
  | .housekeeping _ x b => x.wf && b.wf
  | .indicatorSend _ x b => x.wf && b.wf
  | .indicatorSendAll _ x b => x.wf && b.wf
  | .takeStgateWrite _ _ _ => true
  | .cardLoadEntries _ => true
  | .cardLoadBulk _ _ => true
  | .ledgerWaitResume _ => true
  | .bulkLoadComplete _ => true
  | .calReadCards _ _ => true
  | .calReadLedger _ _ => true
  | .calReadCrc _ _ => true
  | .calRgainWrite _ _ _ => true
  | .groupReset _ _ => true
  | .groupDisable _ _ => true
  | .groupEnable _ _ => true
  | .fpaModeWrite _ _ => true
  | .fpaIntWrite _ _ => true
  | .loadTime _ _ => true
  | .stepTime _ _ => true
  | .loadNo _ _ => true
  | .herdCfgWrite _ _ => true
  | .restart _ _ => true
  | .forceFault _ _ => true
  | .engpCheck _ _ => true
  | .engpLoad _ _ => true
  | .engpRemove _ _ => true
  | .engpPeek _ _ => true
  | .cellRtDataWrite _ _ => true
  | .commitHigh _ _ => true
  | .commitLow _ _ => true
  | .clearHigh _ _ => true
  | .clearLow _ _ => true
  | .mapApply _ _ => true
  | .cellAck _ _ => true
  | .configRequest _ => true
  | .linkStateChange up speed width => !up || (speed.val != 0 && (width.val == 1 || width.val == 2 || width.val == 4))
  | .unservedAccess _ bar2 a _ => decide (a < if bar2 then 2 ^ 21 else 2 ^ 20)
  | .registerWrite x a => x.wf a
  | .registerReadClear x a => x.wf a
  | .msixVectorUnmask _ => true
  | .ringRead _ _ => true
  | .ringWrite _ _ => true
  | .ringEnable _ _ => true
  | .ringDisable _ _ => true
  | .ringPause _ _ => true
  | .ringUnpause _ _ => true
  | .ringClearError _ _ => true
  | .ringActionDone _ => true
  | .doorbellWrite _ _ _ _ => true
  | .descriptorFetchDone _ _ f => f.wf
  | .bandWriteDone _ => true
  | .bandWriteDeadline _ _ => true
  | .evtEnWrite _ _ _ => true
  | .evtForce _ _ => true
  | .violClear _ _ => true
  | .mpNop nbits _ => nbits != 0
  | .mpRead nbits _ _ _ => nbits != 0
  | .mpWrite nbits _ _ _ data _ _ => nbits != 0 && decide (data.length ≤ nbits)
  | .mpReadMirror nbits _ _ _ => nbits != 0
  | .mpWriteChecked nbits _ _ _ _ data _ _ => nbits != 0 && decide (data.length ≤ nbits)
  | .mpRecoveryFrame _ _ => true
  | .compatNop nbits _ _ => nbits != 0
  | .compatRead nbits _ _ => nbits != 0
  | .compatWrite nbits _ _ data _ _ => nbits != 0 && decide (data.length ≤ nbits)
  | .mpFetchDone _ => true
  | .crossingMessageSent _ => true
  | .crossingMessageInvalid _ _ => true
  | .ackTimeout _ => true
  | .inhibitChange t0 t1 t2 t3 => [t0, t1, t2, t3].all (fun t => decide (-2 ^ 15 ≤ t) && decide (t < 2 ^ 15))
  | .mirrorSend _ _ => true
  | .xctrlRefresh _ _ => true
  | .xctrlEcho _ _ => true
  | .mirrorWrite _ _ _ => true
  | .shotRegisterWrite _ _ _ _ => true
  | .hkConversionDone _ _ => true
  | .hkOpenWireWaitEnd _ => true
  | .hkCalibrationDone _ => true
  | .pwmPeriod ins => decide (ins.length ≤ 6) && ins.all (fun i => decide (i.code < 2 ^ 16) && decide (i.duty ≤ 2 ^ 16))
  | .shotReg _ => true
  | .shotHold _ => true
  | .shotWait _ => true
  | .shotInject _ => true
  | .shotLoop _ => true
  | .shotEnd _ => true
  | .overcurrent _ => true
  | .hsFault _ => true
  | .decayEnd _ => true
  | .resistanceMeasurement _ => true
  | .emitterLineSlot xs => decide (xs.length ≤ 12)
  | .emtApply _ _ => true
  | .indFrameLatchEnd _ => true
  | .sensorWindow _ xs => decide (xs.length ≤ 200)
  | .powerMeasurement _ => true
  | .nvsInitDone errs => errs.all NvsErr.wf
  | .nvsRead _ _ => true
  | .nvsWrite _ _ => true
  | .recRead _ _ => true
  | .recWrite _ _ => true
  | .unlock _ _ => true
  | .lock _ _ => true
  | .setPw _ _ => true
  | .nvsPageOpDone errs _ => errs.all NvsErr.wf
  | .xipMiss _ _ => true
  | .flpRead _ _ => true
  | .program _ _ => true
  | .erase4k _ _ => true
  | .flpReset _ _ => true
  | .mpReservedOp nbits _ _ _ => nbits != 0
  | .lowWordRead _ a => decide (a < 2 ^ 20) && decide (a % 4 = 0)
  | .mirrorRead _ _ => true
  | .auxDomainUnsupplied => true
  | .host12vApplied => true
  | .host12vLost => true
  | .vvehApplied => true
  | .vvehLost => true
  | .vvehLowDetect => true
  | .vvehLowClear => true
  | .perstAssert => true
  | .perstRelease => true
  | .hotReset => true
  | .flashReadyTimeout => true
  | .watchdogExpiry => true
  | .slateBoundary => true
  | .earlyEdgeRelease => true
  | .missedEdgeTimeout => true
  | .heldSlotTimeout => true
  | .electionInitiate => true
  | .electionEnd => true
  | .herdMessageBadCrc w => decide (w.length = 24)
  | .herdLaneLoss => true
  | .rosterTimeout => true
  | .takeReqTimeout => true
  | .waitExpired => true
  | .scheduleGrant => true
  | .intervalTrigger => true
  | .minGapEnd => true
  | .takeShutterTimeout => true
  | .depotLExpiry => true
  | .stgateLifeExpiry => true
  | .calReadDone => true
  | .engpTestDone => true
  | .rtCmdDone => true
  | .mapCopyDone => true
  | .cellRecordDequeue => true
  | .dailiesDequeue => true
  | .mpBufferedWriteIssue => true
  | .hbeatHSend => true
  | .safeMessageSend => true
  | .hbeatFSend => true
  | .bootFSend => true
  | .hbeatH => true
  | .slateMark => true
  | .safeMessage => true
  | .actRun => true
  | .actOff => true
  | .shotWr => true
  | .regWr => true
  | .hkStart => true
  | .hkStop => true
  | .hkCalA => true
  | .hkCalB => true
  | .hkCalBoth => true
  | .hkClearBuf => true
  | .indData => true
  | .indLatch => true
  | .mirrorReq => true
  | .echoReq => true
  | .shotRd => true
  | .hbeatF => true
  | .ack => true
  | .mirror => true
  | .hkResult => true
  | .hkEvent => true
  | .actEvent => true
  | .shotStatus => true
  | .indStatus => true
  | .fieldEvent => true
  | .bootF => true
  | .echo => true
  | .shotData => true
  | .crossingTimeout => true
  | .echoTimeout => true
  | .fieldHeartbeatTimeout => true
  | .hkScanStart => true
  | .hkAutoCalTimer => true
  | .coilModelUpdate => true
  | .warmOkTimer => true
  | .nvsReady => true
  | .scrubTimer => true
  | .xipLineLoaded => true
  | .flashOpDone => true
  | .flashOpTimeout => true
  | .laneUp => true
  | .hours => true

end Sys2Proof
end

