-- ==== Sys2Proof/Safety.lean ====
section
/-! DEFINITION. The terms in which the statements speak: a good store, commands that leave it alone, an engine that
executes a word, and what such a word changes and leaves unchanged. -/

namespace Sys2Proof.Machine

/-! ### The whole machine -/

/-- Both arrays that outlive the supplies are in canonical form. -/
def Store.wf (m : Store) : Prop := Memory.wf 0 m.nvs = true ∧ Memory.wf 0xFF m.flash = true

/-- The commands in which the nonvolatile store or the flash can change: a page operation that ends; a flash operation that
ends, BOOT's finding the flash ready or not among them; and a loss of a supply, or a critical temperature, which takes the
main domain's supply away, that cuts one short. -/
def mayChangeStore (c : Instr) : Bool :=
  match c with
  | .nvsPageOpDone _ _ | .flashOpDone | .flashOpTimeout | .flashReadyTimeout | .slotVerificationDone _ _ _ _ _
  | .auxDomainUnsupplied | .host12vLost | .sensorWindow _ _ => true
  | _ => false

/-- The commands that act in the field domain: its supply, its own units, and the messages that reach or leave it. -/
def fieldCommand (c : Instr) : Bool :=
  match c with
  | .actOff | .actRun | .bootFSend | .coilModelUpdate | .crossingMessageInvalid _ _ | .crossingMessageSent _
  | .decayEnd _ | .echoReq | .fieldHeartbeatTimeout | .hbeatFSend | .hbeatH | .hkAutoCalTimer | .hkCalA | .hkCalB
  | .hkCalBoth | .hkCalibrationDone _ | .hkClearBuf | .hkConversionDone _ _ | .hkOpenWireWaitEnd _ | .hkScanStart
  | .hkStart | .hkStop | .hsFault _ | .indData | .indFrameLatchEnd _ | .indLatch | .inhibitChange _ _ _ _
  | .mirrorReq | .mirrorSend _ _ | .overcurrent _ | .pwmPeriod _ | .regWr | .resistanceMeasurement _ | .safeMessage
  | .shotEnd _ | .shotHold _ | .shotInject _ | .shotLoop _ | .shotRd | .shotReg _ | .shotWait _ | .shotWr
  | .slateMark | .vvehApplied | .vvehLost | .vvehLowClear | .vvehLowDetect => true
  | _ => false

/-- The instructions of column programs, with the two resumptions of an engine that waits in one. -/
def columnInstruction (c : Instr) : Bool :=
  match c with
  | .nop _ _ | .vadd _ _ | .vsub _ _ | .vadds _ _ | .vsubs _ _ | .vand _ _ | .vor _ _ | .vxor _ _ | .vshl _ _
  | .vshr _ _ | .vshru _ _ | .vmin _ _ | .vmax _ _ | .vclamp _ _ | .vsel _ _ | .vcmp _ _ | .vaddi _ _ | .vli _ _
  | .vsplat _ _ | .vidx _ _ | .vext _ _ | .plog _ _ | .vmul _ _ | .vmac _ _ | .vmuls _ _ | .sadd _ _ | .sli _ _
  | .slui _ _ | .salu _ _ | .sget _ _ | .lddw _ _ _ | .lddh _ _ _ | .lddhu _ _ _ | .stdw _ _ | .stdh _ _ | .lds _ _ _
  | .ldc _ _ _ _ | .stc _ _ | .ldx _ _ _ | .stx _ _ | .tlu _ _ _ | .npub _ _ | .nleft _ _ | .nright _ _ | .cacc _ _
  | .ccnt _ _ | .hadd _ _ | .emit _ _ | .loop _ _ | .skip _ _ | .hook _ _ | .ret _ _ | .neighbourReadResume _
  | .yield _ _ | .yieldWaitEnd _ => true
  | _ => false

/-- The command `c` completes in state `s`, in a next state of which `post` holds. -/
def makes (c : Instr) (s : State) (post : State → Prop) : Prop := ∃ t, exec c s = .next t ∧ post t

/-- Both access paths reach every register: the main domain is served in full, and the aux domain is supplied (R224,
R268, R281). -/
def reachable (d : Dev) : Prop := served d = true ∧ auxOn d = true

/-- The value that a write of `v` leaves in the register at `a` (00_scope.md R20, R21). -/
def valueLeft (a : Nat) (v : BitVec 32) (d : Dev) : BitVec 32 :=
  match regInfo a with
  | some r => merged r (rdReg a d) v
  | none => 0

/-- The module has written the completion of the descriptor at host address `a` (09_host_rings.md R239, R249): STATUS with
PART, and DONE_LEN with the slate and the time. -/
def completedAt (a status len : Nat) (d t : Dev) : Prop :=
  ∃ l, t.out = d.out ++ l ∧ .hostWrite (a + 0x10) (leBytes 4 status) ∈ l ∧
    ∃ time, .hostWrite (a + 0x14) (leBytes 4 len ++ time) ∈ l ∧ time.length = 8

/-- Registers that a write only sets, in every register group. -/
def plainRegs : List Nat :=
  [FPA_PLAUS.addr, SLATE_TRIM.addr, CAL_LEDGER_CFG.addr, PIPE_CLK.addr, PIPE_HIST.addr, TAKE_CFG.addr, TAKE_LIM.addr,
   TAKE_ST.addr, CELL_ZONE0.addr 5, CELL_ZONE2.addr 5, RING_SEL.addr, EVT_VEC.addr 3, GAF_PLIM.addr, GAF_GRAD.addr,
   GAF_WARM.addr, NVS_ADDR.addr, FLP_ADDR.addr, MGP_CFG.addr, MGP_LEN.addr, IND_LAST.addr, ENGP_HDR.addr]

/-- The value holds no reserved encoding in the register at `a` (00_scope.md R22). -/
def encodingAt (a : Nat) (v : BitVec 32) (d : Dev) : Bool :=
  match regInfo a with
  | some r => encodingOk r.base ((a - r.base) / r.stride) v d
  | none => false

/-- The management port is between frames, in the format that its registers ask for: no fault to report, no write buffered,
nothing of the reply fetched or shifted out (11_management_port.md R276, R278, R286). -/
def portIdle (compat : Bool) (d : Dev) : Prop :=
  auxOn d = true ∧ flag MGP_STATUS.ACTIVE d = false ∧ flag MGP_CFG.COMPAT d = compat ∧ mpCompat d = compat ∧
  fld MGP_CFG.W d = mpW d ∧ fld MGP_LEN.LEN d = d.mgp.len ∧ 1 ≤ mpW d ∧ d.mgp.faults = [] ∧ d.mgp.undr = false ∧
  d.mgp.buf = [] ∧ d.mgp.reply.got = 0 ∧ d.mgp.reply.started = 0 ∧ d.mgp.reply.data = [] ∧ d.mgp.reply.recovery = false

/-- The management port is between frames, and no read is answered next (11_management_port.md R276). -/
def portRests (compat : Bool) (d : Dev) : Prop :=
  portIdle compat d ∧ d.mgp.reply.reads = false ∧ d.mgp.reply.words = some 0

/-- The management port is between frames, and the next one shifts out the reply to a command with operation code `op`, of
`words` words, or of as many as it clocks (11_management_port.md R276, R288). -/
def portAnswers (compat : Bool) (op : Nat) (words : Option Nat) (d : Dev) : Prop :=
  portIdle compat d ∧ d.mgp.reply.op = op ∧ d.mgp.reply.words = words

/-- A herd lane message from another position reaches a powered member and is meant for it (R88). -/
def laneMeant (origin dest : Nat) (bcast : Bool) (d : Dev) : Prop :=
  herdOn d = true ∧ mainRuns d = true ∧ origin ≠ posOf d ∧ (bcast = true ∨ dest = posOf d)

/-- The number that the next slate takes in a module that follows no leader (03_slate_and_herd.md R78, R80). -/
def nextNo (d : Dev) : Nat :=
  if d.sl.loadNo then ((rdReg SLATE_NLOAD_LO.addr d).toNat + 2 ^ 32 * (rdReg SLATE_NLOAD_HI.addr d).toNat) % 2 ^ 48
  else (d.sl.no + 1) % 2 ^ 48

/-- Counting up by one within a field. -/
def countedOnce (f : Fld) (s t : Dev) : Prop := fld f t = min (fldMax f) (fld f s + 1)

/-- Source `k` is raised. -/
def raised (k : Nat) (t : State) : Prop := flag (evtStat k) t.dev = true

/-- The registers of the main domain read their reset values. -/
def mainAtReset (d : Dev) : Prop := ∀ a, auxAddr a = false → rdReg a d = regReset a

/-- Every register but those of the list keeps its value. -/
def regsKeptBut (l : List Nat) (d t : Dev) : Prop := ∀ a, a ∉ l → rdReg a t = rdReg a d

/-- Only registers and what the module sends differ between two machines. -/
def onlyRegs (d t : Dev) : Prop := t = { d with main := t.main, aux := t.aux, out := t.out, evt := t.evt }

/-- The outputs while the main domain is unpowered, in RESET and on entry into BOOT (17_flash_and_boot.md R415, R77). -/
def outputsUnpowered (d : Dev) : Prop :=
  pinPcieTx d = .unpowered ∧ pinClkreq d = .hiZ ∧ pinWake d = .hiZ ∧ pinSlateOut d = .hiZ ∧ pinHerdOut d = .hiZ ∧
  emitterDriven d = false
def outputsInReset (d : Dev) : Prop :=
  pinPcieTx d = .idle ∧ pinClkreq d = .low ∧ pinWake d = .hiZ ∧ pinSlateOut d = .low ∧ pinHerdOut d = .hiZ ∧
  emitterDriven d = false
def outputsInBoot (d : Dev) : Prop :=
  pinPcieTx d = .active ∧ pinClkreq d = .low ∧ pinWake d = .hiZ ∧
  pinSlateOut d = (if flag SLATE_CFG.OUT_POL d = true then .high else .low) ∧ (d.xh.on = false → pinHerdOut d = .off) ∧
  emitterDriven d = false

/-- The module has entered RESET with the sources asserted: the main domain has its reset values, the field companion, the
store and the flash are as they were (17_flash_and_boot.md R412, R413). -/
def entersReset (src : List Nat) (s t : State) : Prop :=
  mstate t.dev = stRESET ∧ outputsInReset t.dev ∧ fld GLB_MSTATE.PREV t.dev = mstate s.dev ∧
  fld GLB_MSTATE.GEN t.dev = (fld GLB_MSTATE.GEN s.dev + 1) % 256 ∧ mainAtReset t.dev ∧ t.dev.pw.sources = src ∧
  t.dev.pw.causes = src ∧ t.dev.sl.running = false ∧ t.dev.rings = {} ∧ t.dev.en = {} ∧ t.dev.waits = [] ∧
  t.dev.evt.queue = [] ∧ t.dev.fl = s.dev.fl ∧ t.store = s.store ∧ t.pending = s.pending

/-! ### Column instructions (05_column_programs.md R127 to R139) -/

/-- Engine `e` executes the word of opcode `op` with field bits `f`: it has a row under way, the word is a legal encoding
inside its program, and no loop or SKIP skips it. -/
def wordRuns (op : Nat) (e : Fin 1024) (f : BitVec 26) (s : State) : Prop :=
  canRun e.val s.dev = true ∧ pastEnd (liveCx e.val s.dev) (engOf e.val s.dev) = false ∧
  encLegal (insnWord op f) = true ∧ skipped (engOf e.val s.dev) = false

/-- Nothing but engine `e` differs. -/
def onlyEngine (e : Nat) (s t : State) : Prop :=
  t = { s with dev := { s.dev with en := { s.dev.en with engs := t.dev.en.engs } } } ∧
  ∀ n, n ≠ e → engOf n t.dev = engOf n s.dev

/-- The program goes on from the word that `g` stands at (05_column_programs.md R138): loops whose last run ends with that
word are left, the innermost other loop that it ends begins its body again with one run fewer, and else the next word
follows. -/
def goesOn (g h : Eng) : Prop :=
  let stays := g.loops.dropWhile (fun f => decide (g.pc = f.last) && decide (f.left ≤ 1))
  (∀ f r, stays = f :: r → g.pc = f.last →
    h.pc = f.body ∧ h.skipTo = 0 ∧ h.loops = { f with left := f.left - 1, live := f.live - 1 } :: r) ∧
  ((∀ f r, stays = f :: r → g.pc ≠ f.last) → h.pc = g.pc + 1 ∧ h.skipTo = g.skipTo ∧ h.loops = stays)

/-- Every column instruction of engine `e` with field bits `f`: its word, and the command, whatever error its read would
meet. -/
def columnWords (e : Fin 1024) (f : BitVec 26) (x : DataEcc) (y : Ecc) (l : Fin 4) : List (BitVec 32 × Instr) :=
  ([(0x00, Instr.nop e f), (0x01, .vadd e f), (0x02, .vsub e f), (0x03, .vadds e f), (0x04, .vsubs e f), (0x05, .vand e f),
    (0x06, .vor e f), (0x07, .vxor e f), (0x08, .vshl e f), (0x09, .vshr e f), (0x0A, .vshru e f), (0x0B, .vmin e f),
    (0x0C, .vmax e f), (0x0D, .vclamp e f), (0x0E, .vsel e f), (0x0F, .vcmp e f), (0x10, .vaddi e f), (0x11, .vli e f),
    (0x12, .vsplat e f), (0x13, .vidx e f), (0x14, .vext e f), (0x15, .plog e f), (0x18, .vmul e f), (0x19, .vmac e f),
    (0x1A, .vmuls e f), (0x20, .sadd e f), (0x21, .sli e f), (0x22, .slui e f), (0x23, .salu e f), (0x24, .sget e f),
    (0x28, .lddw e f x), (0x29, .lddh e f x), (0x2A, .lddhu e f x), (0x2B, .stdw e f), (0x2C, .stdh e f), (0x2D, .lds e f x),
    (0x2E, .ldc e f y l), (0x2F, .stc e f), (0x30, .ldx e f x), (0x31, .stx e f), (0x32, .tlu e f x), (0x34, .npub e f),
    (0x35, .nleft e f), (0x36, .nright e f), (0x38, .cacc e f), (0x39, .ccnt e f), (0x3A, .hadd e f), (0x3B, .emit e f),
    (0x3C, .loop e f), (0x3D, .skip e f), (0x3F, .yield e f)] : List (Nat × Instr)).map (fun p => (insnWord p.1 f, p.2)) ++
  [(insnWord 0x3E (f &&& ~~~1#26), .hook e f), (insnWord 0x3E (f ||| 1#26), .ret e f)]

/-- Of the engine only the vector registers and the place in the program change. -/
def vectorFrame (g h : Eng) : Prop :=
  h = { g with v := h.v, pc := h.pc, skipTo := h.skipTo, loops := h.loops, touched := true, wait := 0 } ∧ goesOn g h

/-- The word `w` has written `val l` to each lane that its guard admits of vector register `vd`, and nothing else. -/
def vectorResult (w : BitVec 32) (vd : Nat) (e : Nat) (val : Nat → BitVec 32) (s t : State) : Prop :=
  let g := engOf e s.dev
  let h := engOf e t.dev
  onlyEngine e s t ∧ vectorFrame g h ∧
  (∀ l, l < 4 → vreg h vd l = if guarded w g l = true then val l else vreg g vd l) ∧
  ∀ r l, r ≠ vd → l < 4 → vreg h r l = vreg g r l

/-- The word has written `val` to scalar register `sd`, and nothing else. -/
def scalarResult (sd : Nat) (e : Nat) (val : BitVec 32) (s t : State) : Prop :=
  let g := engOf e s.dev
  let h := engOf e t.dev
  onlyEngine e s t ∧
  h = { g with sc := h.sc, pc := h.pc, skipTo := h.skipTo, loops := h.loops, touched := true, wait := 0 } ∧ goesOn g h ∧
  sreg h sd = val ∧ ∀ r, r ≠ sd → sreg h r = sreg g r

/-- The word `w` has written `val l` to each bit that its guard admits of predicate register `pd`, and nothing else. -/
def predicateResult (w : BitVec 32) (pd : Nat) (e : Nat) (val : Nat → Bool) (s t : State) : Prop :=
  let g := engOf e s.dev
  let h := engOf e t.dev
  onlyEngine e s t ∧
  h = { g with p := h.p, pc := h.pc, skipTo := h.skipTo, loops := h.loops, touched := true, wait := 0 } ∧ goesOn g h ∧
  (∀ l, l < 4 → bitN (preg h pd) l = if guarded w g l = true then val l else bitN (preg g pd) l) ∧
  ∀ r, r ≠ pd → preg h r = preg g r

/-- Of the engine only data memory and the place in the program change. -/
def dataFrame (g h : Eng) : Prop :=
  h = { g with data := h.data, own := h.own, pc := h.pc, skipTo := h.skipTo, loops := h.loops, touched := true, wait := 0 } ∧ goesOn g h

/-- Engine `e` alone changes, in the row effects that await YIELD and in its place in the program (R116, R137). -/
def rowEffect (e : Nat) (s t : State) : Prop :=
  let g := engOf e s.dev
  let h := engOf e t.dev
  onlyEngine e s t ∧ goesOn g h ∧
  h = { g with pubs := h.pubs, cacc := h.cacc, hadd := h.hadd, ccnt := h.ccnt, emC := h.emC, emR := h.emR
               emMarks := h.emMarks, pc := h.pc, skipTo := h.skipTo, loops := h.loops, touched := true, wait := 0 }

/-- Engine `e` alone changes, in its place in the program. -/
def controlEffect (e : Nat) (s t : State) : Prop :=
  let g := engOf e s.dev
  let h := engOf e t.dev
  onlyEngine e s t ∧
  h = { g with pc := h.pc, skipTo := h.skipTo, loops := h.loops, inExt := h.inExt, retPc := h.retPc
               touched := true, wait := 0 }

/-- The row of engine `e` has completed: the engines change in data memory alone, and engine `e` has yielded (R116). -/
def rowCompleted (e : Nat) (s t : State) : Prop :=
  t = { s with dev := { s.dev with en := { s.dev.en with engs := t.dev.en.engs } } } ∧
  (engOf e t.dev).yielded = true ∧ (engOf e t.dev).wait = 0 ∧
  ∀ n, engOf n t.dev = { engOf n s.dev with
    data := (engOf n t.dev).data, yielded := (engOf n t.dev).yielded, touched := (engOf n t.dev).touched
    wait := (engOf n t.dev).wait, inbox := (engOf n t.dev).inbox }

/-- Histogram bin `b` of an engine (R115). -/
def histBin (g : Eng) (b : Nat) : Nat := dataLE g (0x3C00 + 2 * b) 2

/-- Contributions `rads` and user count `cnt` have joined the cell record and the user byte of active row `r` (R114, R137);
a contribution has 16 bits. -/
def cellJoined (r : Nat) (rads : List Nat) (cnt : Nat) (g h : Eng) : Prop :=
  let a := cellRec r
  let u := 0x3F00 + r / 6 % 256
  dataLE h a 2 = rads.foldl (fun m x => max m x % 65536) (dataLE g a 2) ∧
  dataLE h (a + 2) 2 = rads.foldl min (dataLE g (a + 2) 2) ∧
  dataLE h (a + 4) 4 = (dataLE g (a + 4) 4 + rads.foldl (· + ·) 0) % 2 ^ 32 ∧
  dataLE h (a + 8) 1 = (dataLE g (a + 8) 1 + rads.length) % 256 ∧
  dataLE h (a + 9) 1 =
    (dataLE g (a + 9) 1 + (rads.filter (fun x => decide (dataLE g (a + 10) 2 ≤ x))).length) % 256 ∧
  dataLE h u 1 = min 255 (dataLE g u 1 + cnt)

/-- Engine `e` has completed its row, of active row `r`: its contributions and its user count have joined the record and the
user byte of the cell in the cell's holder, with a partial that waited there, or wait in a holder that has not completed the
row; its histogram has the values of HADD; and no other byte of any data memory differs (R95, R114 to R116, R137, R184). -/
def activeRowData (e r : Nat) (s t : State) : Prop :=
  let d := s.dev
  let g := engOf e d
  let n := holderOf (e / 2) r
  let own : List Nat := if cellsZero d then [] else (g.cacc.map (fun x => x.2 % 65536)).filter (· != 0)
  let cnt : Nat := g.ccnt.getD 0
  let waits : List Nat × Nat := g.inbox.getD ([], 0)
  let joins : List Nat × Nat :=
    if n = e then (own ++ waits.1, cnt + waits.2) else if (engOf n d).yielded then (own, cnt) else ([], 0)
  let bin (y : Int) : Int := max 0 (min 255 ((y - fld PIPE_HIST.LO d) / 2 ^ fld PIPE_HIST.SHIFT d))
  let adds (b : Nat) : Nat := if takeWork d then 0 else (g.hadd.filter (fun x => decide (bin x.2 = b))).length
  cellJoined r joins.1 joins.2 (engOf n d) (engOf n t.dev) ∧
  (n = e → (engOf e t.dev).inbox = none) ∧
  (n ≠ e → (engOf n d).yielded = false → (engOf n t.dev).inbox = some (own, cnt)) ∧
  (∀ b, b < 256 → histBin (engOf e t.dev) b = max (histBin g b) (min 12288 (histBin g b + adds b))) ∧
  ∀ m a, (m = n → a < cellRec r ∨ cellRec r + 10 ≤ a) → (m = n → a ≠ 0x3F00 + r / 6 % 256) →
    (m = e → a < 0x3C00 ∨ 0x3E00 ≤ a) → mget dataFill (engOf m t.dev).data a = mget dataFill (engOf m d).data a

/-- Engine `e` is FAULTED with cause `k`, and its ledger is empty (04_column_engines.md R104, R105, R164). -/
def faultedWith (e k : Nat) (t : State) : Prop :=
  engState e t.dev = enFAULT ∧ fld (ENG_STATE.CAUSE e) t.dev = k ∧ (engOf e t.dev).ledger = []

/-- A trap of kind `k` has sent engine `e` to FAULTED with cause TRAP, and the dailies record the engine, the word address
and the kind where they have room (05_column_programs.md R134). -/
def trapped (e k : Nat) (s t : State) : Prop :=
  faultedWith e 3 t ∧ t.store = s.store ∧ t.pending = s.pending ∧
  (mainRuns s.dev = true → s.dev.evt.queue.length < 512 →
    ∃ x ∈ t.dev.evt.queue, x.kind = 6 ∧ x.source = 64 ∧ x.payload = [e, (engOf e s.dev).pc, k, 0])

/-! ### The standard program (04_column_engines.md R107 to R117) -/

/-- A bit field of a card, from bit `lo` up. -/
def cardField (cd : BitVec 64) (lo n : Nat) : BitVec n := cd.extractLsb' lo n

/-- tsub of column `c` and row `r`, from the thermal-map snapshot (R108). -/
def ruleTsub (c r : Nat) (d : Dev) : Int :=
  let x : Int := c - 128
  let y : Int := r - 128
  let i := sat (x.tdiv 256) 0 14
  let wc := sat (x - 256 * i) 0 256
  let j := sat (y.tdiv 256) 0 10
  let wr := sat (y - 256 * j) 0 256
  let t (a b : Int) : Int := d.en.per.snap.getD (a + 16 * b).toNat 0
  ((256 - wc) * (256 - wr) * t i j + wc * (256 - wr) * t (i + 1) j +
    (256 - wc) * wr * t i (j + 1) + wc * wr * t (i + 1) (j + 1) + 32768) / 65536

/-- GRATIO applied to a value in low gain, in high gain the value (R109). -/
def ruleGain (c : Nat) (v : Int) (d : Dev) : Int :=
  if d.en.per.low = true then (v * fld (FPA_GCAL.GRATIO (c / 32)) d + 8192) / 2 ^ 14 else v

/-- x of R109 for a sample word. -/
def ruleX (word : Nat) (d : Dev) : Int :=
  131072 + ((((word % 16384 : Nat) : Int) - 8192) * d.en.per.kinv + 512) / 2 ^ 10

/-- off of R109 for column `c`, row `r` and the pixel's card, with t and whether t was limited. -/
def ruleOff (c r : Nat) (cd : BitVec 64) (d : Dev) : Int :=
  let per := d.en.per
  let an := card (engOf (c / 4) d) (slotAnchor (c % 4))
  let temp (k : Nat) : Int := per.anchors.getD k 0
  let t := sat (ruleTsub c r d) (temp 0 - 960) (temp 3 + 960)
  let k := if t ≤ temp 1 then 0 else if t ≤ temp 2 then 1 else 2
  let f := ((t - temp k) * per.rspan.getD k 0 + 2048) / 2 ^ 12
  let a (k : Nat) : Int := 16 * ((cardField an (16 * k) 16).toNat + 4 * (cardField cd (42 - 10 * k) 10).toInt)
  131072 + ruleGain c (a k + ((a (k + 1) - a k) * f + 2048) / 2 ^ 12 - 131072) d

/-- w2 of R109 for column `c` of active row `r`, read in slot `s` with a sample word; the drift is that of R110. -/
def ruleW2 (s r c word : Nat) (d : Dev) : Int :=
  let per := d.en.per
  let g := engOf (c / 4) d
  let cd := card g (slotActive r (c % 4))
  let top := g.dtop.getD (c % 4) 0
  let drift := if per.driftEn = true then top + ((top - g.dprev.getD (c % 4) 0) * ((s : Int) - 4)).tdiv (nslots d) else 0
  let v := ruleX word d - drift - ruleOff c r cd d
  let ge := sat (((cardField cd 52 12).toNat * per.rg.getD (16 * (r / 256) + c / 256) 0 + 512 : Nat) / 2 ^ 10 : Int) 0 65535
  (v * ge + 8192) / 2 ^ 14 - ruleGain c (8 * (cardField cd 4 8).toInt) d

/-- The pixel is replaced (R111). -/
def ruleReplaced (r c word : Nat) (d : Dev) : Prop :=
  let g := engOf (c / 4) d
  let cd := card g (slotActive r (c % 4))
  cd.getLsbD 3 = true ∨ cd.getLsbD 2 = true ∨ cd.getLsbD 1 = true ∨ word.testBit 15 = true ∨
  slotActive r (c % 4) ∈ g.badCards ∨ slotAnchor (c % 4) ∈ g.badCards

/-- Column `c` of the row can serve a neighbour (R111). -/
def ruleUsable (r c word : Nat) (d : Dev) : Prop :=
  c < 4096 ∧ engRuns (c / 4) d = true ∧ ¬ ruleReplaced r c word d

/-- The radiometric value of a corrected value by the table of column `c`'s engine (R113). -/
def ruleRad (c y : Nat) (d : Dev) : Nat :=
  let e (i : Nat) : Int := dataLE (engOf (c / 4) d) (2 * i) 2
  let i := y / 16
  let e1 := if i < 4095 then e (i + 1) else 2 * e 4095 - e 4094
  (sat (e i + ((e1 - e i) * (y - 16 * i : Nat) + 8) / 16) 1 65535).toNat

/-- The row slot that ends is the deadline of the row read in slot `k`: no extension, no late row of the standard program, and
no memory error that the slot brings (R104, R116). -/
def rowEnds (row : Row) (k : Nat) (x : SlotIn) (d : Dev) : Prop :=
  d.sl.running = true ∧ isLive d = true ∧ nslots d = activeRows d + 48 ∧ d.sl.slot = k + 2 ∧ rowOfSlot k d = row ∧
  row ≠ .none ∧ d.en.words.length = 4096 ∧ d.en.ext = [] ∧ x.ecc = [] ∧ x.late = []

/-- The same, of a row that the engines run by the standard program alone: none is commanded word by word. -/
def rowDue (row : Row) (k : Nat) (x : SlotIn) (d : Dev) : Prop :=
  rowEnds row k x d ∧ ∀ e, e < 1024 → (engOf e d).touched = false

/-- Blanking slot `k` starts as the row slot ends, in LIVE, with nothing of the rows left to do. -/
def blankStarts (k : Nat) (x : SlotIn) (d : Dev) : Prop :=
  d.sl.running = true ∧ isLive d = true ∧ nslots d = activeRows d + 48 ∧ d.sl.slot + 1 = blankSlot k d ∧
  d.en.pack.band.length ≠ 64 ∧ x.ecc = []

/-- A staged entry applied to a card (06_calibration_cards.md R158, R163): 1 SET, 2 FIELDS, 3 TRIM_ADD. -/
def stagedCard (x : LedgerEnt) (cd : BitVec 64) : BitVec 64 :=
  let part (k lo n : Nat) : BitVec 64 := if x.fmask.testBit k = true then BitVec.ofNat 64 ((2 ^ n - 1) * 2 ^ lo) else 0
  let mask := part 3 52 12 ||| part 2 12 40 ||| part 1 4 8 ||| part 0 0 4
  if x.op = 1 then x.value
  else if x.op = 2 then (cd &&& ~~~mask) ||| (x.value &&& mask)
  else
    let trim := sat ((cardField cd 4 8).toInt + (cardField x.value 0 8).toInt) (-128) 127
    (cd &&& ~~~0xFF0#64) ||| ((BitVec.ofInt 8 trim).zeroExtend 64 <<< 4)

/-- A cell after its evaluation, which has seen the record `r` (08_cell_watch.md R208); `slate` is NSLOTS x TICKS. -/
def cellAfter (z : Zone) (slate : Nat) (r : CellRec) (c : Cell) : Cell :=
  let mean : Int := (r.sum / r.count : Nat)
  let window := 8 * (z.rwin + 1)
  let c : Cell :=
    if c.rv = false then { c with ref := mean, age := 0, rise := 0, rv := true }
    else if c.age + 1 < window then { c with age := c.age + 1 }
    else { c with rise := sat (((mean - c.ref) * 400000000).tdiv (window * slate : Nat)) (-32768) 32767, ref := mean, age := 0 }
  let seen : Nat := if r.above < z.area then 0 else if r.max < z.alarm then 1 else 2
  let rises : Nat := if 0 < z.riseLim ∧ (z.riseLim : Int) ≤ c.rise then (if z.riseAlarm = true then 2 else 1) else 0
  let lvl : Nat := if z.enable = true then max seen rises else 0
  if lvl = c.st then { c with p := 0 }
  else
    let up : Bool := decide (c.st < lvl)
    let p : Nat := if c.p = 0 ∨ up ≠ c.up then 1 else min (c.p + 1) 255
    let c := { c with up := up }
    if up = false ∧ z.clear = 0 then { c with p := 0 }
    else if (if up = true then z.persist else z.clear) ≤ p then { c with st := lvl, p := 0 }
    else { c with p := p }

/-- One byte of an engine's data memory. -/
def dataByte (g : Eng) (a : Nat) : BitVec 8 := mget dataFill g.data a

/-! ### The crossing (12_field_side.md R293 to R309) -/

/-- A sending side after it has queued one message, and gone on sending (R296). -/
def queued (x : XTx) (typ p : Nat) : XTx := XTx.pump { x with queue := x.queue ++ [⟨typ, p, none⟩] }

/-- Only the host end of the crossing changes, and it queues the message. -/
def hostQueues (typ p : Nat) (s t : State) : Prop :=
  t = { s with dev := { s.dev with xh := t.dev.xh } } ∧ t.dev.xh.tx = queued s.dev.xh.tx typ p

/-- Only the field companion changes. -/
def onlyField (s t : State) : Prop :=
  t = { s with dev := { s.dev with fl := t.dev.fl, out := t.dev.out, free := t.dev.free } }

/-- The field companion's sending side after it has queued one message: an HBEAT_F that starts takes its FT now (R295). -/
def fieldQueued (d : Dev) (typ p : Nat) : XTx :=
  let x := queued d.fl.tx typ p
  match d.fl.tx.cur, x.cur with
  | none, some (i, n) =>
    if i.typ = 0x10 then { x with cur := some (⟨i.typ, i.p / 2 ^ 22 * 2 ^ 22 + fieldFT d, i.ack⟩, n) } else x
  | _, _ => x

/-- Only the field companion changes, and it queues the message. -/
def fieldQueues (typ p : Nat) (s t : State) : Prop := onlyField s t ∧ t.dev.fl.tx = fieldQueued s.dev typ p

/-- The field companion has answered the tagged message of payload `p` with a status and a GEN, which it remembers as the
last (R304, R305), and its message is off the wire. -/
def answered (p status gen : Nat) (s t : State) : Prop :=
  onlyField s t ∧ t.dev.fl.wire = s.dev.fl.wire.drop 1 ∧ t.dev.fl.tags.head? = some (pTag p, status, gen)

/-- A tagged message of the type stands first on the field companion's wire, and its TAG is none of the last 16. -/
def arrivesNew (typ : Nat) (m : XMsg) (d : Dev) : Prop :=
  fieldArrives typ d = some m ∧ (d.fl.tags.find? (fun x => x.1 == pTag m.p)) = none

/-- A message of the type arrives next at the host end, which is powered, on a crossing that is UP, of a module that has a
field side. -/
def arrivesUp (typ : Nat) (m : XMsg) (d : Dev) : Prop :=
  hostArrives typ d = some m ∧ xState d = 2 ∧ isS d = false

/-- The host end awaits the answer to a tagged message, sent for the first time, whose TAG was the next one; `p` is the
payload below the TAG. -/
def awaits (typ p : Nat) (act : XAct) (s t : State) : Prop :=
  ⟨s.dev.xh.tag, typ, pf 46 39 s.dev.xh.tag + p, 1, act⟩ ∈ t.dev.xh.pend

/-- A write of the register at `a` is as `awaits` says, or, while an earlier write of it is unanswered, stands behind that
one unsent (R308). -/
def awaitsInOrder (a typ p : Nat) (act : XAct) (s t : State) : Prop :=
  let waits := s.dev.xh.pend.any (fun e => writesReg a e.act)
  ⟨s.dev.xh.tag, typ, pf 46 39 s.dev.xh.tag + p, if waits = true then 0 else 1, act⟩ ∈ t.dev.xh.pend ∧
  (waits = true → t.dev.xh.tx = s.dev.xh.tx)

/-- A message of the type is queued at the host end, or being sent. -/
def underWay (typ : Nat) (t : State) : Prop :=
  (∃ i ∈ t.dev.xh.tx.queue, i.typ = typ) ∨ ∃ i n, t.dev.xh.tx.cur = some (i, n) ∧ i.typ = typ

end Sys2Proof.Machine
end

