-- ==== Sys2Proof/Certificates/Slice0/Obligations.lean ====
section
/-! DEFINITION. The statements for the provers. Each names the rules of spec/ that it rests on. -/

open Sys2Proof Sys2Proof.Machine

/-- R130 to R132: the vector, predicate and scalar instructions write one register, and nothing else. Where VCLAMP's lower
limit lies above its upper one the value is free (the model's choice, log entry 13). -/
def Obligations.VectorAndScalarInstructionsWriteOneRegister : Prop :=
  ∀ (s : State) (e : Fin 1024) (f : BitVec 26),
    let g := engOf e.val s.dev
    -- two operands
    (let gives (op : Nat) (c : Instr) (val : BitVec 32 → BitVec 32 → BitVec 32) : Prop :=
      let w := insnWord op f
      wordRuns op e f s → makes c s fun t =>
        vectorResult w (fb w 21 18) e.val (fun l => val (vreg g (fb w 17 14) l) (vreg g (fb w 13 10) l)) s t
    let clamp (i : Int) : BitVec 32 := BitVec.ofInt 32 (max (-2147483648) (min 2147483647 i))
    gives 0x01 (.vadd e f) (fun a b => a + b) ∧ gives 0x02 (.vsub e f) (fun a b => a - b) ∧
    gives 0x03 (.vadds e f) (fun a b => clamp (a.toInt + b.toInt)) ∧
    gives 0x04 (.vsubs e f) (fun a b => clamp (a.toInt - b.toInt)) ∧
    gives 0x05 (.vand e f) (fun a b => a &&& b) ∧ gives 0x06 (.vor e f) (fun a b => a ||| b) ∧
    gives 0x07 (.vxor e f) (fun a b => a ^^^ b) ∧
    gives 0x0B (.vmin e f) (fun a b => BitVec.ofInt 32 (min a.toInt b.toInt)) ∧
    gives 0x0C (.vmax e f) (fun a b => BitVec.ofInt 32 (max a.toInt b.toInt))) ∧
    -- shifts, selection, limits, and lanes from a constant or a scalar
    (let gives (op : Nat) (c : Instr) (val : BitVec 32 → Nat → BitVec 32) : Prop :=
      let w := insnWord op f
      wordRuns op e f s → makes c s fun t =>
        vectorResult w (fb w 21 18) e.val (val w) s t
    let va (w : BitVec 32) (l : Nat) : BitVec 32 := vreg g (fb w 17 14) l
    let vb (w : BitVec 32) (l : Nat) : BitVec 32 := vreg g (fb w 13 10) l
    let count (w : BitVec 32) (l : Nat) : Nat := if fb w 5 5 = 1 then (vb w l).toNat % 32 else fb w 4 0
    let round (w : BitVec 32) (n : Nat) : Int := if fb w 6 6 = 1 ∧ 0 < n then 2 ^ (n - 1) else 0
    let imm (w : BitVec 32) : BitVec 32 := (BitVec.ofNat 14 (fb w 13 0)).signExtend 32
    gives 0x08 (.vshl e f) (fun w l => va w l <<< count w l) ∧
    gives 0x09 (.vshr e f) (fun w l => BitVec.ofInt 32 (((va w l).toInt + round w (count w l)) / 2 ^ count w l)) ∧
    gives 0x0A (.vshru e f) (fun w l => va w l >>> count w l) ∧
    gives 0x0D (.vclamp e f) (fun w l =>
      let lo := sreg g (fb w 2 0)
      let hi := sreg g (fb w 5 3)
      if hi.toInt < lo.toInt then Config.emptyClamp (va w l) lo hi
      else if (va w l).toInt < lo.toInt then lo else if hi.toInt < (va w l).toInt then hi else va w l) ∧
    gives 0x0E (.vsel e f) (fun w l => if bitN (preg g (fb w 1 0)) l = true then va w l else vb w l) ∧
    gives 0x10 (.vaddi e f) (fun w l => va w l + imm w) ∧ gives 0x11 (.vli e f) (fun w _ => imm w) ∧
    gives 0x12 (.vsplat e f) (fun w _ => sreg g (fb w 2 0)) ∧
    gives 0x13 (.vidx e f) (fun w l => BitVec.ofNat 32 (if fb w 0 0 = 1 then l else 4 * e.val + l))) ∧
    -- multiplications
    (let gives (op : Nat) (c : Instr) (val : BitVec 32 → Nat → Int → BitVec 32) : Prop :=
      let w := insnWord op f
      let n := fb w 5 0
      let prod (l : Nat) : Int := (vreg g (fb w 17 14) l).toInt * (vreg g (fb w 13 10) l).toInt
      let shifted (l : Nat) : Int := (prod l + (if fb w 6 6 = 1 ∧ 0 < n then 2 ^ (n - 1) else 0)) / 2 ^ n
      wordRuns op e f s → makes c s fun t =>
        vectorResult w (fb w 21 18) e.val (fun l => val w l (shifted l)) s t
    gives 0x18 (.vmul e f) (fun _ _ x => BitVec.ofInt 32 x) ∧
    gives 0x19 (.vmac e f) (fun w l x => vreg g (fb w 21 18) l + BitVec.ofInt 32 x) ∧
    gives 0x1A (.vmuls e f) (fun _ _ x => BitVec.ofInt 32 (max (-2147483648) (min 2147483647 x)))) ∧
    -- comparisons, predicate logic and scalars
    (let a (w : BitVec 32) (l : Nat) : BitVec 32 := vreg g (fb w 17 14) l
    let b (w : BitVec 32) (l : Nat) : BitVec 32 := vreg g (fb w 13 10) l
    let pa (w : BitVec 32) (l : Nat) : Bool := bitN (preg g (fb w 3 2)) l
    let pb (w : BitVec 32) (l : Nat) : Bool := bitN (preg g (fb w 5 4)) l
    let setsP (op : Nat) (c : Instr) (pd : BitVec 32 → Nat) (val : BitVec 32 → Nat → Bool) : Prop :=
      let w := insnWord op f
      wordRuns op e f s → makes c s fun t =>
        predicateResult w (pd w) e.val (val w) s t
    let setsS (op : Nat) (c : Instr) (sd : BitVec 32 → Nat) (val : BitVec 32 → BitVec 32) : Prop :=
      let w := insnWord op f
      wordRuns op e f s → makes c s fun t =>
        scalarResult (sd w) e.val (val w) s t
    let sd (w : BitVec 32) : Nat := fb w 21 19
    let sa (w : BitVec 32) : BitVec 32 := sreg g (fb w 18 16)
    let sb (w : BitVec 32) : BitVec 32 := sreg g (fb w 5 3)
    setsP 0x0F (.vcmp e f) (fun w => fb w 4 3) (fun w l =>
      match fb w 2 0 with
      | 0 => decide (a w l = b w l) | 1 => decide (a w l ≠ b w l)
      | 2 => decide ((a w l).toInt < (b w l).toInt) | 3 => decide ((a w l).toInt ≤ (b w l).toInt)
      | 4 => decide ((a w l).toInt > (b w l).toInt) | 5 => decide ((a w l).toInt ≥ (b w l).toInt)
      | 6 => decide ((a w l).toNat < (b w l).toNat) | _ => decide ((a w l).toNat ≥ (b w l).toNat)) ∧
    setsP 0x15 (.plog e f) (fun w => fb w 1 0) (fun w l =>
      match fb w 8 6 with
      | 0 => pa w l && pb w l | 1 => pa w l || pb w l | 2 => xor (pa w l) (pb w l) | 3 => pa w l && !pb w l
      | 4 => !pa w l | 5 => true | _ => false) ∧
    setsS 0x14 (.vext e f) (fun w => fb w 2 0) (fun w => vreg g (fb w 17 14) (fb w 4 3)) ∧
    setsS 0x20 (.sadd e f) sd (fun w => sa w + (BitVec.ofNat 16 (fb w 15 0)).signExtend 32) ∧
    setsS 0x21 (.sli e f) sd (fun w => (BitVec.ofNat 16 (fb w 15 0)).zeroExtend 32) ∧
    setsS 0x22 (.slui e f) sd (fun w => BitVec.ofNat 16 (fb w 15 0) ++ (sreg g (sd w)).extractLsb' 0 16) ∧
    setsS 0x23 (.salu e f) sd (fun w =>
      match fb w 2 0 with
      | 0 => sa w + sb w | 1 => sa w - sb w | 2 => sa w &&& sb w | 3 => sa w ||| sb w
      | 4 => sa w <<< ((sb w).toNat % 32) | 5 => (sa w).sshiftRight ((sb w).toNat % 32)
      | 6 => BitVec.ofInt 32 (min (sa w).toInt (sb w).toInt) | _ => BitVec.ofInt 32 (max (sa w).toInt (sb w).toInt)) ∧
    setsS 0x24 (.sget e f) sd (fun w => BitVec.ofNat 32 ((liveCx e.val s.dev).special.getD (fb w 15 0) 0)))

/-- R108 to R111, R113, R117, R118: what the standard program makes of an active row, which its deadline brings to the band
packer. A pixel replaced for its column's anchor slot serves no neighbour. -/
def Obligations.StandardProgramCorrectsARow : Prop :=
  ∀ (s : State) (x : SlotIn) (k r : Nat),
    let d := s.dev
    let word (c : Nat) : Nat := d.en.words.getD c 0
    let w2 (c : Nat) : Int := ruleW2 k r c (word c) d
    let left (c : Nat) : Prop := 0 < c ∧ ruleUsable r (c - 1) (word (c - 1)) d
    let right (c : Nat) : Prop := ruleUsable r (c + 1) (word (c + 1)) d
    let tableInForce : Prop := d.en.radTag ≠ 0 ∧ (d.en.radTag = 2 ↔ d.en.per.low = true)
    let code (c : Nat) : Nat := word c % 16384
    let corrected (v : Int) : Nat := (sat ((v + 16 * d.en.per.level + 8) / 16) 0 65535).toNat
    rowDue (.active r) k x d → outMode d ≠ 2 → d.en.pack.band.length < 63 →
      makes (.rowSlotEnd x) s fun t => ∃ o, t.dev.en.pack.band = d.en.pack.band ++ [o] ∧ o.row = r ∧ o.raw = d.en.words ∧
        ∀ c, c < 4096 →
          let gives (y rad : Nat) : Prop := o.corr.getD c 0 = y ∧ o.rad.getD c 0 = rad
          let from_ (v : Int) : Prop := gives (corrected v) (if tableInForce then ruleRad c (corrected v) d else 0)
          (engRuns (c / 4) d = false → gives (code c) 0) ∧
          (engRuns (c / 4) d = true → ¬ ruleReplaced r c (word c) d →
            ((word c).testBit 14 = true → code c = 16383 → gives (corrected (w2 c)) (if tableInForce then 65535 else 0)) ∧
            ((word c).testBit 14 = false ∨ code c ≠ 16383 → from_ (w2 c))) ∧
          (engRuns (c / 4) d = true → ruleReplaced r c (word c) d →
            (left c → right c → from_ ((w2 (c - 1) + w2 (c + 1)).tdiv 2)) ∧
            (left c → ¬ right c → from_ (w2 (c - 1))) ∧ (¬ left c → right c → from_ (w2 (c + 1))) ∧
            (¬ left c → ¬ right c → gives d.en.per.level 0))

/-- R98, R110, R112: the scene-trim counters and requests of an active row, and the drift sums of a blind one. Where not every
request of an engine's row can be made, the lanes' order is the model's choice (log entry 62). -/
def Obligations.SceneTrimAndDriftFollowTheRows : Prop :=
  ∀ (s : State) (x : SlotIn) (k : Nat),
    let d := s.dev
    let per := d.en.per
    let word (c : Nat) : Nat := d.en.words.getD c 0
    let lane (e l : Nat) : Nat := 4 * e + l
    (∀ r, rowDue (.active r) k x d → takeWork d = false → makes (.rowSlotEnd x) s fun t =>
      ∀ e l : Nat, e < 1024 → l < 4 → engRuns e d = true →
        let c := lane e l
        let g := engOf e d
        let h := engOf e t.dev
        let n := 4 * r + l
        let cd := card g n
        let w2 (c : Nat) : Int := ruleW2 k r c (word c) d
        let counts : Prop := per.stEn = true ∧ ¬ ruleReplaced r c (word c) d ∧ cd.getLsbD 0 = false ∧ 0 < c ∧
          ruleUsable r (c - 1) (word (c - 1)) d ∧ ruleUsable r (c + 1) (word (c + 1)) d ∧
          per.gates.testBit (16 * (r / 256) + c / 256) = true
        let q := w2 c - (w2 (c - 1) + w2 (c + 1)).tdiv 2
        let dead : Int := fld PIPE_ST.DEAD d
        let step : Int := if dead < q then 1 else if q < -dead then -1 else 0
        let trim := (cardField cd 4 8).toInt + step
        let room : Prop := g.reqs + 4 ≤ fld PIPE_ST.MAX d ∧ g.ledger.length + 4 ≤ 1024 ∧
          sceneCount g + 4 ≤ fld CAL_LEDGER_CFG.SCENE_MAX d
        (¬ counts ∨ step = 0 → stCounter h n = stCounter g n) ∧
        (counts → step ≠ 0 → step ≠ stCounter g n → stCounter h n = stCounter g n + step) ∧
        (counts → step ≠ 0 → step = stCounter g n → room → stCounter h n = 0 ∧
          (-128 ≤ trim → trim ≤ 127 → ∃ y ∈ h.ledger, y.slot = n ∧ y.op = 3 ∧ y.scene = true ∧
            (cardField y.value 0 8).toInt = step)) ∧
        (counts → step ≠ 0 → step = stCounter g n → fld PIPE_ST.MAX d ≤ g.reqs → stCounter h n = step)) ∧
    (∀ (i : Nat) (top : Bool), i < 8 → rowDue (if top = true then .top i else .bottom i) k x d → makes (.rowSlotEnd x) s fun t =>
      ∀ e l : Nat, e < 1024 → l < 4 → engRuns e d = true →
        let g := engOf e d
        let h := engOf e t.dev
        let slot := slotBlind (if top = true then i else 8 + i) l
        let usable : Prop := (card g slot).getLsbD 3 = false ∧ (word (lane e l)).testBit 15 = false ∧
          slot ∉ g.badCards ∧ slotAnchor l ∉ g.badCards
        let b := ruleX (word (lane e l)) d - ruleOff (lane e l) (if top = true then 0 else 3071) (card g slot) d
        let sum := (if top = true then g.tsum else g.bsum).getD l 0 + (if usable then b else 0)
        let count := (if top = true then g.tcnt else g.bcnt).getD l 0 + (if usable then 1 else 0)
        (i < 7 → (if top = true then h.tsum else h.bsum).getD l 0 = sum ∧
          (if top = true then h.tcnt else h.bcnt).getD l 0 = count) ∧
        (top = true → i = 7 → h.dtop.getD l 0 = (if count = 0 then g.dtop.getD l 0 else sum.tdiv count) ∧
          h.hold.getD l false = decide (count = 0) ∧
          h.dprev.getD l 0 = (if g.fresh = true then h.dtop else g.dprev).getD l 0) ∧
        (top = false → i = 7 → count ≠ 0 → h.dbot.getD l 0 = sum.tdiv count))

/-- R59 to R61, R63, R145, R155, R165, R167: what the blanking slots do to the converter groups, the engines' programs and the
cards. A converter whose result the environment does not name has returned one within its window (the model's choice, log
entry 25); DISABLE of a DISABLED group changes nothing (log entry 60); the work is done as the slot starts (log entry 16). -/
def Obligations.BlankingSlotsDoTheirWork : Prop :=
  ∀ (s : State) (x : SlotIn),
    let d := s.dev
    (blankStarts 8 x d → makes (.rowSlotEnd x) s fun t =>
      ∀ n, n < 128 →
        let g := grp n d
        let st := fld (grpState n) d
        let outside (hi : Bool) (exp : Nat) : Prop := ∃ y ∈ x.refs, y.col / 32 = n ∧ y.hi = hi ∧
          (y.latched = false ∨ fld FPA_PLAUS.REF_WIN d < absDiff y.code exp)
        let diff : Int := (g.sumA : Int) - g.sumB - 256 * fldS (FPA_GCAL.AB_DELTA n) d
        let fails : Prop := outside false (fld (FPA_GREF.LO_EXP n) d) ∨ outside true (fld (FPA_GREF.HI_EXP n) d) ∨
          256 * fld FPA_PLAUS.AB_WIN d < diff.natAbs ∨ 64 ≤ g.inc
        -- the state and the failure count after the test, and after the host's action
        let tested (p : Nat × Nat) : Prop :=
          (2 ≤ st → p = (st, g.fails)) ∧ (st < 2 → ¬ fails → p = (0, 0)) ∧
          (st < 2 → fails → p = (if fld FPA_PLAUS.COUNT d ≤ g.fails + 1 then 2 else 1, g.fails + 1))
        let acted (p : Nat × Nat) : Nat × Nat :=
          if g.act = 1 then (if p.1 = 3 then p else (if p.1 = 2 then 1 else p.1, 0))
          else if g.act = 2 then (if p.1 = 3 then p else (3, 0))
          else if g.act = 3 then (if p.1 = 3 then (1, 0) else p)
          else p
        ∀ p, tested p → (fld (grpState n) t.dev, (grp n t.dev).fails) = acted p ∧ (grp n t.dev).act = 0) ∧
    (blankStarts 16 x d → flag ENGP_STATUS.PENDING d = true → inTake d = false → takeComes d = false →
      d.en.copyKind = 2 ∨ (d.en.copyKind = 3 ∧ d.en.copyW = []) → makes (.rowSlotEnd x) s fun t =>
        let load : Bool := d.en.copyKind == 2
        let words := d.en.copyW.take (d.en.copyH.toNat % 1024)
        flag ENGP_STATUS.BUSY t.dev = false ∧ flag ENGP_STATUS.PENDING t.dev = false ∧ flag ENGP_STATUS.EXT t.dev = load ∧
        fld ENGP_STATUS.GEN t.dev = (fld ENGP_STATUS.GEN d + 1) % (fldMax ENGP_STATUS.GEN + 1) ∧
        fld ENGP_INFORCE.EXT_BUDGET t.dev = (if load then d.en.copyH.toNat / 2 ^ 16 % 512 else 0) ∧ t.dev.en.ext = words ∧
        ∀ e, e < 1024 →
          let g := engOf e d
          let h := engOf e t.dev
          (engState e d = enFAULT → h = g) ∧
          (engState e d ≠ enFAULT → h.cards = g.cards ∧ h.ledger = g.ledger ∧
            (∀ n, n < 768 → progWord h (1280 + n) = wordAt words n) ∧ (∀ n, n < 1280 → progWord h n = progWord g n) ∧
            ∀ a, dataByte h a = if 0x3F00 ≤ a ∧ a < 0x4000 then 0#8 else dataByte g a)) ∧
    (blankStarts 24 x d → makes (.rowSlotEnd x) s fun t =>
      t.dev.cal.frozen = d.cal.frozen ∧ t.dev.cal.applied = (d.cal.applied || d.cal.hostFrozen) ∧
      (d.cal.sceneFrozen = true → raised 140 t) ∧
      (d.cal.rgFrozen = true → flag CAL_STATUS.RG_DIRTY t.dev = false ∧ ∃ l, t.dev.cal.rgNext = some l ∧
        ∀ n, n < 192 → l.getD n 0 = fld (if n % 2 = 0 then CAL_RGAIN.ENTRY_LO (n / 2) else CAL_RGAIN.ENTRY_HI (n / 2)) d) ∧
      ∀ e, e < 1024 →
        let g := engOf e d
        let h := engOf e t.dev
        h.ledger = g.ledger.filter (fun y => !y.frozen) ∧ h.prog = g.prog ∧ h.data = g.data ∧
        ∀ n, card h n = (g.ledger.filter (fun y => y.frozen && y.slot == n)).foldl (fun c y => stagedCard y c) (card g n))

/-- R98, R132 to R134, R184: the loads. The model's choices: a lane whose guard is 0 makes no access (log entry 64), LDS adds its
IMM16 without a sign (log entry 55), and what the areas hold whose content is not given, the engine state area and the work
area of a take, is free (log entry 14). -/
def Obligations.LoadsBringMemoryToLanes : Prop :=
  ∀ (s : State) (e : Fin 1024) (f : BitVec 26) (l0 : Fin 4),
    let g := engOf e.val s.dev
    -- what `n` bytes from `a` read as; in the areas whose content is not given each byte is free, but one of the state area
    -- that the program has stored
    let content (a n : Nat) : Nat :=
      if (takeWork s.dev = false ∨ 0x3C00 ≤ a) ∧ (a < 0x3E00 ∨ 0x3F00 ≤ a) then dataLE g a n
      else (List.range n).foldl (fun x i => x + 256 ^ i *
        (if 0x3E00 ≤ a ∧ a + i ∈ g.own then (dataByte g (a + i)).toNat
         else Config.undefByte e.val (a + i) (s.dev.sl.no % 2 ^ 32) % 256)) 0
    -- an uncorrectable error stands in a word that the load reads (R99)
    let standing (op : Nat) : Bool := op != 0x2E && (loadWords op e f s.dev).any g.badData.contains
    let clean (op : Nat) (c : Instr) (ok : BitVec 32 → Nat → Prop) (val : BitVec 32 → Nat → BitVec 32) : Prop :=
      let w := insnWord op f
      wordRuns op e f s → standing op = false → (∀ l, l < 4 → guarded w g l = true → ok w l) →
        makes c s fun t =>
        vectorResult w (fb w 21 18) e.val (val w) s t
    let pair (op : Nat) (c : Instr) (ok : BitVec 32 → Nat → Prop) (lo hi : BitVec 32 → Nat → BitVec 32) : Prop :=
      let w := insnWord op f
      let vd := fb w 21 18
      wordRuns op e f s → standing op = false → (∀ l, l < 4 → guarded w g l = true → ok w l) →
        makes c s fun t =>
        onlyEngine e.val s t ∧ vectorFrame g (engOf e.val t.dev) ∧
          (∀ l, l < 4 →
            vreg (engOf e.val t.dev) vd l = (if guarded w g l = true then lo w l else vreg g vd l) ∧
            vreg (engOf e.val t.dev) (vd + 1) l = (if guarded w g l = true then hi w l else vreg g (vd + 1) l)) ∧
          ∀ r l, r ≠ vd → r ≠ vd + 1 → l < 4 → vreg (engOf e.val t.dev) r l = vreg g r l
    let at_ (n : Nat) (w : BitVec 32) (l : Nat) : Nat := mAddr w g (n * l)
    let tab (w : BitVec 32) (i : Nat) : Nat := ((sreg g (fb w 2 0)).toNat + 2 * i) % 2 ^ 32
    let idx (w : BitVec 32) (l : Nat) : Nat := (max 0 (min 4095 (vreg g (fb w 17 14) l).toInt)).toNat
    clean 0x28 (.lddw e f .clean) (fun w l => dataOk (at_ 4 w l) 4 = true)
      (fun w l => BitVec.ofNat 32 (content (at_ 4 w l) 4)) ∧
    clean 0x29 (.lddh e f .clean) (fun w l => dataOk (at_ 2 w l) 2 = true)
      (fun w l => (BitVec.ofNat 16 (content (at_ 2 w l) 2)).signExtend 32) ∧
    clean 0x2A (.lddhu e f .clean) (fun w l => dataOk (at_ 2 w l) 2 = true)
      (fun w l => BitVec.ofNat 32 (content (at_ 2 w l) 2)) ∧
    clean 0x30 (.ldx e f .clean) (fun w l => dataOk (xAddr w g l) 2 = true)
      (fun w l => BitVec.ofNat 32 (content (xAddr w g l) 2)) ∧
    pair 0x2E (.ldc e f .clean l0)
      (fun w l => at_ 1 w l < 12800 ∧ g.badCards.contains (at_ 1 w l) = false)
      (fun w l => (card g (at_ 1 w l)).extractLsb' 0 32) (fun w l => (card g (at_ 1 w l)).extractLsb' 32 32) ∧
    pair 0x32 (.tlu e f .clean)
      (fun w l => dataOk (tab w (idx w l)) 2 = true ∧ dataOk (tab w (min (idx w l + 1) 4095)) 2 = true)
      (fun w l => BitVec.ofNat 32 (content (tab w (idx w l)) 2))
      (fun w l => BitVec.ofNat 32 (content (tab w (min (idx w l + 1) 4095)) 2)) ∧
    (let w := insnWord 0x2D f
     let a := ((sreg g (fb w 18 16)).toNat + fb w 15 0) % 2 ^ 32
     wordRuns 0x2D e f s → standing 0x2D = false → dataOk a 4 = true → makes (.lds e f .clean) s fun t =>
       scalarResult (fb w 21 19) e.val (BitVec.ofNat 32 (content a 4)) s t)

/-- R132 to R134: the stores change the bytes of the guarded lanes alone. The model's choices: a masked lane's address is not
looked at (log entry 64), and a run that HOOK has not entered is not held to the extension's limit (log entry 68). -/
def Obligations.StoresChangeOnlyTheirBytes : Prop :=
  ∀ (s : State) (e : Fin 1024) (f : BitVec 26),
    let g := engOf e.val s.dev
    let stores (op n : Nat) (c : Instr) (addr : BitVec 32 → Nat → Nat) (val : BitVec 32 → Nat → BitVec 32) : Prop :=
      let w := insnWord op f
      wordRuns op e f s → (∀ l, l < 4 → guarded w g l = true → storeTrap g (addr w l) n = none) →
        makes c s fun t =>
        onlyEngine e.val s t ∧ dataFrame g (engOf e.val t.dev) ∧
          (∀ a, (∀ l, l < 4 → guarded w g l = true → a < addr w l ∨ addr w l + n ≤ a) →
            dataByte (engOf e.val t.dev) a = dataByte g a) ∧
          ∀ l, l < 4 → guarded w g l = true →
            (∀ k, k < 4 → l < k → guarded w g k = true → addr w k ≠ addr w l) →
            dataLE (engOf e.val t.dev) (addr w l) n = (val w l).toNat % 256 ^ n
    stores 0x2B 4 (.stdw e f) (fun w l => mAddr w g (4 * l)) (fun w l => vreg g (fb w 21 18) l) ∧
    stores 0x2C 2 (.stdh e f) (fun w l => mAddr w g (2 * l)) (fun w l => vreg g (fb w 21 18) l) ∧
    stores 0x31 2 (.stx e f) (fun w l => xAddr w g l) (fun w l => vreg g (fb w 13 10) l) ∧
    (let w := insnWord 0x2F f
     wordRuns 0x2F e f s →
       (∀ l, l < 4 → guarded w g l = true → 12356 ≤ mAddr w g l ∧ mAddr w g l < 12800) →
       makes (.stc e f) s fun t => onlyEngine e.val s t ∧ goesOn g (engOf e.val t.dev) ∧
         engOf e.val t.dev = { g with
           cards := (engOf e.val t.dev).cards, badCards := (engOf e.val t.dev).badCards, pc := (engOf e.val t.dev).pc
           skipTo := (engOf e.val t.dev).skipTo, loops := (engOf e.val t.dev).loops, touched := true, wait := 0 } ∧
         (∀ l, l < 4 → guarded w g l = true → card (engOf e.val t.dev) (mAddr w g l) =
           vreg g (fb w 21 18 + 1) l ++ vreg g (fb w 21 18) l) ∧
         ∀ n, (∀ l, l < 4 → guarded w g l = true → n ≠ mAddr w g l) → card (engOf e.val t.dev) n = card g n)

/-- R96, R135: publication and neighbour reads. Of two publications on one channel in a row the first stays (the model's choice,
log entry 68). -/
def Obligations.NeighbourExchange : Prop :=
  ∀ (s : State) (e : Fin 1024) (f : BitVec 26),
    let g := engOf e.val s.dev
    let cx := liveCx e.val s.dev
    let va (w : BitVec 32) (l : Nat) : BitVec 32 := vreg g (fb w 17 14) l
    -- VD holds the four values, P[PD] the bits `valid`, and nothing else changes
    let shifted (w : BitVec 32) (x : Nat → BitVec 32) (valid : Nat) (t : State) : Prop :=
      let h := engOf e.val t.dev
      onlyEngine e.val s t ∧ goesOn g h ∧
      h = { g with v := h.v, p := h.p, pc := h.pc, skipTo := h.skipTo, loops := h.loops, nlefts := h.nlefts
                   nrights := h.nrights, touched := true, wait := 0 } ∧
      h.nlefts = g.nlefts + (if fb w 31 26 = 0x35 then 1 else 0) ∧
      h.nrights = g.nrights + (if fb w 31 26 = 0x36 then 1 else 0) ∧
      (∀ l, l < 4 → vreg h (fb w 21 18) l = x l) ∧ preg h (fb w 11 10) = valid ∧
      (∀ r l, r ≠ fb w 21 18 → l < 4 → vreg h r l = vreg g r l) ∧ ∀ r, r ≠ fb w 11 10 → preg h r = preg g r
    let fromLeft (w : BitVec 32) (x : BitVec 32) (l : Nat) : BitVec 32 := if l = 0 then x else va w (l - 1)
    let fromRight (w : BitVec 32) (x : BitVec 32) (l : Nat) : BitVec 32 := if l = 3 then x else va w (l + 1)
    let reads (op : Nat) (c : Instr) (side : Nat) (nb : Nat → Nb) (lane valid0 valid1 : Nat)
        (from_ : BitVec 32 → BitVec 32 → Nat → BitVec 32) : Prop :=
      let w := insnWord op f
      wordRuns op e f s → makes c s fun t =>
        (nb (fb w 13 12) = .invalid → shifted w (from_ w 0) valid0 t) ∧
        (∀ v, nb (fb w 13 12) = .lanes v → shifted w (from_ w (v.getD lane 0)) valid1 t) ∧
        (nb (fb w 13 12) = .waits → onlyEngine e.val s t ∧
          engOf e.val t.dev = { g with touched := true, wait := side, waitF := f })
    reads 0x35 (.nleft e f) 1 cx.left 3 14 15 fromLeft ∧ reads 0x36 (.nright e f) 2 cx.right 0 7 15 fromRight ∧
    (wordRuns 0x34 e f s → makes (.npub e f) s fun t =>
      let w := insnWord 0x34 f
      rowEffect e.val s t ∧ (engOf e.val t.dev).cacc = g.cacc ∧ (engOf e.val t.dev).hadd = g.hadd ∧
      pubOf (engOf e.val t.dev) (fb w 13 12) =
        (if g.pubs.any (fun x => x.1 == fb w 13 12) = true then pubOf g (fb w 13 12)
         else .lanes [va w 0, va w 1, va w 2, va w 3]) ∧
      (∀ ch, ch ≠ fb w 13 12 → pubOf (engOf e.val t.dev) ch = pubOf g ch) ∧
      -- both neighbours can read what is published
      ∀ ch, (e.val + 1 < 1024 → (liveCx (e.val + 1) t.dev).left ch = pubOf (engOf e.val t.dev) ch) ∧
        (1 ≤ e.val → (liveCx (e.val - 1) t.dev).right ch = pubOf (engOf e.val t.dev) ch)) ∧
    -- a lane without a neighbour, and a neighbour that runs no program, give an invalid value
    (∀ ch, (e.val = 0 ∨ engRuns (e.val - 1) s.dev = false → cx.left ch = .invalid) ∧
      (e.val = 1023 ∨ engRuns (e.val + 1) s.dev = false → cx.right ch = .invalid)) ∧
    -- what is published stays readable through every instruction up to YIELD
    (∀ (c : Instr) (t : State), columnInstruction c = true → exec c s = .next t →
      ∀ (n ch : Nat), (engOf n s.dev).pubs.any (fun x => x.1 == ch) = true → engState n t.dev ≠ enFAULT →
        pubOf (engOf n t.dev) ch = pubOf (engOf n s.dev) ch) ∧
    -- a read that waited is carried out once the neighbour answers
    (∀ op side, (op = 0x35 ∧ side = 1) ∨ (op = 0x36 ∧ side = 2) →
      let w := insnWord op g.waitF
      let nb := if side = 1 then cx.left else cx.right
      engRuns e.val s.dev = true → g.row.isSome = true → g.yielded = false → g.wait = side → pastEnd cx g = false →
      encLegal w = true → skipped g = false → nb (fb w 13 12) ≠ .waits → makes (.neighbourReadResume e) s fun t =>
        ∀ x, (nb (fb w 13 12) = .invalid → shifted w ((if side = 1 then fromLeft else fromRight) w 0)
            (if side = 1 then 14 else 7) t) ∧
          (nb (fb w 13 12) = .lanes x →
            shifted w ((if side = 1 then fromLeft else fromRight) w (x.getD (if side = 1 then 3 else 0) 0)) 15 t))

/-- R115, R116, R132, R137: what awaits YIELD. EMIT takes the low 16 bits of a lane, and the marks of the row's last EMIT stand (the
model's choice, log entry 63). -/
def Obligations.CellHistogramAndEmitInstructions : Prop :=
  ∀ (s : State) (e : Fin 1024) (f : BitVec 26),
    let g := engOf e.val s.dev
    let picked (w : BitVec 32) : List (Nat × BitVec 32) :=
      ([0, 1, 2, 3].filter (fun l => bitN (preg g (fb w 11 10)) l)).map (fun l => (l, vreg g (fb w 17 14) l))
    let low (w : BitVec 32) : List Nat := [0, 1, 2, 3].map (fun l => (vreg g (fb w 17 14) l).toNat % 65536)
    let awaits (op : Nat) (c : Instr) (post : BitVec 32 → Eng → Prop) : Prop :=
      wordRuns op e f s → makes c s fun t => rowEffect e.val s t ∧ (engOf e.val t.dev).pubs = g.pubs ∧
        post (insnWord op f) (engOf e.val t.dev)
    awaits 0x38 (.cacc e f) (fun w h => h.cacc = g.cacc ++ (picked w).map (fun x => (x.1, x.2.toNat)) ∧ h.hadd = g.hadd ∧ h.ccnt = g.ccnt ∧
      h.emC = g.emC ∧ h.emR = g.emR ∧ h.emMarks = g.emMarks) ∧
    awaits 0x3A (.hadd e f) (fun w h => h.hadd = g.hadd ++ (picked w).map (fun x => (x.1, x.2.toInt)) ∧ h.cacc = g.cacc ∧ h.ccnt = g.ccnt ∧
      h.emC = g.emC ∧ h.emR = g.emR ∧ h.emMarks = g.emMarks) ∧
    awaits 0x39 (.ccnt e f) (fun w h => h.cacc = g.cacc ∧ h.hadd = g.hadd ∧ h.emC = g.emC ∧ h.emR = g.emR ∧
      h.emMarks = g.emMarks ∧
      h.ccnt = if (rowOfSlot (g.row.getD 0) s.dev).blind = true ∨ g.ccnt.isSome = true then g.ccnt
        else some ([0, 1, 2, 3].filter (fun l => bitN (preg g (fb w 11 10)) l)).length) ∧
    awaits 0x3B (.emit e f) (fun w h => h.cacc = g.cacc ∧ h.hadd = g.hadd ∧ h.ccnt = g.ccnt ∧
      h.emMarks = [0, 1, 2, 3].map (fun l => (vreg g (fb w 21 18) l).toNat) ∧
      h.emC = (if fb w 1 0 = 0 then some (low w) else g.emC) ∧
      h.emR = (if fb w 1 0 = 1 then some (low w) else g.emR))

/-- R128, R138, R139: the control instructions, and the words that a SKIP or a loop's count skips; what happens at the end of a
loop body is `goesOn`. That an illegal encoding traps in a skipped word too is the model's choice (log entry 68). -/
def Obligations.ControlInstructions : Prop :=
  ∀ (s : State) (e : Fin 1024) (f : BitVec 26),
    let g := engOf e.val s.dev
    let cx := liveCx e.val s.dev
    let control (op : Nat) (c : Instr) (post : BitVec 32 → Eng → Prop) : Prop :=
      wordRuns op e f s → makes c s fun t => controlEffect e.val s t ∧ post (insnWord op f) (engOf e.val t.dev)
    control 0x00 (.nop e f) (fun _ h => goesOn g h ∧ h.inExt = g.inExt ∧ h.retPc = g.retPc) ∧
    control 0x3C (.loop e f) (fun w h =>
      let n : Nat := fb w 17 10
      let live : Nat := if fb w 21 21 = 1 then (min (max (sreg g (fb w 20 18)).toInt 0) n).toNat else n
      h.pc = g.pc + 1 ∧ h.skipTo = g.skipTo ∧ h.inExt = g.inExt ∧ h.retPc = g.retPc ∧
      h.loops = { body := g.pc + 1, last := g.pc + fb w 9 4, left := n, live := live } :: g.loops) ∧
    control 0x3D (.skip e f) (fun w h =>
      let p := preg g (fb w 21 20)
      let holds : Prop := match fb w 19 18 with
        | 0 => p ≠ 0 | 1 => p = 15 | 2 => p = 0 | _ => p ≠ 15
      h.inExt = g.inExt ∧ h.retPc = g.retPc ∧ (holds → goesOn { g with skipTo := g.pc + 1 + fb w 17 12 } h) ∧
      (¬ holds → goesOn g h)) ∧
    (let f0 := f &&& ~~~1#26
     wordRuns 0x3E e f0 s → makes (.hook e f) s fun t =>
      let h := engOf e.val t.dev
      controlEffect e.val s t ∧
      -- on to word 1,280
      (cx.hook = true → cx.extLen ≠ 0 → goesOn { g with pc := 1279 } h ∧ h.retPc = g.pc ∧ h.inExt = true) ∧
      (cx.hook = false ∨ cx.extLen = 0 → goesOn g h ∧ h.retPc = g.retPc ∧ h.inExt = g.inExt)) ∧
    (let f1 := f ||| 1#26
     wordRuns 0x3E e f1 s → makes (.ret e f) s fun t =>
      let h := engOf e.val t.dev
      controlEffect e.val s t ∧
      -- on to the word after HOOK
      goesOn { g with pc := g.retPc } h ∧ h.inExt = false ∧ h.retPc = g.retPc) ∧
    -- a skipped word has no effect
    (∀ (x : DataEcc) (y : Ecc) (l : Fin 4), ∀ p ∈ columnWords e f x y l,
      canRun e.val s.dev = true → pastEnd cx g = false → encLegal p.1 = true →
      (g.pc < g.skipTo ∨ ∃ fr ∈ g.loops, fr.live = 0) → makes p.2 s fun t =>
        controlEffect e.val s t ∧ goesOn g (engOf e.val t.dev) ∧
        (engOf e.val t.dev).inExt = g.inExt ∧ (engOf e.val t.dev).retPc = g.retPc)

/-- R116, R118, R136: YIELD and YIELD_WAIT_END answer a next state in which the row is complete, wherever the left neighbour
has executed its last NRIGHT of the row and the right one its last NLEFT; until then YIELD waits. At the row's deadline what a
commanded program has emitted reaches the band, and of one that has not reached YIELD the code. The model's choices: a neighbour
that runs no program, has no row, or has reached YIELD reads no more, and how many reads it makes is taken from the engine's own
(log entry 46); CACC adds the low 16 bits of a lane (log entry 63); a contribution waits for its holder's YIELD (log entry 54). -/
def Obligations.YieldCompletesTheRow : Prop :=
  ∀ (s : State) (e : Fin 1024) (f : BitVec 26),
    let g := engOf e.val s.dev
    let readAll (n : Nat) (made : Eng → Nat) : Prop :=
      let h := engOf n s.dev
      engRuns n s.dev = false ∨ h.row = none ∨ h.yielded = true ∨ h.wait = 3 ∨ made g ≤ made h
    let neighboursHaveRead : Prop :=
      (e.val ≠ 0 → readAll (e.val - 1) Eng.nrights) ∧ (e.val ≠ 1023 → readAll (e.val + 1) Eng.nlefts)
    let completed (t : State) : Prop :=
      rowCompleted e.val s t ∧
      match rowOfSlot (g.row.getD 0) s.dev with
      | .active r => activeRowData e.val r s t
      | _ => ∀ n, (engOf n t.dev).data = (engOf n s.dev).data ∧ (engOf n t.dev).inbox = (engOf n s.dev).inbox
    (wordRuns 0x3F e f s → neighboursHaveRead → ∃ t, exec (.yield e f) s = .next t ∧ completed t) ∧
    (wordRuns 0x3F e f s → ¬ neighboursHaveRead → ∃ t, exec (.yield e f) s = .next t ∧
      onlyEngine e.val s t ∧ engOf e.val t.dev = { g with touched := true, wait := 3 }) ∧
    (engRuns e.val s.dev = true → g.wait = 3 → neighboursHaveRead →
      ∃ t, exec (.yieldWaitEnd e) s = .next t ∧ completed t) ∧
    (∀ (x : SlotIn) (k r : Nat), rowEnds (.active r) k x s.dev → outMode s.dev ≠ 2 → s.dev.en.pack.band.length < 63 →
      engRuns e.val s.dev = true → g.touched = true → makes (.rowSlotEnd x) s fun t =>
        ∃ o, t.dev.en.pack.band = s.dev.en.pack.band ++ [o] ∧ o.row = r ∧ ∀ l, l < 4 →
          let c := 4 * e.val + l
          (∀ ys rs, g.yielded = true → g.emC = some ys → g.emR = some rs →
            o.corr.getD c 0 = ys.getD l 0 ∧ o.rad.getD c 0 = rs.getD l 0) ∧
          (g.yielded = false → o.corr.getD c 0 = s.dev.en.words.getD c 0 % 16384 ∧ o.rad.getD c 0 = 0))

/-- R131, R133, R134: a word that is no legal encoding, that lies past the end, or whose address lies outside what it may
reach, ends in FAULTED with cause TRAP, and the dailies name the kind. A masked lane's address takes no trap, and of several
lanes the lowest that traps gives the kind (the model's choice, log entry 64). LDS adds its IMM16 without a sign, and the fields that a legal encoding may use are read from R131 (log
entry 55). Words from 1,280 that a program runs on to without HOOK do not count as the extension (the model's choice, log entry
68). -/
def Obligations.IllegalWordsAndAddressesTrap : Prop :=
  ∀ (s : State) (e : Fin 1024) (f : BitVec 26),
    let g := engOf e.val s.dev
    let pastLast : Prop := 2047 < g.pc ∨ (g.inExt = true ∧ 1280 + (liveCx e.val s.dev).extLen ≤ g.pc)
    let word (op : Nat) (f : BitVec 26) (c : Instr) : Prop :=
      canRun e.val s.dev = true →
        (pastLast → makes c s fun t => trapped e.val 6 s t) ∧
        (¬ pastLast → encLegal (insnWord op f) = false → makes c s fun t => trapped e.val 1 s t)
    let outside (a n : Nat) : Prop := 0x4000 < a + n ∨ a % n ≠ 0
    -- lane `l` is open and its address is bad, and no open lane below it has a bad one
    let lowest (w : BitVec 32) (bad : Nat → Prop) (l : Nat) : Prop :=
      guarded w g l = true ∧ bad l ∧ ∀ m, m < l → guarded w g m = true → ¬ bad m
    let load (op n : Nat) (c : Instr) (addr : BitVec 32 → Nat → Nat) : Prop :=
      let w := insnWord op f
      wordRuns op e f s → (loadWords op e f s.dev).any g.badData.contains = false →
        ∀ l, l < 4 → guarded w g l = true → outside (addr w l) n → makes c s fun t => trapped e.val 2 s t
    let store (op n : Nat) (c : Instr) (addr : BitVec 32 → Nat → Nat) : Prop :=
      let w := insnWord op f
      let forbidden (l : Nat) : Prop := g.inExt = true ∧ addr w l < 0x3F00
      wordRuns op e f s → ∀ l, l < 4 → lowest w (fun l => outside (addr w l) n ∨ forbidden l) l →
        (outside (addr w l) n → makes c s fun t => trapped e.val 2 s t) ∧
        (¬ outside (addr w l) n → makes c s fun t => trapped e.val 5 s t)
    (∀ x ∈ [(0x00, Instr.nop e f), (0x01, .vadd e f), (0x02, .vsub e f), (0x03, .vadds e f), (0x04, .vsubs e f),
        (0x05, .vand e f), (0x06, .vor e f), (0x07, .vxor e f), (0x08, .vshl e f), (0x09, .vshr e f), (0x0A, .vshru e f),
        (0x0B, .vmin e f), (0x0C, .vmax e f), (0x0D, .vclamp e f), (0x0E, .vsel e f), (0x0F, .vcmp e f), (0x10, .vaddi e f),
        (0x11, .vli e f), (0x12, .vsplat e f), (0x13, .vidx e f), (0x14, .vext e f), (0x15, .plog e f), (0x18, .vmul e f),
        (0x19, .vmac e f), (0x1A, .vmuls e f), (0x20, .sadd e f), (0x21, .sli e f), (0x22, .slui e f), (0x23, .salu e f),
        (0x24, .sget e f), (0x2B, .stdw e f), (0x2C, .stdh e f), (0x2F, .stc e f), (0x31, .stx e f), (0x34, .npub e f),
        (0x35, .nleft e f), (0x36, .nright e f), (0x38, .cacc e f), (0x39, .ccnt e f), (0x3A, .hadd e f), (0x3B, .emit e f),
        (0x3C, .loop e f), (0x3D, .skip e f), (0x3F, .yield e f)], word x.1 f x.2) ∧
    word 0x3E (f &&& ~~~1#26) (.hook e f) ∧ word 0x3E (f ||| 1#26) (.ret e f) ∧
    (∀ x : DataEcc, word 0x28 f (.lddw e f x) ∧ word 0x29 f (.lddh e f x) ∧ word 0x2A f (.lddhu e f x) ∧
      word 0x2D f (.lds e f x) ∧ word 0x30 f (.ldx e f x) ∧ word 0x32 f (.tlu e f x)) ∧
    (∀ (x : Ecc) (l : Fin 4), word 0x2E f (.ldc e f x l)) ∧
    load 0x28 4 (.lddw e f .clean) (fun w l => mAddr w g (4 * l)) ∧
    load 0x29 2 (.lddh e f .clean) (fun w l => mAddr w g (2 * l)) ∧
    load 0x2A 2 (.lddhu e f .clean) (fun w l => mAddr w g (2 * l)) ∧
    load 0x30 2 (.ldx e f .clean) (fun w l => xAddr w g l) ∧
    load 0x32 2 (.tlu e f .clean) (fun w l => tluAddr w g l 0) ∧
    load 0x32 2 (.tlu e f .clean) (fun w l => tluAddr w g l 1) ∧
    (let w := insnWord 0x2D f
     wordRuns 0x2D e f s → outside (((sreg g (fb w 18 16)).toNat + fb w 15 0) % 2 ^ 32) 4 →
       makes (.lds e f .clean) s fun t => trapped e.val 2 s t) ∧
    store 0x2B 4 (.stdw e f) (fun w l => mAddr w g (4 * l)) ∧ store 0x2C 2 (.stdh e f) (fun w l => mAddr w g (2 * l)) ∧
    store 0x31 2 (.stx e f) (fun w l => xAddr w g l) ∧
    (let w := insnWord 0x2E f
     wordRuns 0x2E e f s → (ldcReads e f s.dev).any g.badCards.contains = false →
       ∀ l l0 : Fin 4, guarded w g l.val = true → 12800 ≤ mAddr w g l.val →
         makes (.ldc e f .clean l0) s fun t => trapped e.val 3 s t) ∧
    (let w := insnWord 0x2F f
     wordRuns 0x2F e f s → ∀ l, l < 4 → lowest w (fun l => mAddr w g l < 12356 ∨ 12800 ≤ mAddr w g l) l →
       (12800 ≤ mAddr w g l → makes (.stc e f) s fun t => trapped e.val 3 s t) ∧
       (mAddr w g l < 12356 → makes (.stc e f) s fun t => trapped e.val 4 s t))

/-- R99, R104, R105: errors that the reads of an engine's memories meet. An error is met in what the instruction reads, and a
slot with a double-bit error is counted once for each LDC that reads it (the model's choice, log entry 25). -/
def Obligations.EngineMemoryErrors : Prop :=
  ∀ (s : State) (e : Fin 1024) (f : BitVec 26),
    let d := s.dev
    let g := engOf e.val d
    (∀ x ∈ [(0x28, Instr.lddw e f), (0x29, .lddh e f), (0x2A, .lddhu e f), (0x2D, .lds e f), (0x30, .ldx e f),
        (0x32, .tlu e f)],
      let reads := loadWords x.1 e f d
      (reads.any g.badData.contains = true → ∀ y : DataEcc, makes (x.2 y) s fun t => faultedWith e.val 2 t) ∧
      (reads.any g.badData.contains = false →
        (∀ n, n.val ∈ reads → makes (x.2 (.uncorrectable n)) s fun t => faultedWith e.val 2 t ∧
          (engOf e.val t.dev).badData = n.val :: g.badData) ∧
        (reads ≠ [] → makes (x.2 .corrected) s fun t =>
          countedOnce (ENG_STAT.SBE e.val) d t.dev ∧ countedOnce PIPE_ECC_CNT.MEM_SBE d t.dev))) ∧
    (∀ l : Fin 4, ldcSlot e f l d ∈ ldcReads e f d →
      (makes (.ldc e f .corrected l) s fun t =>
        countedOnce (ENG_STAT.SBE e.val) d t.dev ∧ countedOnce PIPE_ECC_CNT.CARD_SBE d t.dev) ∧
      makes (.ldc e f .uncorrectable l) s fun t =>
        let bad : List Nat := (ldcReads e f d).eraseDups.filter (fun n => n == ldcSlot e f l d || g.badCards.contains n)
        fld PIPE_ECC_CNT.CARD_DBE t.dev = min (fldMax PIPE_ECC_CNT.CARD_DBE) (fld PIPE_ECC_CNT.CARD_DBE d + bad.length) ∧
        raised (64 + e.val / 16) t ∧ ldcSlot e f l d ∈ (engOf e.val t.dev).badCards)

/-! ### Supplies, resets and BOOT -/

/-- R25, R26, R27, R33, R34, R373, R415: the state that each change of a supply leads to, and the outputs there; a loss of
HOST_12V after the sensors have cooled ends the hold at its next application; main power is averaged only over measurements since the main domain was last powered. That no sensor holds a reading from before AUX_3V3 power-up is
the model's choice (log entry 6). -/
def Obligations.SuppliesGiveTheModuleState : Prop :=
  ∀ (s : State),
    let d := s.dev
    (∀ (host : Bool) (strap : Fin 3), auxOn d = false → makes (.auxPowerUp host strap) s fun t =>
      auxOn t.dev = true ∧ t.dev.pw.host12v = host ∧ t.dev.pw.strap = strap.val + 1 ∧
      mstate t.dev = (if host then stRESET else stAUX) ∧ mainAtReset t.dev ∧ t.dev.fl = d.fl ∧ t.store = s.store ∧
      t.dev.gaf.sens = [] ∧ (host = false → outputsUnpowered t.dev) ∧ (host = true → outputsInReset t.dev) ∧
      fieldOut t.dev = fieldOut d ∧ (host = false → ∀ a, rdReg a t.dev = regReset a)) ∧
    (∀ aux : Bool, d.pw.host12v = true → makes (.auxSourceSwitch aux) s fun t =>
      t = { s with dev := { d with pw := { d.pw with aux3v3 := aux } } }) ∧
    (makes .auxDomainUnsupplied s fun t => mstate t.dev = stOFF ∧ auxOn t.dev = false ∧ mainAtReset t.dev ∧
      outputsUnpowered t.dev ∧ pinAttn t.dev = .hiZ ∧ fieldOut t.dev = fieldOut d ∧ t.dev.fl = d.fl ∧ t.dev.waits = [] ∧ t.dev.rings = {} ∧ t.pending = s.pending) ∧
    (mstate d = stAUX → d.pw.host12v = false → auxOn d = true → d.pw.critHold = false ∨ d.pw.critLost = true →
      makes .host12vApplied s fun t =>
        entersReset (if d.pw.perst then [1, 2] else [1]) s t ∧ t.dev.pw.host12v = true ∧ t.dev.pw.critHold = false) ∧
    (d.pw.host12v = true → d.pw.aux3v3 = true → mstate d = stAUX → makes .host12vLost s fun t =>
      t = { s with dev := { d with pw := { d.pw with
        host12v := false, critLost := d.pw.critLost || (d.pw.critHold && d.pw.critCool) } } }) ∧
    (d.pw.host12v = false → auxOn d = true → d.pw.critHold = true → d.pw.critLost = false →
      makes .host12vApplied s fun t => t = { s with dev := { d with pw := { d.pw with host12v := true } } }) ∧
    (d.pw.host12v = true → d.pw.aux3v3 = true → mstate d ≠ stAUX → makes .host12vLost s fun t =>
      mstate t.dev = stAUX ∧ fld GLB_MSTATE.HOLD_CAUSE t.dev = 0x10 ∧ t.dev.pw.host12v = false ∧ auxOn t.dev = true ∧
      mainAtReset t.dev ∧ outputsUnpowered t.dev ∧ t.dev.fl = d.fl ∧ t.dev.gaf.trims = d.gaf.trims ∧ t.dev.gaf.hist = []) ∧
    (d.pw.host12v = true → d.pw.aux3v3 = false → makes .host12vLost s fun t =>
      mstate t.dev = stOFF ∧ auxOn t.dev = false ∧ t.dev.fl = d.fl)

/-- R412, R413: the reset sources put the module in RESET, and BOOT follows when they have ended. The model's choices: the flash
command that RESET_RELEASE sends (log entry 57), and that the release of PERST# ends a critical hold in RESET (log entry 21). -/
def Obligations.ResetSourcesResetTheMainDomain : Prop :=
  ∀ (s : State),
    let d := s.dev
    (mainRuns d = true → d.pw.perst = false → makes .perstAssert s fun t =>
      entersReset [2] s t ∧ t.dev.pw.perst = true) ∧
    (mainRuns d = true → makes .hotReset s fun t => entersReset [3] s t) ∧
    (∀ (p : Path) (v : BitVec 32), reachable d → v.toNat / 2 ^ 16 = 0xA55A → v.toNat % 2 = 1 →
      makes (.flpReset p v) s fun t => entersReset [5] s t) ∧
    (∀ (p : Path) (v : BitVec 32), reachable d → v.toNat / 2 ^ 16 ≠ 0xA55A →
      makes (.flpReset p v) s fun t => mstate t.dev = mstate d ∧ t.dev.pw = d.pw) ∧
    (mstate d = stRESET → d.pw.perst = false → makes .perstAssert s fun t =>
      2 ∈ t.dev.pw.sources ∧ 2 ∈ t.dev.pw.causes ∧ (∀ k ∈ d.pw.causes, k ∈ t.dev.pw.causes) ∧ mstate t.dev = stRESET ∧
      t.dev.main = d.main ∧ t.dev.aux = d.aux) ∧
    (mstate d = stRESET → makes .hotReset s fun t => t = { s with dev := { d with pw := t.dev.pw } } ∧
      3 ∈ t.dev.pw.sources ∧ 3 ∈ t.dev.pw.causes) ∧
    (d.pw.perst = true → d.pw.critHold = false → makes .perstRelease s fun t =>
      t = { s with dev := { d with pw := { d.pw with perst := false } } }) ∧
    (d.pw.perst = true → d.pw.critHold = true → d.pw.critPerst = true → d.pw.host12v = true →
      makes .perstRelease s fun t => mstate t.dev = stRESET ∧ t.dev.pw.critHold = false) ∧
    (∀ pos : Fin 16, mstate d = stRESET → d.pw.perst = false → d.pw.causes ≠ [] → (∀ k ∈ d.pw.causes, k ≤ 5) →
      makes (.resetRelease pos) s fun t =>
        mstate t.dev = stBOOT ∧ outputsInBoot t.dev ∧ t.dev.pw.pos = pos.val ∧ t.dev.pw.sources = [] ∧
        fld FLP_BOOT.RST_CAUSE t.dev ∈ d.pw.causes ∧ (∀ k ∈ d.pw.causes, fld FLP_BOOT.RST_CAUSE t.dev ≤ k) ∧
        t.dev.fl = d.fl ∧ t.store = s.store ∧ (d.fsh.started = false → .flashCmd 0 25 0x05 0 0 0 [] ∈ t.dev.out))

/-- R405, R409, R410, R412, R416: verification of the firmware slots, BOOT's loading, and the watchdogs. The flash command that
reads the SFDP header is the model's choice (log entry 57). -/
def Obligations.BootVerifiesASlotAndLoads : Prop :=
  ∀ (s : State),
    let d := s.dev
    -- checks 1 and 2 of a slot
    let passes (a b : Bool) (k : Nat) : Bool := (if k = 0 then a else b) && headerOk k s
    (mstate d = stBOOT → d.fsh.started = false → makes .flashReadyTimeout s fun t =>
      mstate t.dev = stSAFE ∧ fld GLB_MSTATE.HOLD_CAUSE t.dev = 2 ∧ t.dev.pw.stuck = true ∧
      fld FLP_BOOT.VER_A t.dev = 2 ∧ fld FLP_BOOT.VER_B t.dev = 2 ∧ raised 250 t) ∧
    (∀ (x : SfdpIn) (u v : BitVec 32) (a b : Bool) (k : Nat), mstate d = stBOOT → flag FLP_BOOT.BOOTED d = false →
      flag FLP_BOOT.FALLBACK d = false → d.fsh.started = false → d.fsh.orphan = none → sfdpValid x = true → 64 ≤ sfdpMbit v → k < 2 →
      passes a b k = true → passes a b (1 - k) = false → makes (.slotVerificationDone x u v a b) s fun t =>
        let ver := fld (if k = 0 then FLP_BOOT.VER_A else FLP_BOOT.VER_B) t.dev
        ver = (if slotKey k s = none then 4 else if slotSigned k s = false then 5 else 1) ∧
        flag FLP_BOOT.BOOTED t.dev = decide (ver = 1) ∧ flag FLP_SFDP.VALID t.dev = true ∧ mstate t.dev = stBOOT ∧
        t.dev.xh.on = (d.xh.on || decide (ver = 1)) ∧ t.store = s.store ∧ .flashCmd 0 25 0x5A 3 0 8 [] ∈ t.dev.out ∧
        (ver = 1 → fld FLP_BOOT.SLOT t.dev = k ∧ some (flag FLP_BOOT.KEY t.dev) = slotKey k s ∧ t.dev.sl.running = true ∧
          rdReg FLP_FWVER.addr t.dev = BitVec.ofNat 32 (rdLE 0xFF s.store.flash (0x400000 * k + 0x10) 4))) ∧
    (∀ (x : SfdpIn) (u v : BitVec 32) (a b : Bool), mstate d = stBOOT → flag FLP_BOOT.BOOTED d = false → d.fsh.started = true →
      verifyResult d.fsh.slot (if d.fsh.slot = 0 then a else b) s ≠ 1 →
      (flag FLP_BOOT.FALLBACK d = false → makes (.slotVerificationDone x u v a b) s fun t =>
        flag FLP_BOOT.FALLBACK t.dev = true ∧ raised 249 t ∧ t.dev.fsh.slot = 1 - d.fsh.slot ∧ mstate t.dev = stBOOT) ∧
      (flag FLP_BOOT.FALLBACK d = true → makes (.slotVerificationDone x u v a b) s fun t =>
        mstate t.dev = stSAFE ∧ fld GLB_MSTATE.HOLD_CAUSE t.dev = 2 ∧ t.dev.pw.stuck = true ∧ raised 250 t)) ∧
    (∀ errs : List NvsErr, mstate d = stBOOT → flag FLP_BOOT.BOOTED d = true → flag NVS_STATUS.CNT_VALID d = true →
      d.waits.any (fun w => w.kind == wkBOOT) = false → makes (.bootLoadingDone errs) s fun t =>
        (coldLimit d = true → mstate t.dev = stCOLD) ∧
        (coldLimit d = false → mstate t.dev = stBOOT ∧ t.dev.waits = d.waits ++ [{ kind := wkBOOT, cmd := none }]) ∧
        (let base := 0x400000 * fld FLP_BOOT.SLOT d
         ∀ n k, n < 1024 → k < 1280 → mget (fun _ => 0#32) (engOf n t.dev).prog k =
           BitVec.ofNat 32 (rdLE 0xFF s.store.flash
             (base + 0x100 + rdLE 0xFF s.store.flash (base + 0x18) 4 + 4 * k) 4))) ∧
    (safeFrom d = true → makes .watchdogExpiry s fun t =>
      mstate t.dev = stSAFE ∧ fld GLB_MSTATE.HOLD_CAUSE t.dev = 3 ∧ t.dev.pw.stuck = true ∧ raised 251 t)

/-! ### The slate timer and the herd -/

/-- R49 to R52, R71, R78, R104, R127: row slots follow one another, each hands the samples of the slot before it to the engines,
and the slate's last one gives way to slot 0 of the next slate. That ROW_SLOT_END does nothing in the last slot, SLATE_BOUNDARY
nothing where the slate does not end, and that a slot's work is done as it starts, are the model's choice (log entry 16). What
else they do is stated by StandardProgramCorrectsARow, SceneTrimAndDriftFollowTheRows, BlankingSlotsDoTheirWork,
CellsAreEvaluated and BoundariesMoveTheStateAndTheTake. -/
def Obligations.RowSlotsAndSlatesFollowOneAnother : Prop :=
  ∀ (s : State),
    let d := s.dev
    (∀ x : SlotIn, d.sl.running = true → inLastSlot d = false → makes (.rowSlotEnd x) s fun t =>
      t.dev.sl.slot = d.sl.slot + 1 ∧ t.dev.sl.slotTick = 0 ∧ t.dev.sl.no = d.sl.no ∧ t.dev.sl.running = true ∧
      t.dev.sl.tick = d.sl.tick + (ticksInForce d - d.sl.slotTick) ∧ t.store = s.store) ∧
    (∀ x : SlotIn, d.sl.running = true → inLastSlot d = true → makes (.rowSlotEnd x) s fun t => t = s) ∧
    (∀ x : SlotIn, d.sl.running = true → isLive d = true → nslots d = activeRows d + 48 → 1 ≤ d.sl.slot →
      rowOfSlot (d.sl.slot - 1) d ≠ .none → makes (.rowSlotEnd x) s fun t =>
        let k := d.sl.slot - 1
        let raw (c : Nat) : Nat := x.samples.codes.getD c x.samples.fill % 65536
        let off (c : Nat) : Bool := decide (2 ≤ (grp (c / 32) d).out)
        let word (c : Nat) : Nat := if off c || (raw c).testBit 15 then 0xBFFF else raw c % 32768
        let missing := (List.range 4096).filter (fun c => !off c && (raw c).testBit 15)
        let desc : Nat := match rowOfSlot k d with
          | .active r => r | .top i => 2 ^ 31 + 2 ^ 16 * i | .bottom i => 2 ^ 31 + 2 ^ 16 * (8 + i) | .none => 0
        (∀ c, c < 4096 → t.dev.en.words.getD c 0 = word c) ∧
        fld FPA_INCOMPLETE.COUNT t.dev = min (fldMax FPA_INCOMPLETE.COUNT) (fld FPA_INCOMPLETE.COUNT d + missing.length) ∧
        ∀ e, e < 1024 → engRuns e t.dev = true →
          let g := engOf e t.dev
          g.row = some k ∧ g.pc = 0 ∧ g.yielded = false ∧ g.wait = 0 ∧ g.touched = false ∧ g.pubs = [] ∧
          (∀ l, l < 4 → vreg g 0 l = BitVec.ofNat 32 (word (4 * e + l))) ∧
          sreg g 0 = BitVec.ofNat 32 k ∧ sreg g 1 = BitVec.ofNat 32 desc) ∧
    (slateEnds d = true → makes .slateBoundary s fun t =>
      t.dev.sl.slot = 0 ∧ t.dev.sl.slotTick = 0 ∧ t.dev.sl.endDue = false ∧ t.dev.sl.edgeUsed = false ∧
      t.dev.sl.running = true ∧ t.store = s.store ∧
      (isFollower d = false → t.dev.sl.no = nextNo d)) ∧
    (slateEnds d = false → makes .slateBoundary s fun t => t = s)

/-- R75, R76, R441: what an external slate edge does, and what its absence does. SLATE_IN acts on the second tick after it
reaches the pin (log entry 26). -/
def Obligations.ExternalSlateEdges : Prop :=
  ∀ (s : State),
    let d := s.dev
    let n := nslots d
    let ticks := ticksInForce d
    (∀ t0 : Nat, d.sl.running = true → edgeSource d = 1 → fld SLATE_STATUS.LOCK d = 1 → d.sl.edgeUsed = false →
      -- L in ticks, where the slate is in its last blanking slot
      let l := max d.sl.slotTick t0
      (inLastSlot d = true → ticks / 2 ≤ l → l ≤ 3 * ticks / 2 → makes (.slateInEdge t0) s fun t =>
        t.dev.sl.endDue = true ∧ t.dev.sl.edgeUsed = true ∧ t.dev.sl.slotTick = l + 2 ∧ fld SLATE_STATUS.MISSES t.dev = 0 ∧
        t.dev.out = d.out) ∧
      (inLastSlot d = true → 3 * ticks / 2 < l → d.sl.endDue = false → makes (.slateInEdge t0) s fun t =>
        t.dev.sl.endDue = true ∧ countedOnce SLATE_EDGE_CNT.MISSED d t.dev) ∧
      (32 ≤ n → (inLastSlot d = true ∧ l < ticks / 2) ∨ (inLastSlot d = false ∧ n - 16 ≤ d.sl.slot) →
        makes (.slateInEdge t0) s fun t => t.dev.sl.early = true ∧ t.dev.sl.edgeUsed = true ∧ t.dev.sl.endDue = d.sl.endDue ∧
          countedOnce SLATE_EDGE_CNT.EARLY d t.dev) ∧
      (32 ≤ n → d.sl.slot + 1 ≤ n - 16 → makes (.slateInEdge t0) s fun t =>
        t.dev.sl.early = d.sl.early ∧ t.dev.sl.endDue = d.sl.endDue ∧ countedOnce SLATE_EDGE_CNT.STRAY d t.dev)) ∧
    (d.sl.early = true → inLastSlot d = true → d.sl.endDue = false → makes .earlyEdgeRelease s fun t =>
      t.dev.sl.endDue = true ∧ t.dev.sl.slotTick = max d.sl.slotTick (if d.sl.running = true then ticks / 2 else 0) ∧
      t.dev.main = d.main ∧ t.dev.aux = d.aux) ∧
    (fld SLATE_STATUS.LOCK d = 1 → inLastSlot d = true → d.sl.edgeUsed = false → d.sl.endDue = false →
      makes .missedEdgeTimeout s fun t => t.dev.sl.endDue = true ∧ countedOnce SLATE_EDGE_CNT.MISSED d t.dev ∧
        countedOnce SLATE_STATUS.MISSES d t.dev ∧
        fld SLATE_STATUS.LOCK t.dev = if 3 ≤ fld SLATE_STATUS.MISSES d + 1 then 2 else 1) ∧
    (fld SLATE_STATUS.LOCK d = 2 → d.sl.relock = true → inLastSlot d = true → d.sl.endDue = false →
      makes .heldSlotTimeout s fun t => t.dev.sl.endDue = true ∧ t.dev.sl.relock = false ∧
        t.dev.main = d.main ∧ t.dev.aux = d.aux)

/-- R80, R93: the time and number requests, and the herd's settings, as they are written. -/
def Obligations.SlateAndHerdWritesAwaitTheBoundary : Prop :=
  ∀ (s : State) (p : Path) (v : BitVec 32),
    let d := s.dev
    reachable d →
    (makes (.loadTime p v) s fun t => t = { s with dev := { d with sl := { d.sl with
      loadTime := true, stepTime := d.sl.stepTime || bitN v.toNat 1, loadNo := d.sl.loadNo || bitN v.toNat 2 } } }) ∧
    (makes (.stepTime p v) s fun t => t = { s with dev := { d with sl := { d.sl with
      loadTime := d.sl.loadTime || bitN v.toNat 0, stepTime := true, loadNo := d.sl.loadNo || bitN v.toNat 2 } } }) ∧
    (makes (.loadNo p v) s fun t => t = { s with dev := { d with sl := { d.sl with
      loadTime := d.sl.loadTime || bitN v.toNat 0, stepTime := d.sl.stepTime || bitN v.toNat 1, loadNo := true } } }) ∧
    (getBits (valueLeft HERD_CFG.addr v d) 19 16 ≠ 0 →
      makes (.herdCfgWrite p v) s (fun t => rdReg HERD_CFG.addr t.dev = valueLeft HERD_CFG.addr v d) ∧
      (isFollower d = false ∨ herdOn d = false ∨ getBits (valueLeft HERD_CFG.addr v d) 0 0 = 1 →
        makes (.herdCfgWrite p v) s fun t => regsKeptBut [HERD_CFG.addr] d t.dev ∧
          t = { s with dev := { d with main := t.dev.main } }) ∧
      (isFollower d = true → herdOn d = true → getBits (valueLeft HERD_CFG.addr v d) 0 0 = 0 →
        makes (.herdCfgWrite p v) s fun t => herdOn t.dev = false ∧ isFollower t.dev = false ∧ t.dev.herd.leader = none ∧
          t.dev.herd.req = none)) ∧
    (getBits (valueLeft HERD_CFG.addr v d) 19 16 = 0 → makes (.herdCfgWrite p v) s fun t =>
      rdReg HERD_CFG.addr t.dev = rdReg HERD_CFG.addr d)

/-- R75, R83 to R86, R91: CLAPPER and elections. The number that a follower gives the leader's next slate, and that a member
which takes no part learns the leader's position from its SLATE_INFO, are the model's choices (log entries 26 and 27). -/
def Obligations.ClapperAndElections : Prop :=
  ∀ (s : State),
    let d := s.dev
    (∀ ns t0 : Nat, herdOn d = true → d.sl.running = true →
      (20000 ≤ ns → d.herd.elect = none → makes (.clapperEdge ns t0) s fun t =>
        t.dev.herd.elect = some { cell := 0, stays := participates d, won := 0 } ∧
        flag HERD_STATUS.ELECTING t.dev = true) ∧
      (4000 ≤ ns → ns < 20000 → makes (.clapperEdge ns t0) s fun t =>
        countedOnce SLATE_EDGE_CNT.INVALID d t.dev ∧ t.dev.herd = d.herd) ∧
      (250 ≤ ns → ns < 4000 → d.herd.elect = none → isLeader d = false → makes (.clapperEdge ns t0) s fun t =>
        t.dev.herd.number = d.herd.number.map (fun n => (n + 1) % 2 ^ 48) ∧
        -- the edge ends the slate of a locked follower
        (edgeSource d = 2 → fld SLATE_STATUS.LOCK d = 1 → d.sl.edgeUsed = false → inLastSlot d = true →
          let ticks := ticksInForce d
          let l := max d.sl.slotTick t0
          ∀ k, followK d = some k → (k = 1 ∨ ∃ n, d.herd.number = some n ∧ (n + 1) % 2 ^ 48 % k = 0) →
            ticks / 2 ≤ l → l ≤ 3 * ticks / 2 →
              t.dev.sl.endDue = true ∧ t.dev.sl.edgeUsed = true ∧ t.dev.sl.slotTick = l ∧ fld SLATE_STATUS.MISSES t.dev = 0)) ∧
      (ns < 250 → makes (.clapperEdge ns t0) s fun t =>
        t = { s with dev := { d with sl := t.dev.sl } } ∧ t.dev.sl.endDue = d.sl.endDue)) ∧
    (participates d = true → d.herd.elect = none → electionCase d = true → makes .electionInitiate s fun t =>
      t.dev.out = d.out ++ [.clapper 40] ∧ t.dev.herd.elect = some { cell := 0, stays := true, won := 0 } ∧
      flag HERD_STATUS.ELECTING t.dev = true) ∧
    (∀ (low : Bool) (e : Election), d.herd.elect = some e → e.cell < 4 →
      let bit := bitN (posOf d) (3 - e.cell)
      let line := (e.stays && !bit) || low
      makes (.electionBitCell low) s fun t =>
        t.dev.out = d.out ++ (if e.stays = true ∧ bit = false then [.clapper 18] else []) ∧
        t.dev.herd.elect = some { cell := e.cell + 1, stays := e.stays && !(bit && line)
                                  won := e.won + (if line = true then 0 else 2 ^ (3 - e.cell)) }) ∧
    (∀ e : Election, d.herd.elect = some e → 4 ≤ e.cell → mainRuns d = true → makes .electionEnd s fun t =>
      t.dev.herd.elect = none ∧ flag HERD_STATUS.ELECTING t.dev = false ∧ raised 20 t ∧
      (e.stays = true → isLeader t.dev = true ∧ t.dev.herd.leader = some (posOf d) ∧
        fld HERD_STATUS.LEADER_POS t.dev = posOf d % 16) ∧
      (e.stays = false → isLeader t.dev = false ∧
        (participates d = true → t.dev.herd.leader = some e.won ∧ fld HERD_STATUS.LEADER_POS t.dev = e.won % 16) ∧
        -- all others, those that took no part among them, follow unlocked
        (participates d = false → t.dev.herd.leader = none) ∧
        (isFollower d = true ∨ isLeader d = true → isFollower t.dev = true ∧ (d.sl.running = true →
          fld SLATE_STATUS.LOCK t.dev = if flag HERD_STATUS.RATE_MISMATCH d = true then 0 else 2))))

/-- R84, R87 to R90: lane messages that reach a member. The model's choices (log entry 27): a leader that hears a lower position
follows it, grants to come count against MAX_BLIND, and a grant without a request is of trigger HERD. The DEST of a broadcast
is that of log entry 61. -/
def Obligations.HerdLaneMessages : Prop :=
  ∀ (s : State) (origin : Fin 16) (seq : Fin 256),
    let d := s.dev
    let forwarded (typ dest : Nat) (b : Bool) (l : List Nat) (t : State) : Prop :=
      Out.herd ⟨typ, origin.val, dest, b, seq.val, l⟩ ∈ t.dev.out
    (∀ hid st ticks slots serial taking stripe, laneMeant origin.val 0 true d →
      makes (.roster origin seq hid st taking ticks slots stripe serial) s fun t =>
        forwarded 1 0 true [hid, st, b2n taking, ticks, slots, b2n stripe, serial] t ∧
        mfind t.dev.herd.members origin.val = some { age := 0, taking := taking, period := ticks * slots } ∧
        (hid ≠ hcFld HERD_CFG.HERD_ID d → flag HERD_STATUS.DUP t.dev = true)) ∧
    (∀ hid st ticks slots serial taking stripe, herdOn d = true → mainRuns d = true → origin.val = posOf d →
      serialNo d < serial ∨ hid ≠ hcFld HERD_CFG.HERD_ID d → makes (.roster origin seq hid st taking ticks slots stripe serial) s fun t =>
        flag HERD_STATUS.DUP t.dev = true) ∧
    (∀ no start blind : Nat, laneMeant origin.val 0 true d → (isLeader d = false ∨ origin.val < posOf d) →
      makes (.slateInfo origin seq no start blind) s fun t => forwarded 2 0 true [no, start, blind] t ∧
        isLeader t.dev = false ∧ t.dev.herd.leader = some origin.val ∧ t.dev.herd.number = some no ∧
        fld HERD_STATUS.LEADER_POS t.dev = origin.val) ∧
    (∀ (dest : Fin 16) (auto : Bool) (k : Nat), laneMeant origin.val dest.val false d → isLeader d = true →
      flag HERD_STATUS.DUP d = false → memberK origin.val d = some k →
      (blindAllows d = true → makes (.takeReq origin seq dest auto) s fun t =>
        (origin.val, grantSlate k d) ∈ t.dev.herd.blind ∧
        Out.herd ⟨4, posOf d, origin.val, false, d.herd.seq, [grantSlate k d]⟩ ∈ t.dev.out) ∧
      (blindAllows d = false → auto = false → makes (.takeReq origin seq dest auto) s fun t =>
        t.dev.herd.blind = d.herd.blind ∧
        Out.herd ⟨5, posOf d, origin.val, false, d.herd.seq, [hdFULL]⟩ ∈ t.dev.out)) ∧
    -- a member with DUP set is refused every take
    (∀ (dest : Fin 16) (start : Nat), laneMeant origin.val dest.val false d → flag HERD_STATUS.DUP d = true →
      makes (.takeGrant origin seq dest start) s fun t => t.dev.herd.req = none ∧ t.dev.take.next = d.take.next) ∧
    (∀ (dest : Fin 16) (start : Nat), laneMeant origin.val dest.val false d → isLive d = true → inTake d = false →
      d.take.next = none → flag HERD_STATUS.DUP d = false →
      let mode := resolveMode ((d.herd.req.map (·.mode)).getD 0) d
      modeRefused mode d = false → makes (.takeGrant origin seq dest start) s fun t =>
        t.dev.herd.req = none ∧
        t.dev.take.next = some { mode := mode, req := (d.herd.req.map (·.mode)).getD 0,
                                  trigger := (d.herd.req.map (·.trigger)).getD 3, s := start }) ∧
    (∀ (dest : Fin 16) (reason : Fin 3), laneMeant origin.val dest.val false d → d.herd.req.isSome = true →
      makes (.takeDeny origin seq dest reason) s fun t =>
        t.dev.herd.req = none ∧ flag HERD_STATUS.TAKE_PENDING t.dev = false ∧ raised 24 t) ∧
    (∀ (dest : Fin 16) (abandoned : Bool), laneMeant origin.val dest.val false d → isLeader d = true →
      d.herd.queue = [] → makes (.takeDone origin seq dest abandoned) s fun t =>
        t.dev.herd.blind = d.herd.blind.filter (fun x => x.1 != origin.val)) ∧
    (∀ (slate : Nat) (l r tp b : Fin 65536), laneMeant origin.val 0 true d →
      makes (.seam origin seq slate l r tp b) s fun t =>
        forwarded 7 0 true [slate, l.val, r.val, tp.val, b.val] t ∧
        fld (HERD_SEAM0.LEFT origin.val) t.dev = l.val ∧ fld (HERD_SEAM0.RIGHT origin.val) t.dev = r.val ∧
        fld (HERD_SEAM1.TOP origin.val) t.dev = tp.val ∧ fld (HERD_SEAM1.BOTTOM origin.val) t.dev = b.val)

/-- R88, R89, R91: the lane's errors, and the herd's time limits. -/
def Obligations.HerdLimitsAndSchedule : Prop :=
  ∀ (s : State),
    let d := s.dev
    (∀ w, mainRuns d = true → herdOn d = true →
      (laneCrcOk w = false → makes (.herdMessageBadCrc w) s fun t =>
        countedOnce HERD_LANE_ERR.CRC d t.dev ∧ t.dev.herd = { d.herd with crcs := d.herd.crcs + 1 } ∧
        (d.herd.crcs + 1 = 16 → raised 23 t)) ∧
      (laneCrcOk w = true → (w.getD 1 0).toNat / 16 ≠ posOf d →
        ((w.getD 0 0).toNat = 0 ∨ 7 < (w.getD 0 0).toNat → makes (.herdMessageBadCrc w) s fun t =>
          t = { s with dev := { d with out := d.out ++ [.herdRaw (w.take 24)] } }))) ∧
    (mainRuns d = true → flag HERD_STATUS.LANE_UP d = true → makes .herdLaneLoss s fun t =>
      flag HERD_STATUS.LANE_UP t.dev = false ∧ countedOnce HERD_LANE_ERR.LOS d t.dev ∧ raised 23 t) ∧
    (mainRuns d = true → flag HERD_STATUS.LANE_UP d = false → makes .laneUp s fun t =>
      flag HERD_STATUS.LANE_UP t.dev = true ∧ raised 23 t) ∧
    (makes .rosterTimeout s fun t =>
      t.dev.herd = { d.herd with members := d.herd.members.filter (fun m => decide (m.2.age < 8)) }) ∧
    (∀ r, d.herd.req = some r → 4 ≤ r.age → (isLeader d = false ∨ d.herd.queue.any (fun x => x.1 == posOf d) = false) →
      mainRuns d = true → makes .takeReqTimeout s fun t =>
        t.dev.herd.req = none ∧ flag HERD_STATUS.TAKE_PENDING t.dev = false ∧ raised 24 t) ∧
    (∀ x, d.herd.queue.find? (fun x => decide (fld HERD_TAKE.WAIT d ≤ x.2)) = some x → isLeader d = true →
      x.1 ≠ posOf d → herdOn d = true → mainRuns d = true → flag HERD_STATUS.DUP d = false →
      makes .waitExpired s fun t =>
        t.dev.herd.queue = d.herd.queue.filter (fun y => y.1 != x.1) ∧
        Out.herd ⟨5, posOf d, x.1, false, d.herd.seq, [hdWAIT_EXPIRED]⟩ ∈ t.dev.out) ∧
    (∀ k : Nat, isLeader d = true → fld HERD_TAKE.SCHED_PERIOD d ≠ 0 →
      fld HERD_TAKE.SCHED_PERIOD d ≤ d.herd.schedAge → blindAllows d = true →
      let p := ((presentPos d).find? (fun p => decide (d.herd.sched < p))).getD ((presentPos d).headD 0)
      memberK p d = some k → makes .scheduleGrant s fun t =>
        t.dev.herd.sched = p ∧ t.dev.herd.schedAge = 0 ∧ (p, grantSlate k d) ∈ t.dev.herd.blind)

/-- R80, R175 to R178, R181, R193, R195: the take logic's time limits, and the motion bits. The model's choices (log entry 28):
GATE_LIVE reads 0 in the slate of the write, and what an end of the shutter's time leaves in TAKE_STATUS.SHUTTER. -/
def Obligations.TakeTimersAndMotionBits : Prop :=
  ∀ (s : State),
    let d := s.dev
    let asked : Prop := herdOn d = false ∧ isFollower d = false ∧ modeRefused (resolveMode 0 d) d = false ∧ takeBusy d = false
    (tkFld TAKE_CFG.INTERVAL d ≠ 0 → isLive d = true → inTake d = false →
      (d.take.hold = true → makes .intervalTrigger s fun t =>
        t = { s with dev := { d with take := { d.take with due := true } } }) ∧
      (d.take.hold = false → asked → makes .intervalTrigger s fun t =>
        t.dev.take.next = some { mode := resolveMode 0 d, req := 0, trigger := 1, s := nextNo d })) ∧
    (d.take.hold = true →
      (d.take.due = false → makes .minGapEnd s fun t =>
        t = { s with dev := { d with take := { d.take with hold := false } } }) ∧
      (d.take.due = true → isLive d = true → tkFld TAKE_CFG.INTERVAL d ≠ 0 → asked → makes .minGapEnd s fun t =>
        t.dev.take.hold = false ∧
        t.dev.take.next = some { mode := resolveMode 0 d, req := 0, trigger := 1, s := nextNo d })) ∧
    (inTake d = true → d.take.shReq = 1 → makes .takeShutterTimeout s fun t =>
      t.dev.take = { d.take with shReq := 0, cause := (if d.take.cause = 0 then 4 else d.take.cause), shPos := 3
                                 shMove := (false, false), stopOpen := false } ∧
      fld TAKE_STATUS.SHUTTER t.dev = 3 ∧ regsKeptBut [TAKE_STATUS.addr] d t.dev) ∧
    (makes .depotLExpiry s fun t => flag TAKE_DEPOT.LO_VALID t.dev = false ∧ regsKeptBut [TAKE_DEPOT.addr] d t.dev ∧
      t.dev.take = d.take) ∧
    (∀ a, d.take.gateAge = some a → tkFld TAKE_ST_LIFE.LIFE d < a → makes .stgateLifeExpiry s fun t =>
      t.dev.take = { d.take with gateAge := none } ∧ flag TAKE_STATUS.GATE_LIVE t.dev = false ∧
      regsKeptBut [TAKE_STATUS.addr] d t.dev) ∧
    (∀ (p : Path) (n : Fin 6) (v : BitVec 32), reachable d → makes (.takeStgateWrite p n v) s fun t =>
      rdReg (TAKE_STGATE.addr n.val) t.dev = v ∧ t.dev.take = { d.take with gateAge := some 0 } ∧
      flag TAKE_STATUS.GATE_LIVE t.dev = false ∧ regsKeptBut [TAKE_STGATE.addr n.val, TAKE_STATUS.addr] d t.dev)

/-! ### Focal plane, engine actions and the loader -/

/-- R22, R46, R54, R57, R63: settings of the focal plane are staged, and group actions wait for the decision point. -/
def Obligations.FocalPlaneSettingsAreStaged : Prop :=
  ∀ (s : State) (p : Path) (v : BitVec 32),
    let d := s.dev
    let staged (c : Instr) (a : Nat) : Prop :=
      makes c s fun t =>
        rdReg a t.dev = valueLeft a v d ∧ flag FPA_STATUS.PENDING t.dev = true ∧
        (∀ f, f ∈ [FPA_STATUS.INT_STEPS, FPA_STATUS.STRIPE, FPA_STATUS.GAIN, FPA_STATUS.RATE] → fld f t.dev = fld f d) ∧
        t.dev.sl = d.sl ∧ t.dev.en = d.en ∧
        (inTake d = false → regsKeptBut [a, FPA_STATUS.addr] d t.dev ∧ t = { s with dev := { d with main := t.dev.main } }) ∧
        (inTake d = true → flag FPA_STATUS.HELD_BY_TAKE t.dev = true ∧ (d.fpa.announced = false → raised 49 t))
    let refused (c : Instr) (a : Nat) : Prop :=
      makes c s fun t => rdReg a t.dev = rdReg a d ∧ rdReg FPA_STATUS.addr t.dev = rdReg FPA_STATUS.addr d ∧
        t = { s with dev := note 32 [a, v.toNat] d }
    let acts (c : Instr) (k : Nat) : Prop :=
      makes c s fun t =>
        let n := v.toNat % 128
        (grp n t.dev).act = k ∧ grp n t.dev = { grp n d with act := k } ∧ (∀ j, j ≠ n → grp j t.dev = grp j d) ∧
        t = { s with dev := { d with fpa := { d.fpa with groups := t.dev.fpa.groups } } }
    reachable d →
    (fpaModeOk (valueLeft FPA_MODE.addr v d) = true → staged (.fpaModeWrite p v) FPA_MODE.addr) ∧
    (fpaModeOk (valueLeft FPA_MODE.addr v d) = false → refused (.fpaModeWrite p v) FPA_MODE.addr) ∧
    (32 ≤ (valueLeft FPA_INT.addr v d).toNat % 256 → (valueLeft FPA_INT.addr v d).toNat % 256 ≤ 128 →
      staged (.fpaIntWrite p v) FPA_INT.addr) ∧
    ((valueLeft FPA_INT.addr v d).toNat % 256 < 32 ∨ 128 < (valueLeft FPA_INT.addr v d).toNat % 256 →
      refused (.fpaIntWrite p v) FPA_INT.addr) ∧
    acts (.groupReset p v) 1 ∧ acts (.groupDisable p v) 2 ∧ acts (.groupEnable p v) 3

/-- R106, R142, R144, R145, R147, R262, R449: RESTART waits for the boundary and acts on a FAULTED engine only, FORCE_FAULT acts
at once; the loader's commands, and its tests in their order. The model's choices: what GEN and TARGET a REFUSAL carries (log
entry 34), which word a test of the structure names (log entry 20) and what a SKIP range may end on (log entry 68). -/
def Obligations.EngineActionsAndLoaderCommands : Prop :=
  ∀ (s : State) (p : Path) (v : BitVec 32),
    let d := s.dev
    let e := v.toNat % 1024
    let st := engState e d
    let busy (x : Dev) : Bool := flag ENGP_STATUS.BUSY x
    let taken (c : Instr) (k : Nat) : Prop :=
      makes c s fun t => busy t.dev = true ∧ t.dev.en.copyKind = k ∧ t.dev.en.copyH = rdReg ENGP_HDR.addr d ∧
        (∀ n, n < 768 → wordAt t.dev.en.copyW n = rdReg (ENGP_IMG.addr n) d) ∧ t.dev.en.engs = d.en.engs ∧
        regsKeptBut [ENGP_STATUS.addr] d t.dev
    (reachable d →
    (engpLegal d = true → st = enFAULT → makes (.restart p v) s fun t =>
      onlyEngine e s t ∧ engOf e t.dev = { engOf e d with restart := true }) ∧
    (engpLegal d = true → st ≠ enFAULT → makes (.restart p v) s fun t =>
      t = { s with dev := refuseRegT 1 PIPE_ENG_CTRL.addr 0 e (fld (ENG_STATE.GEN e) d) d }) ∧
    (engpLegal d = true → st < 3 ∨ st = enWARM → makes (.forceFault p v) s fun t =>
      faultedWith e 4 t ∧ (∀ n, n ≠ e → engOf n t.dev = engOf n d) ∧
      (engOf e t.dev).cards = (engOf e d).cards ∧ (engOf e t.dev).data = (engOf e d).data ∧
      (engOf e t.dev).restart = false) ∧
    (engpLegal d = false → makes (.restart p v) s (fun t => t = { s with dev := refuseRegT 1 PIPE_ENG_CTRL.addr 0 e (fld (ENG_STATE.GEN e) d) d }) ∧
      makes (.forceFault p v) s (fun t => t = { s with dev := refuseRegT 2 PIPE_ENG_CTRL.addr 0 e (fld (ENG_STATE.GEN e) d) d }))) ∧
    (reachable d → busy d = false →
      taken (.engpCheck p v) 1 ∧
      (engpLegal d = true → taken (.engpLoad p v) 2) ∧
      (engpLegal d = true → makes (.engpRemove p v) s fun t =>
        busy t.dev = true ∧ flag ENGP_STATUS.PENDING t.dev = true ∧ flag ENGP_STATUS.HELD_BY_TAKE t.dev = inTake d ∧
        t.dev.en.copyKind = 3 ∧ t.dev.en.copyW = [] ∧ t.dev.en.engs = d.en.engs) ∧
      (engpLegal d = false → makes (.engpLoad p v) s fun t =>
        fld ENGP_STATUS.RESULT t.dev = 0xA ∧ busy t.dev = false ∧ t.dev.en = d.en)) ∧
    (reachable d → busy d = true →
      makes (.engpCheck p v) s (fun t => t = { s with dev := refuseReg 1 ENGP_CMD.addr 0 d }) ∧
      makes (.engpLoad p v) s (fun t => t = { s with dev := refuseReg 2 ENGP_CMD.addr 0 d }) ∧
      makes (.engpRemove p v) s (fun t => t = { s with dev := refuseReg 3 ENGP_CMD.addr 0 d })) ∧
    (reachable d → makes (.engpPeek p v) s fun t =>
      t = { s with dev := { d with en := { d.en with peek := some (v.toNat % 1024, false) } } }) ∧
    (busy d = true → flag ENGP_STATUS.PENDING d = false → makes .engpTestDone s fun t =>
      let n := d.en.copyH.toNat % 1024
      let budget := d.en.copyH.toNat / 2 ^ 16 % 512
      let w (i : Nat) : BitVec 32 := wordAt (d.en.copyW.take n) i
      let res := fld ENGP_STATUS.RESULT t.dev
      let at_ := fld ENGP_STATUS.ERR_WORD t.dev
      let op (i : Nat) : Nat := fb (w i) 31 26
      -- word `i` fails test `k`
      let bad (k i : Nat) : Prop :=
        if k = 3 then encLegal (w i) = false
        else if k = 4 then op i ∈ [0x38, 0x3A, 0x3B, 0x3F] ∨ (op i = 0x3E ∧ fb (w i) 0 0 = 0) ∨
          (op i ∈ [0x34, 0x35, 0x36] ∧ fb (w i) 13 12 ≠ 3)
        else if k = 5 then (∃ r ∈ wV (w i), 1 ≤ r ∧ r ≤ 7) ∨ (∃ r ∈ wS (w i), r = 2 ∨ r = 3) ∨ ∃ r ∈ wP (w i), r < 2
        else wBroken (d.en.copyW.take n) i = true
      let sized : Prop := 1 ≤ n ∧ n ≤ 768
      let passes (k : Nat) : Prop := ∀ i, i < n → ¬ bad k i
      let path := worstPath (d.en.copyW.take n)
      (res = 2 ↔ ¬ sized) ∧
      (∀ k ∈ [3, 4, 5, 6], sized → (∀ j, 3 ≤ j → j < k → passes j) → ¬ passes k →
        res = k ∧ at_ < n ∧ bad k at_ ∧ ∀ i, i < at_ → ¬ bad k i) ∧
      (sized → (∀ j ∈ [3, 4, 5, 6], passes j) →
        res = (if budget < path then 7 else if 384 < budget then 8 else if fld PIPE_STATUS.AVAIL d < 208 + budget then 9 else 1) ∧
        fld ENGP_WORST.WORST t.dev = min 0xFFFF path) ∧
      (2 ≤ res → res ≤ 6 → fld ENGP_WORST.WORST t.dev = 0xFFFF) ∧
      (busy t.dev = true ↔ d.en.copyKind = 2 ∧ res = 1) ∧ (flag ENGP_STATUS.PENDING t.dev = true ↔ d.en.copyKind = 2 ∧ res = 1) ∧
      t = { s with dev := { d with main := t.dev.main } } ∧ regsKeptBut [ENGP_STATUS.addr, ENGP_WORST.addr] d t.dev)

/-- R301: how the field companion leaves field SAFE. -/
def Obligations.FieldSafeEndsAtAHeartbeat : Prop :=
  ∀ (s : State) (m : XMsg),
    let d := s.dev
    let f := d.fl
    (fieldArrives 0x01 d = some m → f.mode = 0 → f.low = false → f.die = false → makes .hbeatH s fun t =>
      onlyField s t ∧ t.dev.fl.mode = 1) ∧
    -- VVEH_LOW or DIE_TEMP keeps it there
    (fieldArrives 0x01 d = some m → f.mode = 0 → f.low = true ∨ f.die = true → makes .hbeatH s fun t =>
      onlyField s t ∧ t.dev.fl.mode = 0 ∧ t.dev.fl.low = f.low ∧ t.dev.fl.die = f.die) ∧
    -- the host end sends no HBEAT_H in SAFE
    (mstate d = stSAFE → makes .hbeatHSend s fun t => t = s)

/-! ### The link and the register paths -/

/-- R19, R20, R22, R307: writes and reads of registers. -/
def Obligations.RegisterAccesses : Prop :=
  ∀ (s : State) (p : Path) (v : BitVec 32),
    let d := s.dev
    reachable d →
    (∀ a, a ∈ plainRegs →
      (encodingAt a (valueLeft a v d) d = true → makes (.registerWrite (.word p v) a) s fun t =>
        rdReg a t.dev = valueLeft a v d ∧ regsKeptBut [a] d t.dev ∧
        t = { s with dev := { d with main := t.dev.main, aux := t.dev.aux } }) ∧
      (encodingAt a (valueLeft a v d) d = false → makes (.registerWrite (.word p v) a) s fun t =>
        rdReg a t.dev = rdReg a d ∧ t = { s with dev := noteReserved a v d })) ∧
    -- a 1 clears a W1C bit, a 0 and any other bit has no effect
    (∀ x : Nat × BitVec 32, x ∈ [(CAL_RD_STATUS.addr, 0x60000000#32), (NVS_STATUS.addr, 0x40000000#32), (FLP_STATUS.addr, 0x40000000#32),
        (MGP_STATUS.addr, 0x1FE#32), (MGP_LOG.addr, 0x80000000#32), (MGP_ATTN.addr, 0x1F#32), (ENGP_STATUS.addr, 0x40#32)] ++
          (List.range 8).map (fun k => (EVT_STAT.addr k, 0xFFFFFFFF#32)) →
      makes (.registerWrite (.word p v) x.1) s fun t =>
        rdReg x.1 t.dev = rdReg x.1 d &&& ~~~(v &&& x.2) ∧ regsKeptBut [x.1] d t.dev ∧
        t = { s with dev := { d with main := t.dev.main, aux := t.dev.aux } }) ∧
    (v.getLsbD 4 = false → makes (.registerWrite (.word p v) EVT_VIOL_CNT.addr) s fun t =>
      rdReg EVT_VIOL_CNT.addr t.dev = rdReg EVT_VIOL_CNT.addr d &&& ~~~0x10#32 &&& ~~~(v &&& 0x8000#32) ∧
      regsKeptBut [EVT_VIOL_CNT.addr] d t.dev) ∧
    -- a register that has only RO and RC fields takes no write
    (∀ a r, regInfo a = some r → target p a true d = .reg → r.rw = 0 → r.w1c = 0 → r.wo = 0 →
      makes (.registerWrite (.word p v) a) s fun t => t = s) ∧
    -- a pair takes effect with its high word, and with the low word that the path has written
    (∀ a ∈ [SLATE_TLOAD_LO.addr, RING_CTX.addr 0],
      (∀ lo : BitVec 32, (pathRegs p d).low = [(a, lo)] → makes (.registerWrite (.word p v) (a + 4)) s fun t =>
        rdReg a t.dev = lo ∧ rdReg (a + 4) t.dev = v) ∧
      makes (.registerWrite (.word p v) a) s fun t =>
        mfind (pathRegs p t.dev).low a = some v ∧ t.dev.main = d.main ∧ t.dev.aux = d.aux) ∧
    (∀ a r, regInfo a = some r → target p a false d = .reg → r.base ≠ RING_CNT.addr → mirrorAddr a = false →
      pairLow a d = false → mfind (pathRegs p d).high a = none →
      makes (.registerReadClear (.word p) a) s fun t =>
        t.dev.readData = (regView p a d).setWidth 64 ∧ rdReg a t.dev = rdReg a d &&& ~~~ r.rc ∧
        regsKeptBut [a] d t.dev) ∧
    (makes (.registerReadClear (.word p) RING_CNT.addr) s fun t =>
      let n := fld RING_SEL.RING d
      ring n t.dev = { ring n d with dropped := 0, overflow := 0 } ∧ t.dev.main = d.main) ∧
    -- a read of the low word latches the high word, which every later read of the high word returns
    (∀ a, pairLow a d = true → target p a false d = .reg → mfind (pathRegs p d).high a = none →
      makes (.lowWordRead p a) s fun t =>
        t.dev.readData = (regView p a d).setWidth 64 ∧ mfind (pathRegs p t.dev).high (a + 4) = some (regView p (a + 4) d) ∧
        regsKeptBut [] d t.dev ∧ readValue p (a + 4) t.dev = regView p (a + 4) d) ∧
    (∀ a x, pairLow a d = true → target p (a + 4) false d = .reg → mfind (pathRegs p d).high (a + 4) = some x →
      makes (.registerReadClear (.word p) (a + 4)) s fun t =>
        t.dev.readData = x.setWidth 64 ∧ mfind (pathRegs p t.dev).high (a + 4) = some x) ∧
    (∀ (k : Fin 128) (r : RegInfo), regInfo (0xD100 + 4 * k.val) = some r → mfind (pathRegs p d).high (0xD100 + 4 * k.val) = none →
      pairLow (0xD100 + 4 * k.val) d = false → makes (.mirrorRead p k) s fun t =>
        t.dev.readData = (regView p (0xD100 + 4 * k.val) d).setWidth 64 ∧
        getBits (pathRegs p t.dev).mread FLD_MREAD.GEN.hi FLD_MREAD.GEN.lo = mirGen k.val t.dev % 256 ∧
        getBits (pathRegs p t.dev).mread FLD_MREAD.AGE.hi FLD_MREAD.AGE.lo = mirAge k.val t.dev)

/-- R222 to R226, R257: what the link brings, and accesses that nothing serves. The model's choices: speed and width 0 while the
link is down, and source 168 on a change alone (log entry 35), the masks of the BARs and the capability values (log entry 56),
and the configuration that the link keeps (log entry 21). -/
def Obligations.LinkChangesAndUnservedAccesses : Prop :=
  ∀ (s : State),
    let d := s.dev
    let l := d.link
    let keeps (t : State) : Prop := t.dev.aux = d.aux ∧ t.dev.sl = d.sl ∧ t.dev.en = d.en ∧ t.store = s.store
    (∀ q : CfgReq, mstate d = stRESET → makes (.configRequest q) s fun t =>
      t = { s with dev := { d with out := d.out ++ [.retry] } }) ∧
    (mainRuns d = true →
      makes (.configRequest .other) s (fun t => t = s) ∧
      (∀ x v, (x, v) ∈ [(CfgItem.classCode, 0x118000), (.vendorId, 0x1D7E), (.deviceId, 0x8840 + d.pw.strap),
          (.bar 4, 0), (.bar 5, 0), (.expansionRom, 0), (.msixVectors, 256), (.msixTable, 0x80000), (.msixPba, 0x81000), (.aspm, 2), (.d1d2, 0),
          (.serialNumber, pair64 GLB_SERIAL_LO.addr GLB_SERIAL_HI.addr d)] →
        makes (.configRequest (.read x)) s fun t => t = { s with dev := { d with out := d.out ++ [.cfgData v] } }) ∧
      (∀ (n : Fin 6) (v : BitVec 32), l.bars.length = 4 → n.val < 4 → makes (.configRequest (.bar n v)) s fun t =>
        t = { s with dev := { d with link := { l with bars := t.dev.link.bars } } } ∧
        t.dev.link.bars.getD n.val 0 = (if n.val = 0 then v &&& 0xFFF00000#32 else if n.val = 2 then v &&& 0xFFE00000#32 else v) ∧
        ∀ k, k ≠ n.val → t.dev.link.bars.getD k 0 = l.bars.getD k 0) ∧
      (∀ b : Bool, makes (.configRequest (.busMaster b)) s fun t => t.dev.link = { l with busMaster := b } ∧ keeps t) ∧
      (∀ b : Bool, makes (.configRequest (.power b)) s fun t => t.dev.link = { l with d3hot := b } ∧ keeps t) ∧
      (∀ b c : Bool, makes (.configRequest (.msix b c)) s fun t =>
        t.dev.link = { l with msixEnable := b, functionMask := c } ∧ keeps t) ∧
      (∀ (up : Bool) (sp w : Fin 5), (l.up, l.speed, l.width) ≠ (up, (if up then sp.val else 0), (if up then w.val else 0)) →
        makes (.linkStateChange up sp w) s fun t =>
          t.dev.link = { l with up := up, speed := if up then sp.val else 0, width := if up then w.val else 0 } ∧
          raised 168 t ∧ keeps t) ∧
      (∀ (write bar2 : Bool) (a : Nat) (req : Fin 65536), makes (.unservedAccess write bar2 a req) s fun t =>
        let n := fld EVT_VIOL_CNT.NEXT d
        rdReg (EVT_VIOL0.addr n) t.dev = BitVec.ofNat 32 (a % 2 ^ 32) ∧
        rdReg (EVT_VIOL1.addr n) t.dev = BitVec.ofNat 32 (a / 2 ^ 32) ∧
        rdReg (EVT_VIOL2.addr n) t.dev = BitVec.ofNat 32 ((if write then 2 else 1) * 2 ^ 28 + b2n bar2 * 2 ^ 24 + req.val) ∧
        raised 254 t ∧ countedOnce EVT_VIOL_CNT.TOTAL d t.dev ∧
        (write = false → .unsupported ∈ t.dev.out) ∧ keeps t))

/-! ### Calibration cards -/

/-- R158, R159, R161, R162, R168, R169: what the card-load blocks do to their engine. -/
def Obligations.CardLoadBlocksActOnTheirEngine : Prop :=
  ∀ (s : State) (r : Fin 262144) (j : CardJob),
    let d := s.dev
    let h := blkHdr j.rest
    let e := h.e
    let g := engOf e d
    let pay := (j.rest.drop 32).take (16 * h.count)
    let ents := entriesOf h.count pay
    let due : Prop := ¬ (h.checkGen = true ∧ h.gen ≠ fld (ENG_STATE.GEN e) d) ∧ engState e d ≠ enFAULT
    let others (t : State) : Prop := ∀ n, n ≠ e → engOf n t.dev = engOf n d
    let staged (c : Instr) : Prop := makes c s fun t =>
      engOf e t.dev = { g with ledger := g.ledger ++ ents.map (fun x => x.1) } ∧ others t ∧
      ∀ n, card (engOf e t.dev) n = card g n
    cardJob r.val d = some j →
    (h.kind = 1 → due → (crc32 pay).toNat = h.crc → (∀ x ∈ ents, x.2 = true) →
      (g.ledger.length + h.count ≤ 1024 →
        (j.wait = 0 → staged (.cardLoadEntries r)) ∧ (j.wait = 1 → staged (.ledgerWaitResume r))) ∧
      (1024 < g.ledger.length + h.count → j.wait = 0 → mainRuns d = true → makes (.cardLoadEntries r) s fun t =>
        cardJob r.val t.dev = some { j with wait := 1, compared := true } ∧ flag CAL_STATUS.LEDGER_FULL t.dev = true ∧ raised 129 t ∧
        t.dev.en = d.en)) ∧
    (h.kind = 1 → j.wait = 0 → due → ((crc32 pay).toNat ≠ h.crc ∨ ∃ x ∈ ents, x.2 = false) →
      makes (.cardLoadEntries r) s fun t => cardJob r.val t.dev = none ∧ t.dev.en = d.en) ∧
    (h.kind = 1 → j.wait = 0 → j.compared = false → ¬ due → makes (.cardLoadEntries r) s fun t =>
      cardJob r.val t.dev = none ∧ t.dev.en = d.en) ∧
    (∀ k : Fin 12357, h.kind = 2 → j.wait = 0 → due → inTake d = false → makes (.cardLoadBulk r k) s fun t =>
      (engOf e t.dev).ledger = [] ∧ (engOf e t.dev).bulkWriting = true ∧ (engOf e t.dev).bulkOwed = true ∧ others t ∧
      engState e t.dev = (if engState e d = enRUN then enSETTLE else engState e d) ∧
      (∀ n, n < k.val → n < 12356 → card (engOf e t.dev) n =
        BitVec.ofNat 64 (leNat (((j.rest.drop 32).drop (8 * n)).take 8))) ∧
      (∀ n, min k.val 12356 ≤ n → card (engOf e t.dev) n = card g n)) ∧
    (∀ k : Fin 12357, h.kind = 2 → j.wait = 0 → due → inTake d = true → makes (.cardLoadBulk r k) s fun t =>
      cardJob r.val t.dev = some { j with wait := 2, compared := true } ∧ t.dev.en = d.en) ∧
    (j.wait = 3 → j.slots = 12356 → (crc32 ((j.rest.drop 32).take 98848)).toNat = h.crc →
      makes (.bulkLoadComplete r) s fun t =>
        engOf e t.dev = { g with bulkWriting := false, bulkDone := true } ∧ others t) ∧
    (j.wait = 3 → (j.slots < 12356 ∨ (crc32 ((j.rest.drop 32).take 98848)).toNat ≠ h.crc) →
      makes (.bulkLoadComplete r) s fun t =>
        engOf e t.dev = { g with bulkWriting := false } ∧ others t ∧ cardJob r.val t.dev = none)

/-- R155, R172: reads of cards, ledgers and their CRC, and writes of the staged gain table. -/
def Obligations.CardReadsAndGainTableWrites : Prop :=
  ∀ (s : State),
    let d := s.dev
    let word (v : BitVec 32) (k : Nat) : BitVec 32 := setBits v 31 30 k
    let takes (c : Instr) (x : BitVec 32) : Prop := makes c s fun t =>
      t.dev.cal = { d.cal with rd := some x } ∧ flag CAL_RD_STATUS.BUSY t.dev = true ∧
      regsKeptBut [CAL_RD_STATUS.addr] d t.dev ∧ t = { s with dev := { d with main := t.dev.main, cal := t.dev.cal } }
    let count (v : BitVec 32) : Nat := if v.toNat % 64 = 0 then 64 else v.toNat % 64
    let slot (v : BitVec 32) : Nat := v.toNat / 64 % 2 ^ 14
    (∀ (p : Path) (v : BitVec 32), reachable d →
      (flag CAL_RD_STATUS.BUSY d = false →
        (slot v + count v ≤ 12800 → takes (.calReadCards p v) (word v 0)) ∧
        takes (.calReadLedger p v) (word v 1) ∧ takes (.calReadCrc p v) (word v 2) ∧
        (12800 < slot v + count v → makes (.calReadCards p v) s fun t =>
          flag CAL_RD_STATUS.ERR t.dev = true ∧ flag CAL_RD_STATUS.BUSY t.dev = false ∧ t.dev.cal = d.cal ∧ raised 132 t)) ∧
      (flag CAL_RD_STATUS.BUSY d = true → makes (.calReadCards p v) s fun t =>
        t.dev.cal = d.cal ∧ rdReg CAL_RD_STATUS.addr t.dev = rdReg CAL_RD_STATUS.addr d)) ∧
    (∀ v : BitVec 32, d.cal.rd = some v → mainRuns d = true → makes .calReadDone s fun t =>
      let e := v.toNat / 2 ^ 20 % 1024
      let g := engOf e d
      -- a slot with an uncorrectable error gives a free value
      let read (n : Nat) : BitVec 64 := slotRead e n d
      let data (k : Nat) : BitVec 32 := rdReg (CAL_RD_DATA.addr k) t.dev
      let kind := v.toNat / 2 ^ 30
      flag CAL_RD_STATUS.BUSY t.dev = false ∧ flag CAL_RD_STATUS.DONE t.dev = true ∧ raised 132 t ∧
      t.dev.cal = { d.cal with rd := none, rdCards := decide (kind = 0) } ∧ t.dev.en = d.en ∧
      (kind = 0 → ∀ k, k < count v →
        data (2 * k) = (read (slot v + k)).setWidth 32 ∧ data (2 * k + 1) = ((read (slot v + k)) >>> 32).setWidth 32 ∧
        (rdReg (if k < 32 then CAL_RD_DBE_0.addr else CAL_RD_DBE_1.addr) t.dev).getLsbD (k % 32) =
          g.badCards.contains (slot v + k)) ∧
      (kind = 1 →
        data 0 = BitVec.ofNat 32 ((g.ledger.filter (fun x => x.scene)).length * 2 ^ 16 +
          (g.ledger.filter (fun x => !x.scene)).length) ∧
        data 1 = BitVec.ofNat 32 (2 * b2n g.bulkWriting + b2n g.bulkDone)) ∧
      (kind = 2 → data 0 = crc32 ((List.range 12356).flatMap (fun n => leBytes 8 (read n).toNat)))) ∧
    (∀ (p : Path) (n : Fin 96) (v : BitVec 32), reachable d → makes (.calRgainWrite p n v) s fun t =>
      rdReg (CAL_RGAIN.addr n.val) t.dev = valueLeft (CAL_RGAIN.addr n.val) v d ∧
      flag CAL_STATUS.RG_DIRTY t.dev = true ∧ regsKeptBut [CAL_RGAIN.addr n.val, CAL_STATUS.addr] d t.dev ∧
      t = { s with dev := { d with main := t.dev.main } })

/-! ### The cell watch -/

/-- R22, R202, R258: the staged radiometric table is filled, checked and committed. The model's choices: the NOTE of an odd index
(log entry 30), OP 0 in the REFUSAL of a data write (log entry 34), and BUSY tested before the odd index (log entry 36). -/
def Obligations.RadiometricTablesAreStagedAndCommitted : Prop :=
  ∀ (s : State),
    let d := s.dev
    let busy (x : Dev) : Bool := flag CELL_RT_STATUS.BUSY x
    let entry (i : Nat) (x : Dev) : Nat := rtEntry i x
    let starts (c : Instr) (a : Nat) : Prop := makes c s fun t =>
      busy t.dev = true ∧ t.dev.cw = { d.cw with rtAction := some a } ∧ t.dev.en = d.en ∧
      regsKeptBut [CELL_RT_STATUS.addr] d t.dev
    let refused (c : Instr) (a : Nat) : Prop := makes c s fun t =>
      t = { s with dev := refuseReg a CELL_RT_CMD.addr 0 d }
    (∀ (p : Path) (v : BitVec 32), reachable d → busy d = false →
      (makes (.cellRtDataWrite p v) s fun t =>
        let i := fld CELL_RT_IDX.IDX d
        entry i t.dev = v.toNat % 2 ^ 16 ∧ entry (i + 1) t.dev = v.toNat / 2 ^ 16 ∧
        (∀ k, k ≠ i → k ≠ i + 1 → entry k t.dev = entry k d) ∧ fld CELL_RT_IDX.IDX t.dev = (i + 2) % 4096 ∧
        regsKeptBut [CELL_RT_IDX.addr] d t.dev) ∧
      (v.toNat % 2 = 0 → makes (.registerWrite (.word p v) CELL_RT_IDX.addr) s fun t =>
        fld CELL_RT_IDX.IDX t.dev = v.toNat % 4096 ∧ regsKeptBut [CELL_RT_IDX.addr] d t.dev ∧ t.dev.cw = d.cw) ∧
      (v.toNat % 2 = 1 → makes (.registerWrite (.word p v) CELL_RT_IDX.addr) s fun t =>
        t = { s with dev := noteReserved CELL_RT_IDX.addr v d }) ∧
      starts (.commitHigh p v) 1 ∧ starts (.commitLow p v) 2 ∧ starts (.clearHigh p v) 3 ∧ starts (.clearLow p v) 4) ∧
    (∀ (p : Path) (v : BitVec 32), reachable d → busy d = true →
      refused (.commitHigh p v) 1 ∧ refused (.commitLow p v) 2 ∧ refused (.clearHigh p v) 3 ∧ refused (.clearLow p v) 4 ∧
      makes (.cellRtDataWrite p v) s (fun t => t = { s with dev := refuseReg 0 CELL_RT_DATA.addr 0 d }) ∧
      makes (.registerWrite (.word p v) CELL_RT_IDX.addr) s (fun t => t = { s with dev := refuseReg 0 CELL_RT_IDX.addr 0 d })) ∧
    (∀ a : Nat, d.cw.rtAction = some a → mainRuns d = true → makes .rtCmdDone s fun t =>
      let ordered : Prop := ∀ i, i < 4095 → entry i d ≤ entry (i + 1) d
      let i := fld CELL_RT_STATUS.ERR_IDX t.dev
      let table : List Nat := (List.range 4096).map (fun i => entry i d)
      busy t.dev = false ∧ t.dev.cw.rtAction = none ∧ raised 150 t ∧ t.dev.cw.rtStage = d.cw.rtStage ∧
      (a = 1 → ordered → fld CELL_RT_STATUS.RESULT t.dev = 1 ∧ t.dev.en = { d.en with radHigh := some table }) ∧
      (a = 2 → ordered → fld CELL_RT_STATUS.RESULT t.dev = 1 ∧ t.dev.en = { d.en with radLow := some table }) ∧
      (a = 1 ∨ a = 2 → ¬ ordered → fld CELL_RT_STATUS.RESULT t.dev = 2 ∧ t.dev.en = d.en ∧
        entry (i + 1) d < entry i d ∧ (∀ k, k < i → entry k d ≤ entry (k + 1) d) ∧
        (d.evt.queue.length < 512 → ∃ e, t.dev.evt.queue = d.evt.queue ++ [e] ∧ e.kind = 6 ∧ e.source = 144 ∧
          e.payload = [i, a, 0, 0])) ∧
      (a = 3 → fld CELL_RT_STATUS.RESULT t.dev = 1 ∧ t.dev.en = { d.en with radHigh := none } ∧
        i = fld CELL_RT_STATUS.ERR_IDX d) ∧
      (a = 4 → fld CELL_RT_STATUS.RESULT t.dev = 1 ∧ t.dev.en = { d.en with radLow := none } ∧
        i = fld CELL_RT_STATUS.ERR_IDX d))

/-- R204, R210, R213, R245: the cell map, releases, and the records that the ring writer takes. -/
def Obligations.CellMapReleasesAndRecords : Prop :=
  ∀ (s : State),
    let d := s.dev
    (∀ (p : Path) (v : BitVec 32), reachable d → flag CELL_STATUS.MAP_BUSY d = false → makes (.mapApply p v) s fun t =>
      t.dev.cw = { d.cw with apply := true } ∧ fld CELL_MAP_CTRL.BASE t.dev = v.toNat % 512 ∧
      regsKeptBut [CELL_MAP_CTRL.addr] d t.dev) ∧
    (∀ (p : Path) (v : BitVec 32), reachable d → flag CELL_STATUS.MAP_BUSY d = true → makes (.mapApply p v) s fun t =>
      t.dev.cw = d.cw) ∧
    (flag CELL_STATUS.MAP_BUSY d = true → mainRuns d = true → makes .mapCopyDone s fun t =>
      t.dev.cw = { d.cw with mapSt := d.cw.mapIn } ∧ (∀ i, mapStaged i t.dev = mapEntry i t.dev) ∧
      flag CELL_STATUS.MAP_BUSY t.dev = false ∧ raised 152 t) ∧
    (∀ (p : Path) (v : BitVec 32), reachable d →
      (v.getLsbD 18 = true → makes (.cellAck p v) s fun t =>
        t = { s with dev := { d with cw := { d.cw with ackAll := true } } }) ∧
      (v.getLsbD 18 = false → makes (.cellAck p v) s fun t =>
        t = { s with dev := { d with cw := { d.cw with acks := d.cw.acks ++ [v.toNat % 2 ^ 18] } } })) ∧
    (∀ (n : Nat) (bytes : List (BitVec 8)) (rest : List (Nat × List (BitVec 8))), d.cw.queue = (n, bytes) :: rest →
      (∀ x : Cur, (ring n d).st = rgENABLED → linkBlocked d = false → (ring n d).cur = some x →
        x.used + bytes.length ≤ x.desc.len → (ring n d).each = false → makes .cellRecordDequeue s fun t =>
          t.dev.cw = { d.cw with queue := rest } ∧ t.dev.out = d.out ++ [.hostWrite (x.desc.addr + x.used) bytes] ∧
          ring n t.dev = { ring n d with cur := some { x with used := x.used + bytes.length } } ∧
          (∀ k, k ≠ n → ring k t.dev = ring k d) ∧ t.dev.main = d.main ∧ t.dev.aux = d.aux) ∧
      ((ring n d).st ≠ rgENABLED ∨ linkBlocked d = true → makes .cellRecordDequeue s fun t =>
          t.dev.cw = { d.cw with queue := rest } ∧
          ring n t.dev = { ring n d with overflow := min 0xFFFF ((ring n d).overflow + 1) }))

/-! ### Descriptor rings -/

/-- R231 to R234, R262: the RING window's actions are taken, and applied. The model's choices: the eight RING_CTX words are those at
the write of RING_CMD (log entry 33), and the GEN of the REFUSAL (log entry 34). -/
def Obligations.RingActions : Prop :=
  ∀ (s : State),
    let d := s.dev
    (∀ (p : Path) (v : BitVec 32), reachable d →
      let n := fld RING_SEL.RING d
      let takes (c : Instr) (k : Nat) : Prop := (flag RING_STATUS.BUSY d = false → makes c s fun t =>
          t.dev.rings = { d.rings with action := some (k, n, (List.range 8).map (fun i => rdReg (RING_CTX.addr i) d)) } ∧
          flag RING_STATUS.BUSY t.dev = true ∧ fld RING_STATUS.RING t.dev = n ∧ regsKeptBut [RING_STATUS.addr] d t.dev) ∧
        (flag RING_STATUS.BUSY d = true → makes c s fun t => t = { s with dev := refuseRegT k RING_CMD.addr 0 n (ring n d).gen d })
      takes (.ringRead p v) 1 ∧ takes (.ringWrite p v) 2 ∧ takes (.ringEnable p v) 3 ∧ takes (.ringDisable p v) 4 ∧
      takes (.ringPause p v) 5 ∧ takes (.ringUnpause p v) 6 ∧ takes (.ringClearError p v) 7) ∧
    (∀ (a n : Nat) (w : List (BitVec 32)), d.rings.action = some (a, n, w) → 1 ≤ a → a ≤ 7 →
      let g := ring n d
      makes (.ringActionDone .clean) s fun t =>
        let h := ring n t.dev
        let result := fld RING_STATUS.RESULT t.dev
        let on : Prop := g.st = rgENABLED ∨ g.st = rgPAUSED
        let moved (st : Nat) : Prop := result = 1 ∧ h.st = st ∧ h.gen = (g.gen + 1) % 256
        let none_ (r : Nat) : Prop := result = r ∧ h = g
        t.dev.rings.action = none ∧ flag RING_STATUS.BUSY t.dev = false ∧ (∀ k, k ≠ n → ring k t.dev = ring k d) ∧
        (a = 1 → none_ 1 ∧ ∀ k, k < 8 → rdReg (RING_CTX.addr k) t.dev = g.ctxWord k) ∧
        (a = 2 → g.st = rgDISABLED → result = 1 ∧
          h = { g with w0 := w.getD 0 0, w1 := w.getD 1 0, w2 := w.getD 2 0 &&& 0x00FF07FF#32, w5 := w.getD 5 0 &&& 0xFF#32
                       w6 := w.getD 6 0 &&& 0xCFFF0FFF#32, w7 := w.getD 7 0 &&& 0x1FFF1FFF#32 }) ∧
        (a = 2 ∨ a = 3 → g.st ≠ rgDISABLED → none_ 3) ∧
        (a = 3 → g.st = rgDISABLED → ctxOk g = false → none_ 2) ∧
        (a = 3 → g.st = rgDISABLED → ctxOk g = true → limitReached g d = true → none_ 4) ∧
        (a = 3 → g.st = rgDISABLED → ctxOk g = true → limitReached g d = false → moved rgENABLED ∧ h.err = 0 ∧
          h.posted = 0 ∧ h.unread = 0 ∧ h.usable = [] ∧ h.cur = none ∧ h.base = g.base) ∧
        (a = 4 → on → moved rgDISABLED ∧ h.usable = [] ∧ h.cur = none ∧ h.jobs = []) ∧
        (a = 4 → ¬ on → none_ 6) ∧
        (a = 5 → g.st = rgENABLED → moved rgPAUSED) ∧ (a = 5 → g.st ≠ rgENABLED → none_ 6) ∧
        (a = 6 → g.st = rgPAUSED → moved rgENABLED) ∧ (a = 6 → g.st ≠ rgPAUSED → none_ 6) ∧
        (a = 7 → g.st = rgERROR → moved rgDISABLED) ∧ (a = 7 → g.st ≠ rgERROR → none_ 6))

/-- R227, R230, R234, R235, R236, R238, R239, R249, R250, R252: doorbells and descriptors. The model's choices (log entry 33): the
posted count that a doorbell is tested with, and that one command fetches a descriptor and its buffer. -/
def Obligations.DoorbellsAndDescriptors : Prop :=
  ∀ (s : State) (r : Fin 262144),
    let d := s.dev
    let n := r.val
    let g := ring n d
    let others (t : State) : Prop := ∀ k, k ≠ n → ring k t.dev = ring k d
    let logged (t : State) : Prop := countedOnce EVT_VIOL_CNT.TOTAL d t.dev ∧ raised 254 t
    (∀ (req : Fin 65536) (v : BitVec 32), served d = true →
      let at_ := v.toNat % 2 ^ 24
      let wrap := v.toNat / 2 ^ 24 % 2
      let new := ((g.size * wrap + at_) + 2 * g.size - g.ppos) % (2 * g.size)
      (g.on = true → at_ < g.size → g.posted + new ≤ g.size → makes (.doorbellWrite req r .clean v) s fun t =>
        ring n t.dev = { g with pidx := at_, pwrap := wrap } ∧ others t ∧
        t = { s with dev := { d with rings := t.dev.rings } }) ∧
      (g.on = true → (g.size ≤ at_ ∨ g.size < g.posted + new) → makes (.doorbellWrite req r .clean v) s fun t =>
        (ring n t.dev).st = rgERROR ∧ (ring n t.dev).err = 1 ∧ (ring n t.dev).pidx = g.pidx ∧
        (ring n t.dev).pwrap = g.pwrap ∧ raised 163 t ∧ raised 160 t ∧ logged t ∧ others t) ∧
      (g.on = false → makes (.doorbellWrite req r .clean v) s fun t =>
        ring n t.dev = g ∧ raised 163 t ∧ logged t ∧ others t) ∧
      (g.st ≠ rgERROR → mstate d ≠ stSAFE → makes (.doorbellWrite req r .uncorrectable v) s fun t =>
        (ring n t.dev).st = rgERROR ∧ (ring n t.dev).err = 3 ∧ mstate t.dev = stSAFE ∧
        fld GLB_MSTATE.HOLD_CAUSE t.dev = 5)) ∧
    (fetches n d = true →
      let a := (g.base + 32 * (g.tpos % g.size)) % 2 ^ 64
      let next : Nat := (g.tpos + 1) % (2 * g.size)
      (makes (.descriptorFetchDone r .clean .failed) s fun t =>
        (ring n t.dev).st = rgERROR ∧ (ring n t.dev).err = 2 ∧ raised 160 t ∧ raised 254 t ∧ others t) ∧
      (∀ (x : DescIn) (buf : List (BitVec 8)),
        let y := descOf x g.tpos
        (2 ≤ g.typ → descCheck g y = 0 → (∀ z ∈ g.usable, descCheck g z = 0) →
          makes (.descriptorFetchDone r .clean (.ok x buf)) s fun t =>
            ring n t.dev = { g with tpos := next, usable := g.usable ++ [y] } ∧ others t ∧
            t = { s with dev := { d with rings := t.dev.rings, out := d.out ++ [.hostRead a 32] } }) ∧
        (descCheck g y ≠ 0 → g.usable = [] → g.cur = none → g.jobs = [] → d.rings.held = [] →
          makes (.descriptorFetchDone r .clean (.ok x buf)) s fun t =>
            completedAt a (descCheck g y) 0 d t.dev ∧ t.dev.en = d.en ∧ t.dev.cal = d.cal) ∧
        (g.typ = 1 → descCheck g y = 0 → blkCheck (buf.take y.len) = 0 →
          makes (.descriptorFetchDone r .clean (.ok x buf)) s fun t =>
            cardJob n t.dev = some { ring := n, desc := y, rest := buf.take y.len, done := 0, wait := 0, slots := 0 } ∧
            t.dev.out = d.out ++ [.hostRead a 32, .hostRead y.addr y.len] ∧ t.dev.en = d.en) ∧
        (g.typ ≤ 1 → descCheck g y = 0 → d.rings.held = [] →
          makes (.descriptorFetchDone r .clean (.bufFailed x)) s fun t =>
            completedAt a 6 0 d t.dev ∧ raised 254 t ∧ t.dev.en = d.en)))

/-- R71, R73, R239, R242, R243, R249: the ring writer's pieces. -/
def Obligations.PiecesAreWrittenOrTruncated : Prop :=
  ∀ (s : State) (r : Fin 262144) (j : Job) (rest : List Job),
    let d := s.dev
    let n := r.val
    let g := ring n d
    let a := (g.base + 32 * (j.desc.pos % g.size)) % 2 ^ 64
    g.jobs = j :: rest → linkBlocked d = false →
    (d.sl.slots < j.due → j.closes = false → (∀ k ∈ rest.head?, k.status = dsOK) → makes (.bandWriteDone r) s fun t =>
      ring n t.dev = { g with jobs := rest } ∧ (∀ k, k ≠ n → ring k t.dev = ring k d) ∧
      t.dev.out = d.out ++ [.hostWrite (j.desc.addr + j.off) j.bytes] ∧ t.dev.main = d.main ∧ t.dev.en = d.en) ∧
    (d.sl.slots < j.due → j.closes = true → rest = [] → g.on = true → d.rings.held = [] → makes (.bandWriteDone r) s fun t =>
      (ring n t.dev).jobs = [] ∧ completedAt a (1 + 256 * j.part) j.doneLen d t.dev ∧
      (∃ l, t.dev.out = d.out ++ .hostWrite (j.desc.addr + j.off) j.bytes :: l)) ∧
    (d.sl.slots < j.due → ∀ k : Nat, makes (.bandWriteDeadline r k) s fun t => t = s) ∧
    (j.due ≤ d.sl.slots → makes (.bandWriteDone r) s fun t => t = s) ∧
    (∀ k : Nat, j.due ≤ d.sl.slots → rest = [] → g.cur = none → g.on = true → d.rings.held = [] → 1 ≤ k → k < j.bytes.length → mainRuns d = true →
      makes (.bandWriteDeadline r k) s fun t =>
        (ring n t.dev).jobs = [] ∧ completedAt a (9 + 256 * j.part) (j.off + k) d t.dev ∧ raised 25 t ∧
        (∃ l, t.dev.out = d.out ++ .hostWrite (j.desc.addr + j.off) (j.bytes.take k) :: l))

/-! ### Commands of the command rings -/

/-- R36, R37, R166, R178, R246, R247, R248, R340, R356, R412: the command block's checks, and what each command does. Which of STALE
and STATE a refused field command completes with is the model's choice (log entry 32). -/
def Obligations.HostCommands : Prop :=
  ∀ (s : State) (r : Fin 262144) (x : DescIn) (b : CmdBlk),
    let d := s.dev
    let n := r.val
    let g := ring n d
    let y := descOf x g.tpos
    let a := (g.base + 32 * (g.tpos % g.size)) % 2 ^ 64
    let gen := fld GLB_MSTATE.GEN d
    let m := mstate d
    let p0 := b.params.getD 0 0
    let cmd (op : Nat) : CmdRef :=
      ⟨n, g.tpos, y.flags, y.tag, op, b.target, if b.checkGen then b.gen % 256 else 0, g.epoch⟩
    let send (k : Nat) : CmdBlk := { b with params := k :: b.params.drop 1 }
    let agrees : Prop := b.checkGen = true → b.gen % 256 = gen
    let ends (c : Instr) (status : Nat) (post : State → Prop) : Prop := makes c s fun t =>
      completedAt a status (if status = 1 then 32 else 0) d t.dev ∧ post t
    let nothing (t : State) : Prop := mstate t.dev = m ∧ t.dev.waits = d.waits ∧ t.dev.xh = d.xh ∧ t.dev.en = d.en ∧
      t.dev.cal = d.cal ∧ t.dev.sl = d.sl
    let waits (c : Instr) (kind op : Nat) : Prop := makes c s fun t =>
      t.dev.waits = d.waits ++ [{ kind := kind, cmd := some (cmd op) }] ∧ mstate t.dev = m ∧
      t.dev.out = d.out ++ [.hostRead a 32, .hostRead y.addr y.len] ∧ t.dev.main = d.main ∧ t.dev.aux = d.aux
    let sends (c : Instr) (op typ p act : Nat) (ch : Nat) : Prop := makes c s fun t =>
      awaits typ p (.cmd (cmd op) ch act) s t ∧ mstate t.dev = m ∧ t.dev.main = d.main
    let gone : Nat := pf 38 38 (b2n b.checkGen) + pf 37 30 (b.gen % 256)
    let modul : List (Instr × Nat) := [(.cmdNop r x b, opNOP), (.start r x b, opSTART), (.stop r x b, opSTOP),
      (.commit r x b, opCOMMIT), (.enterSafe r x b, opENTER_SAFE), (.resume r x b, opRESUME)]
    let field : List (Instr × Nat) := [(.shutter r x b, opSHUTTER), (.valve r x b, opVALVE), (.relay r x b, opRELAY),
      (.spare r x b, opSPARE), (.housekeeping r x b, opHOUSEKEEPING)]
    g.typ = 0 → fetches n d = true → descCheck g y = 0 → d.rings.held = [] →
    -- the checks of R248
    (∀ c op, (c, op) ∈ modul ++ field → blkOk op b = false → ends c 5 nothing) ∧
    (∀ c op, (c, op) ∈ modul → blkOk op b = true → ¬ agrees → ends c 8 nothing) ∧
    (∀ c op, (c, op) ∈ modul → blkOk op b = true → agrees → opLegal op d = false → ends c 7 nothing) ∧
    (∀ c op, (c, op) ∈ field → blkOk op b = true → opLegal op d = false ∨ fieldRefuses d = true →
      -- the unit's own word, where the crossing shows it
      (b.checkGen = true ∧ xUp d = true ∧ b.gen % 256 ≠ ownGen op b d → ends c 8 nothing) ∧
      (b.checkGen = false ∨ xUp d = false ∨ b.gen % 256 = ownGen op b d → ends c 7 nothing)) ∧
    -- commands on the module
    (blkOk opNOP b = true → agrees → m = stIDLE ∨ m = stLIVE ∨ m = stCOLD → ends (.cmdNop r x b) 1 nothing) ∧
    (blkOk opSTART b = true → agrees → m = stIDLE → waits (.start r x b) wkSTART opSTART) ∧
    (blkOk opSTOP b = true → agrees → m = stLIVE → waits (.stop r x b) wkSTOP opSTOP) ∧
    (blkOk opRESUME b = true → agrees → resumeOk d = true → waits (.resume r x b) wkRESUME opRESUME) ∧
    (blkOk opRESUME b = true → agrees → m = stSAFE → resumeOk d = false → ends (.resume r x b) 7 nothing) ∧
    (blkOk opENTER_SAFE b = true → agrees → m = stIDLE ∨ m = stLIVE ∨ m = stCOLD → makes (.enterSafe r x b) s fun t =>
      mstate t.dev = stSAFE ∧ fld GLB_MSTATE.HOLD_CAUSE t.dev = 4) ∧
    (blkOk opRESET b = true → agrees → ends (.resetCommand r x b) 1 fun t =>
      mstate t.dev = stRESET ∧ t.dev.pw.sources = [4] ∧ mainAtReset t.dev) ∧
    (blkOk opCOMMIT b = true → agrees → m = stIDLE ∨ m = stLIVE → commitRefused d = false → makes (.commit r x b) s fun t =>
      t.dev.cal = { d.cal with waiting := d.cal.waiting ++ [cmd opCOMMIT] } ∧ flag CAL_STATUS.COMMIT_WAIT t.dev = true) ∧
    (blkOk opCOMMIT b = true → agrees → m = stIDLE ∨ m = stLIVE → commitRefused d = true → ends (.commit r x b) 7 nothing) ∧
    (blkOk opTAKE b = true → agrees → m = stLIVE → inTake d = false → herdOn d = false → isFollower d = false → takeBusy d = false →
      modeRefused (resolveMode p0 d) d = false → ends (.take r x b) 1 fun t =>
        t.dev.take = { d.take with next := some ⟨resolveMode p0 d, p0, ttHOST, nextNo d⟩ } ∧ mstate t.dev = m) ∧
    (blkOk opTAKE b = true → agrees → takeBusy d = true ∨ modeRefused (resolveMode p0 d) d = true ∨ m ≠ stLIVE →
      ends (.take r x b) 7 fun t => t.dev.take = d.take ∧ mstate t.dev = m) ∧
    -- commands on the field side
    (fieldRefuses d = false →
      (blkOk opSHUTTER b = true → m = stIDLE ∨ (m = stLIVE ∧ inTake d = false) →
        sends (.shutter r x b) opSHUTTER xACT_CMD (gone + pf 29 27 b.target + pf 26 23 p0) p0 b.target) ∧
      (m = stIDLE ∨ m = stLIVE →
        (blkOk opVALVE b = true →
          sends (.valve r x b) opVALVE xACT_CMD (gone + pf 29 27 b.target + pf 26 23 p0) p0 b.target) ∧
        (blkOk opRELAY b = true →
          sends (.relay r x b) opRELAY xACT_CMD (gone + pf 29 27 b.target + pf 26 23 p0) p0 b.target) ∧
        (blkOk opSPARE b = true →
          sends (.spare r x b) opSPARE xACT_CMD (gone + pf 29 27 b.target + pf 26 23 p0) p0 b.target)) ∧
      (m = stIDLE ∨ m = stLIVE ∨ m = stCOLD →
        (blkOk opHOUSEKEEPING b = true → sends (.housekeeping r x b) opHOUSEKEEPING xHK_CMD (gone + pf 29 26 p0) 0 8) ∧
        (blkOk opINDICATOR (send 1) = true → (∀ k, k < 64 → flag (IND_NODE.DIRTY k) d = false) →
          makes (.indicatorSend r x b) s fun t => awaits xIND_LATCH (pf 38 33 (fld IND_LAST.LAST d) +
            pf 32 32 (b2n b.checkGen) + pf 31 24 (b.gen % 256)) (.indLatch (cmd opINDICATOR)) s t) ∧
        (blkOk opINDICATOR (send 2) = true → makes (.indicatorSendAll r x b) s fun t =>
          t.dev.xh.pend.length = d.xh.pend.length + fld IND_LAST.LAST d + 1 ∧
          t.dev.xh.tag = (d.xh.tag + fld IND_LAST.LAST d + 1) % 256 ∧ mstate t.dev = m)))

/-! ### Events, the violation log and the dailies -/

/-- R256, R257, R260, R261, R262, R266: sources, vectors, the violation log and the dailies queue. What the NOTE of a reserved
EVT_FORCE number holds is the model's choice (log entries 30 and 36). -/
def Obligations.EventSourcesVectorsAndDailies : Prop :=
  ∀ (s : State) (p : Path) (v : BitVec 32),
    let d := s.dev
    -- the message of a vector, as the words of the MSI-X table give it, and what lets it go out
    let message (n : Nat) : Out := .msix n ((rdReg (MSIX_LO.addr n) d).toNat + 2 ^ 32 * (rdReg (MSIX_HI.addr n) d).toNat) (rdReg (MSIX_DATA.addr n) d)
    let vector (k : Nat) : Nat := fld (evtVec k) d
    let open_ : Prop := d.link.msixEnable = true ∧ d.link.functionMask = false ∧ linkBlocked d = false
    (reachable d →
      (∀ n : Fin 8, makes (.evtEnWrite p n v) s fun t =>
        rdReg (EVT_EN.addr n.val) t.dev = v ∧ (∀ k, k < 256 → flag (evtStat k) t.dev = flag (evtStat k) d) ∧
        ((∀ i, i < 32 → flag (evtStat (32 * n.val + i)) d = false) →
          t = { s with dev := wrReg (EVT_EN.addr n.val) v d }) ∧
        -- a source that is enabled while its bit is 1 makes its request at once
        let asks : List Nat := ((List.range 32).map (fun i => 32 * n.val + i)).filter (fun k =>
          v.getLsbD (k % 32) && !flag (evtEn k) d && flag (evtStat k) d)
        (open_ → (∀ k ∈ asks, flag (MSIX_CTRL.MASK (vector k)) d = false) →
          t = { s with dev := { wrReg (EVT_EN.addr n.val) v d with out := d.out ++ asks.map (fun k => message (vector k)) } }) ∧
        (d.link.msixEnable = true → d.link.functionMask = true ∨ linkBlocked d = true → t.dev.out = d.out ∧
          ∀ m, m < 256 → (msixPending m t.dev = true ↔ msixPending m d = true ∨ ∃ k ∈ asks, vector k = m)) ∧
        (d.link.msixEnable = false → t = { s with dev := wrReg (EVT_EN.addr n.val) v d })) ∧
      (∀ k : Nat, v.toNat % 256 = k → reservedSource k = false → ¬ (isS d = true ∧ 208 ≤ k ∧ k ≤ 223) →
        makes (.evtForce p v) s fun t => raised k t ∧
          (flag (evtStat k) d = true → t = s) ∧
          (∀ j, j < 256 → j ≠ k → flag (evtStat j) t.dev = flag (evtStat j) d) ∧
          (flag (evtStat k) d = false → flag (evtEn k) d = true → open_ → flag (MSIX_CTRL.MASK (vector k)) d = false →
            t.dev.out = d.out ++ [message (vector k)]) ∧
          (flag (evtStat k) d = false → flag (evtEn k) d = true → d.link.msixEnable = true →
            flag (MSIX_CTRL.MASK (vector k)) d = true ∨ d.link.functionMask = true ∨ linkBlocked d = true →
            t.dev.out = d.out ∧ msixPending (vector k) t.dev = true) ∧
          (flag (evtStat k) d = false → flag (evtEn k) d = false → t.dev.out = d.out)) ∧
      (∀ k : Nat, v.toNat % 256 = k → reservedSource k = true → makes (.evtForce p v) s fun t =>
        t = { s with dev := noteReserved EVT_FORCE.addr v d }) ∧
      (makes (.violClear p v) s fun t =>
        fld EVT_VIOL_CNT.HELD t.dev = 0 ∧ flag EVT_VIOL_CNT.OVER t.dev = false ∧
        fld EVT_VIOL_CNT.TOTAL t.dev = fld EVT_VIOL_CNT.TOTAL d ∧ fld EVT_VIOL_CNT.NEXT t.dev = fld EVT_VIOL_CNT.NEXT d ∧
        regsKeptBut [EVT_VIOL_CNT.addr] d t.dev) ∧
      (∀ (n : Fin 256) (req : Fin 65536), open_ →
        (∀ k, k < 256 → msixPending k d = true → k = n.val) → msixPending n.val d = true →
        makes (.msixVectorUnmask (.vector (.pcie req) n)) s fun t =>
          msixPending n.val t.dev = false ∧ flag (MSIX_CTRL.MASK n.val) t.dev = false ∧
          t.dev.out = d.out ++ [message n.val])) ∧
    (mainRuns d = true → makes (.msixVectorUnmask .function) s fun t =>
      t.dev.link = { d.link with functionMask := false } ∧ t.dev.aux = d.aux) ∧
    (∀ (e : Daily) (rest : List Daily) (n : Nat) (g : Ring) (c : Cur), d.evt.queue = e :: rest →
      d.rings.tab.find? (fun x => x.2.st == rgENABLED && x.2.typ == 7) = some (n, g) → ring n d = g →
      linkBlocked d = false → g.cur = some c → c.used + e.bytes.length ≤ c.desc.len → g.each = false →
      makes .dailiesDequeue s fun t =>
        t.dev.evt.queue = rest ∧ t.dev.out = d.out ++ [.hostWrite (c.desc.addr + c.used) e.bytes] ∧
        t.dev.main = d.main ∧ e.bytes.length = 16 + 4 * e.payload.length) ∧
    (d.rings.tab.find? (fun x => x.2.st == rgENABLED && x.2.typ == 7) = none →
      makes .dailiesDequeue s fun t => t = s)

/-! ### The management port -/

/-- R271 to R280, R285 to R288: frames of the management port, from a port between frames: what each shifts out, and the
answer it leaves. The model's choices (log entry 37): a recovery frame reports no earlier fault, and a word is fetched once the
quantity before it has started. -/
def Obligations.ManagementPortFrames : Prop :=
  ∀ (s : State) (nbits : Nat) (early : Bool) (w : Fin 262144) (count : Fin 1024) (full : List Nat),
    let d := s.dev
    let qb := mpQb d
    let n := mpCount count.val
    let r := d.mgp.reply
    let good (write : Bool) (w k : Nat) : Prop := ∀ i, i < k → inBlock w (w + i) = true ∧ wordFault (w + i) write d = none
    -- the status word, or the 24 bits that open a compatibility reply, and the bits it is sent in
    let head : Nat := if mpCompat d = true then r.flags / 4 % 16 * 2 ^ 20 + r.waddr % 2 ^ 16
      else r.op * 2 ^ 28 + r.flags * 2 ^ 22 + r.count
    let first : Nat := if mpCompat d = true then 24 else qb
    -- the bits of the whole frame; a frame that starts before the status word is ready carries the last quantity instead
    let sent : Nat := packBits nbits [(first, if early = true then d.mgp.last else head)]
    -- the frame shifts `bits` out, and leaves the port between frames with the answer to the next frame
    let framed (bits : Nat) (undr : Bool) (t : State) : Prop :=
      t.dev.mgp.faults = [] ∧ t.dev.mgp.undr = false ∧ flag MGP_STATUS.ACTIVE t.dev = false ∧ t.store = s.store ∧
      bitN t.dev.mgp.reply.flags 5 = undr ∧ (undr = true → flag MGP_STATUS.UNDR t.dev = true) ∧
      ∃ l, t.dev.out = d.out ++ .mpReply nbits bits :: l
    let answer (bits : Nat) (undr : Bool) (op cnt : Nat) (t : State) : Prop :=
      framed bits undr t ∧ t.dev.mgp.reply.op = op ∧ t.dev.mgp.reply.count = cnt ∧
      (undr = false → t.dev.mgp.reply.flags = b2n (attnLow d) ∧ t.dev.main = d.main ∧ t.dev.out = d.out ++ [.mpReply nbits bits])
    -- the write quantities that the buffer takes of `k`
    let taken (k : Nat) : List Nat := (List.range k).filter (fun i => !full.contains i)
    let stored (w : Nat) (data : List (BitVec 32)) (k : Nat) : List (Nat × Nat) :=
      (taken k).map (fun i => (w + i, (data.getD i 0).toNat))
    let lost (k : Nat) : Bool := early || decide ((taken k).length < k)
    let dropped (op : Nat) (t : State) : Prop := framed sent early t ∧ flag MGP_STATUS.ERR t.dev = true ∧
      t.dev.mgp.reply.op = op ∧ t.dev.mgp.reply.count = 0 ∧ bitN t.dev.mgp.reply.flags 2 = true ∧
      (mainRuns d = true → raised 192 t)
    (portRests false d → qb ≤ nbits →
      (makes (.mpNop nbits early) s fun t => answer sent early 0 0 t ∧ t.dev.mgp.buf = []) ∧
      (good false w.val n → makes (.mpRead nbits early w count) s fun t =>
        answer sent early 1 n t ∧ t.dev.mgp.reply.waddr = w.val ∧ t.dev.mgp.reply.words = some n ∧ t.dev.mgp.reply.data = []) ∧
      (good false w.val n → (∀ i, i < n → mirrorAddr (4 * (w.val + i)) = true) → makes (.mpReadMirror nbits early w count) s fun t =>
        answer sent early 3 n t ∧ t.dev.mgp.reply.waddr = w.val ∧ t.dev.mgp.reply.words = some n) ∧
      (∀ op : Fin 11, makes (.mpReservedOp nbits early op w) s fun t => dropped (5 + op.val) t) ∧
      (∀ (data : List (BitVec 32)) (kept : Fin 5), nbits = qb + qb * n → (taken n).length ≤ kept.val → good true w.val n →
        makes (.mpWrite nbits early w count data full kept) s fun t =>
          answer sent (lost n) 2 (taken n).length t ∧ t.dev.mgp.buf = stored w.val data n) ∧
      (∀ (check : BitVec 32) (data : List (BitVec 32)) (kept : Fin 5), nbits = 2 * qb + qb * n → (taken n).length ≤ kept.val →
        good true w.val n → check.toNat % 2 ^ 24 = 0 →
        (check.toNat / 2 ^ 24 = fld GLB_MSTATE.GEN d →
          makes (.mpWriteChecked nbits early w count check data full kept) s fun t =>
            answer sent (lost n) 4 (taken n).length t ∧ t.dev.mgp.buf = stored w.val data n) ∧
        (check.toNat / 2 ^ 24 ≠ fld GLB_MSTATE.GEN d →
          makes (.mpWriteChecked nbits early w count check data full kept) s fun t =>
            framed sent early t ∧ flag MGP_STATUS.STALE t.dev = true ∧ t.dev.mgp.reply.op = 4 ∧ t.dev.mgp.reply.count = 0 ∧
            bitN t.dev.mgp.reply.flags 1 = true ∧ t.dev.mgp.buf = []))) ∧
    -- a command that the frame cuts short is discarded
    (portRests false d → 1 ≤ nbits → nbits < qb → ∀ (op : Fin 11) (check : BitVec 32) (data : List (BitVec 32)) (kept : Fin 5),
      ∀ c ∈ [Instr.mpNop nbits early, .mpRead nbits early w count, .mpReadMirror nbits early w count, .mpReservedOp nbits early op w,
        .mpWrite nbits early w count data full kept, .mpWriteChecked nbits early w count check data full kept],
        makes c s fun t => dropped 0 t ∧ t.dev.mgp.buf = []) ∧
    -- compatibility frames: a length other than LEN is marked, a header cut short is no command
    (portRests true d → 1 ≤ nbits → ∀ c : Fin 65536,
      let marked (t : State) : Prop := flag MGP_STATUS.LEN_ERR t.dev = (flag MGP_STATUS.LEN_ERR d || decide (nbits ≠ d.mgp.len))
      (24 ≤ nbits →
        (makes (.compatNop nbits early c) s fun t =>
          answer sent early 0 0 t ∧ marked t ∧ t.dev.mgp.reply.waddr = c.val ∧ t.dev.mgp.buf = []) ∧
        (good false c.val 1 → makes (.compatRead nbits early c) s fun t =>
          answer sent early 1 0 t ∧ marked t ∧ t.dev.mgp.reply.waddr = c.val ∧ t.dev.mgp.reply.words = none) ∧
        (∀ (k : Nat) (data : List (BitVec 32)) (kept : Fin 5), nbits = 24 + 32 * k → (taken k).length ≤ kept.val →
          good true c.val k → makes (.compatWrite nbits early c data full kept) s fun t =>
            answer sent (lost k) 2 (taken k).length t ∧ marked t ∧ t.dev.mgp.buf = stored c.val data k) ∧
        (∀ op : Fin 11, w.val = c.val → makes (.mpReservedOp nbits early op w) s fun t =>
          dropped 0 t ∧ marked t ∧ t.dev.mgp.reply.waddr = c.val)) ∧
      (nbits < 24 → ∀ (data : List (BitVec 32)) (kept : Fin 5),
        ∀ x ∈ [Instr.compatNop nbits early c, .compatRead nbits early c, .compatWrite nbits early c data full kept],
          makes x s fun t => answer sent early 0 0 t ∧ marked t ∧ t.dev.mgp.reply.waddr = 0 ∧ t.dev.mgp.buf = [])) ∧
    -- the reply to a READ: the words of registers that a read leaves alone follow the status word, each as it is fetched
    (∀ m k : Nat, portAnswers false 1 (some m) d → 1 ≤ m → nbits = qb + qb * k → good false r.waddr (min m (k + 1)) →
      (∀ i, i < min m (k + 1) → 4 * (r.waddr + i) ∈ plainRegs) → makes (.mpNop nbits false) s fun t =>
        answer (packBits nbits ((qb, head) :: (List.range (min m (k + 1))).map (fun i => (qb, (rdReg (4 * (r.waddr + i)) d).toNat))))
          false 0 0 t) ∧
    -- any one word, with the read's side effects
    (portAnswers false 1 (some 1) d → nbits = 2 * qb → good false r.waddr 1 → makes (.mpNop nbits false) s fun t =>
      framed (packBits nbits [(qb, head), (qb, (readValue .port (4 * r.waddr) (mpStart d)).toNat)]) false t) ∧
    -- a pair of READ_MIRROR: the value, then its generation and age
    (∀ k : Nat, portAnswers false 3 (some 1) d → nbits = 3 * qb → good false r.waddr 1 → 4 * r.waddr = 0xD100 + 4 * k →
      mirrorAddr (4 * r.waddr) = true → (regInfo (4 * r.waddr)).isSome = true → makes (.mpNop nbits false) s fun t =>
        answer (packBits nbits [(qb, head), (qb, (regView .port (4 * r.waddr) (mpStart d)).toNat),
          (qb, mirGen k (mpStart d) % 256 * 2 ^ 24 + min 0xFFFFFF (mirAge k (mpStart d)))]) false 0 0 t) ∧
    -- a compatibility READ runs to the end of its block
    (∀ k : Nat, portAnswers true 1 none d → nbits = 24 + 32 * k →
      let room := 1024 - r.waddr % 1024
      good false r.waddr (min room (k + 1)) → (∀ i, i < min room (k + 1) → 4 * (r.waddr + i) ∈ plainRegs) →
      ∀ c : Fin 65536, makes (.compatNop nbits false c) s fun t =>
        framed (packBits nbits ((24, head) :: (List.range (min room (k + 1))).map (fun i => (32, (rdReg (4 * (r.waddr + i)) d).toNat))))
          false t ∧ bitN t.dev.mgp.reply.flags 4 = decide (room < k)) ∧
    (auxOn d = true → r.reads = false → r.started ≤ 1 → d.mgp.buf = [] → ∀ extra : Nat, makes (.mpRecoveryFrame extra early) s fun t =>
      flag MGP_STATUS.COMPAT_IF t.dev = false ∧ mpW t.dev = 32 ∧ t.dev.mgp.len = 56 ∧
      flag MGP_STATUS.RECOVERED t.dev = true ∧ rdReg MGP_CFG.addr t.dev = regReset MGP_CFG.addr ∧
      rdReg MGP_LEN.addr t.dev = regReset MGP_LEN.addr ∧ t.dev.mgp.faults = [] ∧ t.dev.mgp.reply.op = 15 ∧
      t.dev.mgp.reply.flags = 0 ∧ t.dev.mgp.reply.count = 0 ∧ t.dev.mgp.reply.recovery = true ∧
      flag MGP_STATUS.ACTIVE t.dev = false ∧ (mainRuns d = true → raised 196 t) ∧
      (∀ c, portRests c d → nbits = 64 + extra → ∃ l, t.dev.out = d.out ++ .mpReply nbits sent :: l)) ∧
    (∀ (a v : Nat) (rest : List (Nat × Nat)), d.mgp.buf = (a, v) :: rest → v < 2 ^ 32 →
      (4 * a ∈ plainRegs → reachable d → encodingAt (4 * a) (valueLeft (4 * a) (BitVec.ofNat 32 v) d) d = true →
        makes .mpBufferedWriteIssue s fun t => t.dev.mgp = { d.mgp with buf := rest } ∧
          rdReg (4 * a) t.dev = valueLeft (4 * a) (BitVec.ofNat 32 v) d ∧ regsKeptBut [4 * a] d t.dev) ∧
      (wordFault a true d = some 2 → makes .mpBufferedWriteIssue s fun t =>
        t = { s with dev := { d with mgp := { d.mgp with
          buf := rest, faults := d.mgp.faults ++ [⟨2, a % 2 ^ 18⟩] } } })) ∧
    (auxOn d = true → r.op = 1 → r.recovery = false → r.words = some n → r.got < n → d.mgp.buf = [] →
      inBlock r.waddr (r.waddr + r.got) = true →
      wordFault (r.waddr + r.got) false d = none → flag MGP_STATUS.ACTIVE d = true → ∀ started : Nat,
      -- a word is fetched once the quantity before it has started
      (started < r.got + 1 → r.started < r.got + 1 → ∀ late : Fin 3, makes (.mpFetchDone ⟨late, started⟩) s fun t => t = s) ∧
      -- a word that is late is replaced by the quantity sent before it
      (r.got + 1 ≤ started → ∀ late : Fin 3, makes (.mpFetchDone ⟨late, started⟩) s fun t =>
        let a := 4 * (r.waddr + r.got)
        let before := r.data.getLastD head
        t.dev.mgp = { d.mgp with
          undr := d.mgp.undr || decide (0 < late.val)
          reply := { r with
            got := r.got + 1, started := max started r.started
            data := r.data ++ [if 0 < late.val then before else (readValue .port a d).toNat] } }))

/-! ### Sensors, power and the emitter pattern -/

/-- R33, R353, R365, R366, R368, R370, R373, R377: a window of every sensor, power measurements, the warm-up timer, APPLY. The model's
choices: the formula of the trim (log entry 53) and the counts that make a sensor BROKEN (log entry 42). -/
def Obligations.SensorsPowerAndPattern : Prop :=
  ∀ (s : State),
    let d := s.dev
    (∀ (rest : SensCount) (xs : List SensCount), auxOn d = true → makes (.sensorWindow rest xs) s fun t =>
      let x (n : Nat) : SensCount := xs.getD n rest
      let temp (n : Nat) : Int := trimmed n (x n) d
      let inside (n : Nat) : Prop := -70 * 64 ≤ temp n ∧ temp n ≤ 160 * 64
      let hottestNow : Int := (hottest t.dev).2
      (∀ n, n < 200 → inside n → (sensor n d).prev ≠ some (x n) → (sensor n d).broken = false →
        (sensor n t.dev).last = (temp n :: (sensor n d).last).take 4 ∧ (sensor n t.dev).broken = false ∧
        (sensor n t.dev).reps = 0 ∧ (sensor n t.dev).outs = 0) ∧
      (∀ n, n < 200 → (sensor n d).broken = false → ¬inside n → 3 ≤ (sensor n d).outs →
        (sensor n t.dev).broken = true ∧ (sensor n t.dev).fast = 125 * 64) ∧
      (∀ n, n < 200 → (sensor n d).broken = false → (sensor n d).prev = some (x n) → 15 ≤ (sensor n d).reps →
        (sensor n t.dev).broken = true) ∧
      (125 * 64 ≤ hottestNow → mstate d ≠ stOFF → mstate d ≠ stAUX → mstate t.dev = stAUX ∧
        fld GLB_MSTATE.HOLD_CAUSE t.dev = 0x11 ∧ t.dev.pw.critHold = true) ∧
      (115 * 64 ≤ hottestNow → hottestNow < 122 * 64 → safeFrom d = true → mstate t.dev = stSAFE ∧
        fld GLB_MSTATE.HOLD_CAUSE t.dev = 1) ∧
      fld GAF_STATUS.HOT t.dev ≤ 4) ∧
    (∀ mw : Nat, mstate d ≠ stAUX → mstate d ≠ stOFF → makes (.powerMeasurement mw) s fun t =>
      t.dev.gaf.hist = (mw :: d.gaf.hist).take 4000 ∧ t.dev.gaf.psum = d.gaf.psum + mw ∧ t.dev.gaf.pcnt = d.gaf.pcnt + 1 ∧
      t.dev.gaf.sens = d.gaf.sens ∧
      (flag GAF_STATUS.OVER d = false → fld GAF_PLIM.LIMIT d * 100 * t.dev.gaf.hist.length < t.dev.gaf.hist.foldl (· + ·) 0 →
        flag GAF_STATUS.OVER t.dev = true ∧ (mainRuns d = true → raised 237 t))) ∧
    (auxOn d = true → -2560 ≤ (coldest d).2 → fld GAF_SPREAD.SPREAD d ≤ 200 → makes .warmOkTimer s fun t =>
      flag GAF_STATUS.WARM_OK t.dev = true ∧ t.dev.gaf = d.gaf ∧
      (mainRuns d = true → flag GAF_STATUS.WARM_OK d = false → raised 238 t)) ∧
    (∀ (p : Path) (v : BitVec 32), reachable d → makes (.emtApply p v) s fun t =>
      flag EMT_STATUS.PENDING t.dev = true ∧ regsKeptBut [EMT_CTRL.addr, EMT_STATUS.addr] d t.dev ∧
      t = { s with dev := { d with main := t.dev.main } })

/-- R181, R302, R305, R307, R308, R318, R342, R345, R358, R446: what the host end does with each message from the field side. The
model's choices: the views that sources 209 to 211 compare (log entry 38), and the mirrors that show SHUTTER MOVING (log entry
28). -/
def Obligations.HostEndActsOnMessages : Prop :=
  ∀ (s : State) (m : XMsg),
    let d := s.dev
    let p := m.p
    -- MODE, INHIBIT and PLAUS_FAULT: as they come, as the last FIELD_EVENT gave them, and as HBEAT_F has shown them since
    let now : Nat × Bool × Bool := (bitsN p 46 45, bitN p 44, bitN p 43)
    let told : Nat × Bool × Bool := d.xh.told.getD (0, false, false)
    let known : Nat × Bool × Bool := d.xh.since.getD told
    let gets (typ : Nat) (c : Instr) (post : State → Prop) : Prop :=
      arrivesUp typ m d → makes c s fun t => t.dev.xh.wire = d.xh.wire.drop 1 ∧ t.dev.xh.rxSeq = some m.seq ∧
        t.dev.fl = d.fl ∧ post t
    gets 0x10 .hbeatF (fun t => t.dev.xh.seen = some (bitsN p 42 35) ∧ t.dev.xh.inh = bitN p 44 ∧
      t.dev.xh.beat = some (bitsN p 21 0, modTime d) ∧ t.dev.xh.told = d.xh.told ∧ t.dev.xh.since = some now ∧
      (now.2.1 ≠ known.2.1 → raised 210 t) ∧ (now.2.2 ≠ known.2.2 → raised 211 t)) ∧
    gets 0x18 .fieldEvent (fun t => t.dev.xh.seen = some (bitsN p 42 35) ∧ t.dev.xh.inh = bitN p 44 ∧
      t.dev.xh.told = some now ∧ t.dev.xh.since = none ∧
      (now.1 ≠ told.1 ∨ now.1 ≠ known.1 ∨ (now = told ∧ now = known) → raised 209 t) ∧
      -- a RUN whose GEN is more than one change on has left a field SAFE of which nothing was heard
      (∀ x, d.xh.seen = some x → now.1 = 1 → bitsN p 42 35 ≠ x → bitsN p 42 35 ≠ (x + 1) % 256 → raised 209 t) ∧
      (now.2.1 ≠ known.2.1 → raised 210 t) ∧ (now.2.2 ≠ known.2.2 → raised 211 t)) ∧
    (mirrorOk (bitsN p 38 32) = true → gets 0x12 .mirror (fun t =>
      let k := bitsN p 38 32
      let moves : Prop := bitsN p 2 0 = acWAITING ∨ bitsN p 2 0 = acRUNNING ∨ bitsN p 2 0 = acDECAY
      rdReg (0xD100 + 4 * k) t.dev = BitVec.ofNat 32 (bitsN p 31 0) ∧ mirGen k t.dev = bitsN p 46 39 ∧
      (k < 64 ∨ 100 ≤ k → t.dev.xh.seen = some (bitsN p 46 39)) ∧
      (k = 64 ∨ k = 70 → moves → flag GLB_MSTATE.FIELD_ABSENT d = false → fld TAKE_STATUS.SHUTTER t.dev = shMOVING))) ∧
    gets 0x14 .hkEvent (fun t =>
      let k := bitsN p 46 43
      (1 ≤ k → k ≤ 3 → raised 211 t) ∧ (k = 4 ∨ k = 5 → raised 212 t) ∧ (k = 8 ∨ k = 9 → raised 213 t)) ∧
    gets 0x15 .actEvent (fun t =>
      let k := bitsN p 43 40
      (k = 1 ∨ k = 2 → raised 215 t) ∧ (k = 3 ∨ k = 4 → raised 216 t) ∧ (k = 6 → raised 217 t) ∧
      (k = 7 → raised 218 t)) ∧
    (bitsN p 46 44 < 6 → gets 0x16 .shotStatus (fun t =>
      rdReg (ACT_LAST.addr (bitsN p 46 44)) t.dev = BitVec.ofNat 32 (pf 31 29 (bitsN p 38 36) +
        pf 28 24 (bitsN p 43 39) + pf 23 16 (bitsN p 35 28) + pf 15 15 1 + pf 5 0 (bitsN p 27 22)) ∧
      (bitsN p 38 36 ≠ 0 → raised 214 t) ∧ (bitsN p 38 36 = 2 ∨ bitsN p 38 36 = 3 → raised 217 t) ∧
      (bitsN p 38 36 = 0 → flag GLB_MSTATE.FIELD_ABSENT d = false →
        (bitsN p 46 44 = 0 → d.take.shMove.2 = false → fld TAKE_STATUS.SHUTTER t.dev = shCLOSED) ∧
        (bitsN p 46 44 = 1 → d.take.shMove.1 = false → fld TAKE_STATUS.SHUTTER t.dev = shOPEN)))) ∧
    gets 0x17 .indStatus (fun t =>
      rdReg IND_LAST_STAT.addr t.dev = BitVec.ofNat 32 (pf 31 30 (bitsN p 46 45) + pf 29 24 (bitsN p 44 39) +
        pf 23 16 (bitsN p 38 31) + pf 15 15 1) ∧ t.dev.xh.seen = some (bitsN p 38 31) ∧
      (bitsN p 46 45 = 2 → raised 220 t) ∧ (bitsN p 46 45 = 1 → raised 221 t)) ∧
    gets 0x19 .bootF (fun t =>
      (∀ n k, n < 6 → k < 32 → rdReg (SHOT.addr n k) t.dev = regReset (SHOT.addr n k)) ∧
      (∀ n, n < 6 → rdReg (ACT_LAST.addr n) t.dev = regReset (ACT_LAST.addr n)) ∧
      rdReg IND_LAST_STAT.addr t.dev = regReset IND_LAST_STAT.addr ∧
      (∀ n, n < 64 → flag (IND_NODE.DIRTY n) t.dev = true) ∧
      t.dev.take.shPos = shUNKNOWN ∧ fld TAKE_STATUS.SHUTTER t.dev = shUNKNOWN) ∧
    (∀ t0, d.xh.echo = some (pTag p, t0) → gets 0x1A .echo (fun t => t.dev.xh.echo = none ∧
      fld FLD_XSTATE.RTT t.dev = min 0xFFE ((d.sl.tick - t0) / 400))) ∧
    (bitsN p 38 36 < 6 → gets 0x1B .shotData (fun t =>
      rdReg (SHOT.addr (bitsN p 38 36) (bitsN p 35 31)) t.dev = BitVec.ofNat 32 (bitsN p 23 0) ∧
      t.dev.xh.pend = d.xh.pend.eraseP (fun e => e.tag == pTag p))) ∧
    (∀ e, xPendOf (pTag p) d = some e → gets 0x11 .ack (fun t =>
      (e.act = .plain → t.dev.xh.pend = d.xh.pend.eraseP (fun x => x.tag == pTag p)) ∧
      (∀ a v, e.act = .shotWr a v → bitsN p 38 36 = 0 → rdReg a t.dev = BitVec.ofNat 32 v &&& 0xFFFFFF#32) ∧
      (∀ a v, e.act = .regWr a v → t.dev.xh.seen = some (bitsN p 35 28) ∧
        (bitsN p 38 36 = 3 → countedOnce FLD_XERR.REJECT (hostReceived m d) t.dev) ∧
        -- the next write of that register goes out
        ∀ y, (d.xh.pend.eraseP (fun x => x.tag == pTag p)).find? (fun z => writesReg a z.act) = some y → y.tries = 0 →
          underWay y.typ t)))

/-- R317: a housekeeping record goes to every ENABLED housekeeping ring, or is discarded where none is, with the module time of
the sample. -/
def Obligations.HousekeepingRecordsReachTheirRings : Prop :=
  ∀ (s : State) (m : XMsg) (fh th : Nat),
    let d := s.dev
    let p := m.p
    let x : Int := ((fh : Int) - bitsN p 21 0 + 2097152) % 4194304 - 2097152
    let time : Nat := (((th : Int) - 1000 * x - 4000) % 4294967296).toNat
    let rings := d.rings.tab.filter (fun x => x.2.st == rgENABLED && x.2.typ == 6)
    let record (w0 w1 : Nat) : List (BitVec 8) := leBytes 4 w0 ++ leBytes 4 w1 ++ leBytes 4 time ++ leBytes 4 (d.sl.no % 2 ^ 32)
    d.xh.beat = some (fh, th) →
    (arrivesUp 0x13 m d → makes .hkResult s fun t =>
      let w0 : Nat := 1 + 2 ^ 8 * bitsN p 46 42 + 2 ^ 13 * bitsN p 41 41 + 2 ^ 14 * bitsN p 40 40 +
        2 ^ 15 * bitsN p 39 39 + 2 ^ 16 * bitsN p 38 38
      t.dev = forD rings (fun x => putRecord x.1 (record w0 (bitsN p 37 22))) (hostReceived m d) ∧
      t.store = s.store ∧ t.pending = s.pending) ∧
    (arrivesUp 0x14 m d → makes .hkEvent s fun t =>
      t.dev.rings = (forD rings (fun x => putRecord x.1 (record (2 + 2 ^ 8 * bitsN p 42 38)
        (bitsN p 37 22 + 2 ^ 16 * bitsN p 46 43))) (hostReceived m d)).rings)

/-- R297, R305, R308, R319, R345: the host end's time limits, and the register writes that it sends on. The model's choices (log
entries 36 and 38): a third sending without an answer drops what is not of priority 3, nothing waits for an answer once the
crossing leaves UP, a write waits for an earlier one of its register, and the bits of a mirror that a write sends. -/
def Obligations.HostEndLimitsAndForwardedWrites : Prop :=
  ∀ (s : State),
    let d := s.dev
    let mayForward : Prop := reachable d ∧ flag GLB_MSTATE.FIELD_ABSENT d = false ∧ wrPend d < 16
    (mainRuns d = true → xState d ≠ 0 → makes .crossingTimeout s fun t => xState t.dev = 0 ∧
      (xState d = 2 → isS d = false → t.dev.xh.pend = [] ∧ flag GLB_MSTATE.FIELD_ABSENT t.dev = true)) ∧
    (∀ (tag : Fin 256) e, xPendOf tag.val d = some e → xIsSent tag.val d = true → mainRuns d = true →
      (e.tries = 0 → makes (.ackTimeout tag) s fun t => t = s) ∧
      (1 ≤ e.tries → e.tries < 3 → makes (.ackTimeout tag) s fun t =>
        t = { s with dev := { d with xh := t.dev.xh } } ∧ t.dev.xh.tx = queued d.xh.tx e.typ e.p ∧
        t.dev.xh.pend = d.xh.pend.map (fun y => if y.tag = tag.val then { y with tries := y.tries + 1 } else y)) ∧
      (3 ≤ e.tries → xPrio e.typ = 3 → makes (.ackTimeout tag) s fun t => xState t.dev = 1) ∧
      (3 ≤ e.tries → xPrio e.typ ≠ 3 → makes (.ackTimeout tag) s fun t =>
        t = { s with dev := { d with xh := { d.xh with pend := d.xh.pend.eraseP (fun x => x.tag == tag.val) } } })) ∧
    (d.xh.echo.isSome = true → makes .echoTimeout s fun t =>
      t.dev.xh = { d.xh with echo := none } ∧ fld FLD_XSTATE.RTT t.dev = 0xFFF ∧ regsKeptBut [FLD_XSTATE.addr] d t.dev) ∧
    (∀ (p : Path) (v : BitVec 32), reachable d → flag GLB_MSTATE.FIELD_ABSENT d = false →
      makes (.xctrlRefresh p v) s fun t => awaits 0x0A 0 .plain s t) ∧
    (∀ (p : Path) (v : BitVec 32), reachable d → flag GLB_MSTATE.FIELD_ABSENT d = false →
      makes (.xctrlEcho p v) s fun t => underWay 0x0B t) ∧
    (∀ (p : Path) (k : Fin 128) (v : BitVec 32) (r : RegInfo), mayForward → regInfo (0xD100 + 4 * k.val) = some r →
      r.writable = true → makes (.mirrorWrite p k v) s fun t =>
        let x := (v &&& r.rw).toNat
        let a := 0xD100 + 4 * k.val
        awaitsInOrder a 0x06 (pf 38 32 k.val + pf 31 0 x) (.regWr a v.toNat) s t ∧ t.dev.main = d.main) ∧
    (∀ (p : Path) (n : Fin 6) (k : Fin 32) (v : BitVec 32), mayForward → makes (.shotRegisterWrite p n k v) s fun t =>
        let x := ((rdReg (SHOT.addr n.val k.val) d &&& 0xFF000000#32) ||| (v &&& 0xFFFFFF#32)).toNat
        let a := SHOT.addr n.val k.val
        awaitsInOrder a 0x05 (pf 38 36 n.val + pf 35 31 k.val + pf 23 0 x) (.shotWr a x) s t ∧ t.dev.main = d.main)

/-! ### The crossing and the field companion -/

/-- R294 to R296, R309: what the two ends of the crossing send. -/
def Obligations.CrossingEndsSendTheirMessages : Prop :=
  ∀ (s : State),
    let d := s.dev
    (d.xh.on = true → mainRuns d = true → mstate d ≠ stSAFE → makes .hbeatHSend s fun t =>
      hostQueues 0x01 (pf 46 43 (mstate d) + pf 42 42 (fld CELL_RELAY.REQ d) + pf 41 41 (b2n (inTake d)) +
        pf 40 25 d.sl.no + pf 24 17 d.xh.gbase) s t) ∧
    (mstate d = stSAFE → makes .safeMessageSend s fun t => hostQueues 0x03 0 s t) ∧
    (d.fl.on = true → makes .hbeatFSend s fun t =>
      let p := pf 46 45 d.fl.mode + pf 44 44 (b2n d.fl.inh) + pf 43 43 (b2n d.fl.plaus) + pf 42 35 d.fl.gen +
        pf 34 31 d.fl.cause + pf 30 22 d.fl.hk.buf.length
      fieldQueues 0x10 p s t ∧ (d.fl.tx.cur = none → d.fl.tx.queue = [] →
        t.dev.fl.tx.cur = some (⟨0x10, p + pf 21 0 (fieldFT d), none⟩, d.fl.tx.seq))) ∧
    (d.fl.on = true → fFld FLD_FID.REV d ≠ 1 → makes .bootFSend s fun t =>
      fieldQueues 0x19 (pf 46 39 1) s t ∧ fFld FLD_FID.REV t.dev = 1) ∧
    (∀ (k : Fin 128) (limit : Bool), d.fl.on = true → mirrorOk k.val = true →
      (limit = true ∨ mfind d.fl.sent k.val ≠ some (fieldValue k.val d, fieldGen k.val d)) →
      makes (.mirrorSend k limit) s fun t =>
        fieldQueues 0x12 (pf 46 39 (fieldGen k.val d) + pf 38 32 k.val + pf 31 0 (fieldValue k.val d)) s t ∧
        mfind t.dev.fl.sent k.val = some (fieldValue k.val d, fieldGen k.val d)) ∧
    (∀ i n, d.xh.tx.cur = some (i, n) → d.fl.on = true → makes (.crossingMessageSent true) s fun t =>
      t = { s with dev := { d with xh := t.dev.xh, fl := t.dev.fl } } ∧
      t.dev.fl = { d.fl with wire := d.fl.wire ++ [⟨i.typ, n, i.p⟩] } ∧
      t.dev.xh.tx = XTx.pump { d.xh.tx with cur := none }) ∧
    (∀ i n, d.fl.tx.cur = some (i, n) → mainRuns d = true → makes (.crossingMessageSent false) s fun t =>
      t = { s with dev := { d with xh := t.dev.xh, fl := t.dev.fl } } ∧
      t.dev.xh = { d.xh with wire := d.xh.wire ++ [⟨i.typ, n, i.p⟩] } ∧
      -- an HBEAT_F takes its FT as it is sent
      ∀ j k, t.dev.fl.tx.cur = some (j, k) → j.typ = 0x10 → bitsN j.p 21 0 = fieldFT d) ∧
    (∀ w, (xCrcOk w && xTypeOk true w) = false → makes (.crossingMessageInvalid true w) s fun t =>
      t = { s with dev := { d with fl := { d.fl with wire := d.fl.wire.drop 1 } } }) ∧
    (∀ w, (xCrcOk w && xTypeOk false w) = false → mainRuns d = true → makes (.crossingMessageInvalid false w) s fun t =>
      t.dev.xh = { d.xh with wire := d.xh.wire.drop 1 } ∧ regsKeptBut [FLD_XERR.addr] d t.dev ∧
      (xCrcOk w = false → countedOnce FLD_XERR.CRC d t.dev) ∧ (xCrcOk w = true → countedOnce FLD_XERR.TYPE d t.dev))

/-- R27, R299, R300, R302, R303, R304, R309, R338, R341, R345: the messages that need no answer at the field companion, and its own
time limits. The model's choices: MIRROR_REQ is answered whatever MIR_MIN is (log entry 38), and a SAFE message forgets the
relay's request (log entry 40). -/
def Obligations.FieldCompanionModesAndHeartbeats : Prop :=
  ∀ (s : State),
    let d := s.dev
    let f := d.fl
    (∀ m, fieldArrives 0x01 d = some m → f.mode = 0 → f.low = false → f.die = false → makes .hbeatH s fun t =>
      onlyField s t ∧ t.dev.fl.mode = 1 ∧ t.dev.fl.fresh = false ∧ t.dev.fl.wire = f.wire.drop 1 ∧
      t.dev.fl.gen = ((if f.fresh = true then bitsN m.p 24 17 else f.gen) + 1) % 256) ∧
    (∀ m, fieldArrives 0x01 d = some m → f.mode = 0 → f.low = true ∨ f.die = true → makes .hbeatH s fun t =>
      onlyField s t ∧ t.dev.fl.wire = f.wire.drop 1 ∧
      t.dev.fl.gen = if f.fresh = true then bitsN m.p 24 17 else f.gen) ∧
    (∀ m, fieldArrives 0x02 d = some m → f.mode = 1 → fFlag (ACT_CFG.FOLLOW 4) d = true → makes .slateMark s fun t =>
      onlyField s t ∧ t.dev.fl.rq = some (bitN m.p 46) ∧ t.dev.fl.wire = f.wire.drop 1) ∧
    (∀ m, fieldArrives 0x03 d = some m → f.mode ≠ 0 → makes .safeMessage s fun t =>
      onlyField s t ∧ t.dev.fl.mode = 0 ∧ t.dev.fl.cause = 3 ∧ t.dev.fl.rq = none) ∧
    (f.on = true → f.mode ≠ 0 → makes .fieldHeartbeatTimeout s fun t =>
      onlyField s t ∧ t.dev.fl.mode = 0 ∧ t.dev.fl.cause = 2) ∧
    (f.on = true → f.mode ≠ 0 → makes .vvehLowDetect s fun t =>
      onlyField s t ∧ t.dev.fl.low = true ∧ t.dev.fl.mode = 0 ∧ t.dev.fl.cause = 4) ∧
    (makes .vvehLowClear s fun t => t = { s with dev := { d with fl := { f with low := false } } }) ∧
    (∀ t0 t1 t2 t3 : Int, f.on = true → makes (.inhibitChange t0 t1 t2 t3) s fun t =>
      onlyField s t ∧ t.dev.fl.inh =
        (if [t0, t1, t2, t3].any (fun x => decide (x < -2880)) = true then true
         else if [t0, t1, t2, t3].all (fun x => decide (-2752 ≤ x)) = true then false else f.inh)) ∧
    (d.pw.vveh = false → isS d = false → makes .vvehApplied s fun t =>
      t.dev.pw = { d.pw with vveh := true } ∧ t.dev.fl.on = true ∧ t.dev.fl.mode = 0 ∧ t.dev.fl.cause = 1 ∧
      t.dev.fl.regs.all (fun x => x.1 == HK_STAT.addr) = true) ∧
    (d.pw.vveh = true → makes .vvehLost s fun t =>
      t = { s with dev := { d with pw := { d.pw with vveh := false }, fl := {} } }) ∧
    (∀ m, fieldArrives 0x0B d = some m → makes .echoReq s fun t =>
      onlyField s t ∧ t.dev.fl.wire = f.wire.drop 1 ∧ t.dev.fl.tx = fieldQueued d 0x1A m.p) ∧
    (∀ m, fieldArrives 0x0C d = some m → bitsN m.p 38 36 < 6 → makes .shotRd s fun t =>
      onlyField s t ∧ t.dev.fl.wire = f.wire.drop 1 ∧
      t.dev.fl.tx = fieldQueued d 0x1B (pf 46 31 (bitsN m.p 46 31) +
        pf 23 0 (shotStep (bitsN m.p 38 36) (bitsN m.p 35 31) d))) ∧
    (∀ m, fieldArrives 0x0A d = some m → f.tags.find? (fun x => x.1 == pTag m.p) = none →
      (∀ i ∈ f.tx.queue, i.ack ≠ some (pTag m.p)) → (∀ i n, f.tx.cur = some (i, n) → i.ack ≠ some (pTag m.p)) →
      makes .mirrorReq s fun t =>
      onlyField s t ∧ t.dev.fl.wire = f.wire.drop 1 ∧
      ∀ k, mirrorOk k = true → mfind t.dev.fl.sent k = some (fieldValue k d, fieldGen k d))

/-- R304 to R308, R323, R324, R329, R331, R332, R341, R357: the tagged messages at the field companion, new and repeated. BADSEQ
from HOLDING goes to DECAY (the model's choice, log entry 40). -/
def Obligations.FieldCompanionActsOnTaggedMessages : Prop :=
  ∀ (s : State) (m : XMsg),
    let d := s.dev
    let f := d.fl
    let n := bitsN m.p 29 27
    let genOk (g : Nat) : Prop := bitN m.p 38 = false ∨ bitsN m.p 37 30 = g
    (arrivesNew 0x04 m d → n < 6 → bitsN m.p 26 23 = 1 → genOk (chan n d).gen → actRefused n d = false →
      (chan n d).st = acOFF → (chan n d).held = false → f.inh = false →
      (exclusive n d = true → (chan (partner n) d).busy = false) → listOk (stepLimit n d) (shotList n d) = true →
      (modelOn n d = true → fFlag (ACT_CFG.POLICY n) d = false → heatRefused n (shotList n d) d = false) →
      makes .actRun s fun t =>
        answered m.p 0 (chan n d).gen s t ∧ (chan n t.dev).st = acRUNNING ∧ (chan n t.dev).step = 0 ∧
        (chan n t.dev).req = 1 ∧ (chan n t.dev).gen = ((chan n d).gen + 1) % 256 ∧
        (chan n t.dev).list = shotList n d) ∧
    -- the partner of an EXCLUSIVE pair is in operation
    (arrivesNew 0x04 m d → n < 6 → bitsN m.p 26 23 = 1 → genOk (chan n d).gen → actRefused n d = false →
      (chan n d).st = acOFF → (chan n d).held = false → exclusive n d = true → (chan (partner n) d).busy = true →
      makes .actRun s fun t =>
        answered m.p 0 (chan n d).gen s t ∧ (chan n t.dev).st = acWAITING ∧ (chan n t.dev).held = true) ∧
    -- a list that is not legal
    (arrivesNew 0x04 m d → n < 6 → bitsN m.p 26 23 = 1 → genOk (chan n d).gen → actRefused n d = false →
      ((chan n d).st = acOFF ∨ (chan n d).st = acHOLDING) → (chan n d).held = false →
      (exclusive n d = true → (chan (partner n) d).busy = false) → listOk (stepLimit n d) (shotList n d) = false →
      makes .actRun s fun t =>
        answered m.p 0 (chan n d).gen s t ∧ (chan n t.dev).cause = ocBADSEQ ∧ (chan n t.dev).target = 0 ∧
        (chan n t.dev).st = if (chan n d).st = acHOLDING then acDECAY else acOFF) ∧
    (arrivesNew 0x04 m d → n < 6 → bitsN m.p 26 23 = 2 → genOk (chan n d).gen → actRefused n d = false →
      (chan n d).driven = true → makes .actOff s fun t =>
        answered m.p 0 (chan n d).gen s t ∧ (chan n t.dev).st = acDECAY ∧ (chan n t.dev).req = 2 ∧
        (chan n t.dev).held = false) ∧
    (arrivesNew 0x04 m d → n < 6 → bitsN m.p 26 23 = 2 → genOk (chan n d).gen → actRefused n d = false →
      (chan n d).st = acWAITING → makes .actOff s fun t =>
        answered m.p 0 (chan n d).gen s t ∧ ((chan n t.dev).st = acOFF ∨ (chan n t.dev).st = acSLAVE) ∧
        (chan n t.dev).held = false) ∧
    (arrivesNew 0x05 m d → bitsN m.p 38 36 < 6 → stepOk (stepLimit (bitsN m.p 38 36) d) (bitsN m.p 23 0) = true →
      makes .shotWr s fun t =>
        answered m.p 0 f.gen s t ∧ shotStep (bitsN m.p 38 36) (bitsN m.p 35 31) t.dev = bitsN m.p 23 0) ∧
    (arrivesNew 0x06 m d → mirrorOk (bitsN m.p 38 32) = true → regWrOk (bitsN m.p 38 32) (bitsN m.p 31 0) = true →
      makes .regWr s fun t =>
        let a := 0xD100 + 4 * bitsN m.p 38 32
        -- MODE of the main switch is read-only
        let rw : BitVec 32 := match regInfo a with
          | some r => if bitsN m.p 38 32 = 100 then r.rw &&& 0xFFFFFFFE#32 else r.rw
          | none => 0
        answered m.p 0 f.gen s t ∧
        fReg a t.dev = ((fReg a d &&& ~~~rw) ||| (BitVec.ofNat 32 (bitsN m.p 31 0) &&& rw))) ∧
    (∀ a, arrivesNew 0x07 m d → genOk f.gen → bitsN m.p 29 26 = a →
      (a = 1 → makes .hkStart s fun t => answered m.p 0 f.gen s t ∧ fFlag HK_CFG.RUN t.dev = true) ∧
      (a = 2 → makes .hkStop s fun t => answered m.p 0 f.gen s t ∧ fFlag HK_CFG.RUN t.dev = false) ∧
      (a = 3 → makes .hkCalA s fun t => answered m.p 0 f.gen s t ∧
        ((hkConv false t.dev).busy = 3 ∨ (hkConv false t.dev).cal = true)) ∧
      (a = 4 → makes .hkCalB s fun t => answered m.p 0 f.gen s t ∧
        ((hkConv true t.dev).busy = 3 ∨ (hkConv true t.dev).cal = true)) ∧
      (a = 5 → makes .hkCalBoth s fun t => answered m.p 0 f.gen s t ∧
        ∀ b, (hkConv b t.dev).busy = 3 ∨ (hkConv b t.dev).cal = true) ∧
      (a = 6 → makes .hkClearBuf s fun t => answered m.p 0 f.gen s t ∧ t.dev.fl.hk.buf = [])) ∧
    (arrivesNew 0x08 m d → makes .indData s fun t => answered m.p 0 f.gen s t ∧
      mget (fun _ => 0) t.dev.fl.table (bitsN m.p 38 33) = bitsN m.p 32 17) ∧
    (arrivesNew 0x09 m d → f.mode ≠ 0 → (bitN m.p 32 = false ∨ bitsN m.p 31 24 = f.gen) → makes .indLatch s fun t =>
      answered m.p 0 f.gen s t ∧ t.dev.fl.latch = some (bitsN m.p 38 33)) ∧
    -- a TAG among the last 16 is answered again and not acted on
    (∀ x : Nat × Nat × Nat,
      s.dev.fl.tags.find? (fun y => y.1 == pTag m.p) = some x →
      let again (c : Instr) : Prop := makes c s fun t =>
        t.dev.fl.wire = s.dev.fl.wire.drop 1 ∧ t.dev.fl.tags = s.dev.fl.tags ∧ t.dev.fl.chans = s.dev.fl.chans ∧
        t.dev.fl.regs = s.dev.fl.regs ∧ t.dev.fl.lists = s.dev.fl.lists ∧ t.dev.fl.table = s.dev.fl.table ∧
        t.dev.fl.latch = s.dev.fl.latch ∧ t.dev.fl.hk = s.dev.fl.hk ∧ t.dev.fl.sent = s.dev.fl.sent ∧
        fieldQueues 0x11 (pf 46 39 x.1 + pf 38 36 x.2.1 + pf 35 28 x.2.2) s t
      (fieldArrives 0x04 s.dev = some m → bitsN m.p 26 23 ≠ 2 → again .actRun) ∧
      (fieldArrives 0x04 s.dev = some m → bitsN m.p 26 23 = 2 → again .actOff) ∧
      (fieldArrives 0x05 s.dev = some m → again .shotWr) ∧ (fieldArrives 0x06 s.dev = some m → again .regWr) ∧
      (∀ c, (bitsN m.p 29 26, c) ∈ [(1, Instr.hkStart), (2, .hkStop), (3, .hkCalA), (4, .hkCalB), (5, .hkCalBoth), (6, .hkClearBuf)] →
        fieldArrives 0x07 s.dev = some m → again c) ∧
      (fieldArrives 0x0A s.dev = some m → again .mirrorReq) ∧
      (fieldArrives 0x08 s.dev = some m → again .indData) ∧ (fieldArrives 0x09 s.dev = some m → again .indLatch))

/-- R29, R95, R114, R206 to R208, R210, R216: the evaluation of every cell of the 512 x 512 in blanking slot 28, and the alarm
map that it leaves, where a SKIPPED cell keeps its bit. Evaluation is done as slot 28 starts (the model's choice, log entry 16). -/
def Obligations.CellsAreEvaluated : Prop :=
  ∀ (s : State) (x : SlotIn),
    let d := s.dev
    blankStarts 28 x d → d.cw.apply = false → (∀ n k, n < 64 → k < 3 → zoneReg n k d = zoneIn n k d) →
      makes (.rowSlotEnd x) s fun t =>
        flag AMAP_INFO.VALID t.dev = true ∧ fld AMAP_SLATE.SLATE t.dev = slate32 d ∧
        (x.unevaluated = [] → d.en.missed = [] →
          (flag GLB_MSTATE.WATCHING t.dev = true ↔ radInForce d = true ∧ cellsZero d = false ∧
            ∀ e, e < 1024 → engState e d ≠ enFAULT)) ∧
        ∀ i, i < 262144 →
          let p := i % 512
          let q := i / 512
          let e := if q < 256 then 2 * p else 2 * p + 1
          let c := cellOf i d
          let r := mget cellRecD d.en.handed (256 * e + q % 256)
          let skipped : Prop := 2 * p ∈ d.en.missed ∨ 2 * p + 1 ∈ d.en.missed ∨ i ∈ x.unevaluated
          -- a release acts first
          let c0 : Cell := if c.rel = true ∧ c.st ≠ 0 then { c with st := 0, p := 0, rel := false } else { c with rel := false }
          (skipped → cellOf i t.dev = c) ∧
          (¬ skipped → r.count = 0 → cellOf i t.dev = c0) ∧
          (¬ skipped → r.count ≠ 0 →
            cellOf i t.dev = cellAfter (zone (cellZone i d) d) (nslots d * ticksInForce d) r c0) ∧
          let bit : Fld := ⟨AMAP_BIT.addr (i / 32), i % 32, i % 32⟩
          (skipped → flag bit t.dev = flag bit d) ∧ (¬ skipped → flag bit t.dev = decide ((cellOf i t.dev).st = 2))

/-- R299, R310 to R316: the housekeeping converters: scans, the destinations of a result, the plausibility comparison, open-wire
tests, injected conversions and calibrations. -/
def Obligations.HousekeepingConvertersServeTheScan : Prop :=
  ∀ (s : State) (b : Bool),
    let d := s.dev
    let h := d.fl.hk
    let c := hkConv b d
    d.fl.on = true →
    (fFlag HK_CFG.RUN d = true → h.scanning = false → makes .hkScanStart s fun t =>
      onlyField s t ∧ t.dev.fl.hk.scanning = true ∧ t.dev.fl.hk.shCh = fFld HK_CFG.SHARED d ∧
      ∀ x r, c.busy = 0 → c.pend = [] → c.cal = false → hkList b d = x :: r →
        (hkConv b t.dev).busy = 1 ∧ (hkConv b t.dev).ch = x ∧ (hkConv b t.dev).rest = r) ∧
    (fFlag HK_CFG.RUN d = true → h.scanning = true → makes .hkScanStart s fun t =>
      onlyField s t ∧ fFld HK_STAT.SKIP t.dev = (fFld HK_STAT.SKIP d + 1) % 2 ^ (HK_STAT.SKIP.hi + 1 - HK_STAT.SKIP.lo) ∧
      t.dev.fl.hk = h) ∧
    (∀ code : Fin 65536, c.busy = 1 → c.ch < 24 →
      let dest := fFld HK_CFG.DEST d
      let late : Bool := match c.inj with
        | some i => i.late
        | none => false
      let isOpen : Bool := decide (c.ch < 6) && bitN (fFld HK_STAT.OPEN d) c.ch
      let result : Nat := pf 46 42 c.ch + pf 41 41 (b2n b) + pf 40 40 (b2n c.inj.isSome) + pf 39 39 (b2n late) +
        pf 38 38 (b2n c.ow) + pf 37 22 code.val + pf 21 0 (fieldFT d)
      let sends (k ch v : Nat) (t : State) : Prop := d.fl.tx.cur.isSome = true →
        ∃ i ∈ t.dev.fl.tx.queue, i.typ = 0x14 ∧ i.p = pf 46 43 k + pf 42 38 ch + pf 37 22 v + pf 21 0 (fieldFT d)
      makes (.hkConversionDone b code) s fun t =>
        onlyField s t ∧
        -- the registers take normal and injected results, the shared channel's from HKA
        (c.ow = false → c.inj.isSome = true ∨ b = false ∨ c.ch ≠ h.shCh → mfind t.dev.fl.hk.last c.ch = some code.val ∧
          (dest ≠ 1 → fReg (HK_RES.addr c.ch) t.dev = BitVec.ofNat 32 (2 ^ 31 + b2n isOpen * 2 ^ 30 + b2n d.fl.plaus * 2 ^ 29 +
            b2n c.inj.isSome * 2 ^ 28 + b2n late * 2 ^ 27 + code.val))) ∧
        (c.ow = true ∨ dest = 1 → ∀ k, k < 24 → fReg (HK_RES.addr k) t.dev = fReg (HK_RES.addr k) d) ∧
        (∀ i, c.inj = some i → i.shot = true → i.chan < 6 → fReg (ACT_INJ.addr i.chan) t.dev =
          BitVec.ofNat 32 (2 ^ 31 + b2n d.fl.plaus * 2 ^ 30 + b2n i.late * 2 ^ 29 + i.ch * 2 ^ 24 + code.val)) ∧
        -- the buffer, which a message being sent leaves alone
        (dest ≠ 0 → d.fl.tx.cur.isSome = true → h.buf.length < 256 → t.dev.fl.hk.buf = h.buf ++ [result]) ∧
        (dest ≠ 0 → d.fl.tx.cur.isSome = true → 256 ≤ h.buf.length → t.dev.fl.hk.buf = h.buf ∧
          fFld HK_STAT.OVR t.dev = (fFld HK_STAT.OVR d + 1) % 256 ∧
          (h.ovr = false → sends 8 c.ch ((fFld HK_STAT.OVR d + 1) % 256) t)) ∧
        (dest = 0 → d.fl.tx.cur.isSome = true → t.dev.fl.hk.buf = h.buf) ∧
        -- the open-wire test
        (c.ow = true → c.ch < 6 →
          let pullDown : Prop := bitsN (fFld HK_OW.MODES d) (2 * c.ch + 1) (2 * c.ch) = 2
          let now : Bool := if pullDown then decide (code.val ≤ 0x40) else decide (0xFFC0 ≤ code.val)
          bitN (fFld HK_STAT.OPEN t.dev) c.ch = now ∧ (now ≠ isOpen → sends (if now = true then 4 else 5) c.ch code.val t)) ∧
        (c.ow = false → c.inj = none → c.ch < 6 → h.test = true →
          bitsN (fFld HK_OW.MODES d) (2 * c.ch + 1) (2 * c.ch) ≠ 0 →
            (hkConv b t.dev).busy = 2 ∧ (hkConv b t.dev).ch = c.ch) ∧
        -- the plausibility comparison, once both converters have nothing left of the scan
        (h.scanning = true → c.inj = none →
          c.ow = true ∨ h.test = false ∨ 6 ≤ c.ch ∨ bitsN (fFld HK_OW.MODES d) (2 * c.ch + 1) (2 * c.ch) = 0 →
          c.rest = [] → c.pend = [] → c.cal = false → (hkConv (!b) d).rest = [] → (hkConv (!b) d).busy = 0 →
          let after (q : Bool) : Option Nat :=
            if q = b ∧ c.ow = false ∧ c.ch = h.shCh then some code.val else (hkConv q d).shared
          let diff (x y : Nat) : Nat := if x ≤ y then y - x else x - y
          let win := fFld HK_PLAUS.WIN d
          let n := fFld HK_PLAUS.COUNT d
          let x := t.dev.fl.hk
          x.scanning = false ∧
          (h.a.called = true ∨ h.b.called = true ∨ after false = none ∨ after true = none →
            x.pass = h.pass ∧ x.fail = h.fail ∧ t.dev.fl.plaus = d.fl.plaus) ∧
          (∀ v w, h.a.called = false → h.b.called = false → after false = some v → after true = some w →
            fFld HK_SHARED.A t.dev = v % 2 ^ 16 ∧ fFld HK_SHARED.B t.dev = w % 2 ^ 16 ∧
            (win < diff v w → x.fail = h.fail + 1 ∧ x.pass = 0 ∧
              fFld HK_STAT.PFAIL t.dev = (fFld HK_STAT.PFAIL d + 1) % 256 ∧ sends 1 h.shCh (diff v w) t ∧
              t.dev.fl.plaus = (d.fl.plaus || decide (n ≤ h.fail + 1)) ∧
              (d.fl.plaus = false → n ≤ h.fail + 1 → sends 2 h.shCh (diff v w) t)) ∧
            (diff v w ≤ win → x.pass = h.pass + 1 ∧ x.fail = 0 ∧
              t.dev.fl.plaus = (d.fl.plaus && !decide (n ≤ h.pass + 1)) ∧
              (d.fl.plaus = true → n ≤ h.pass + 1 → sends 3 h.shCh (diff v w) t))))) ∧
    (c.busy = 2 → makes (.hkOpenWireWaitEnd b) s fun t =>
      onlyField s t ∧ hkConv b t.dev = { c with busy := 1, ow := true } ∧ hkConv (!b) t.dev = hkConv (!b) d) ∧
    (c.busy = 3 → c.pend = [] → c.cal = false → c.rest = [] → makes (.hkCalibrationDone b) s fun t =>
      onlyField s t ∧ (hkConv b t.dev).busy = 0 ∧
      fFlag (if b then HK_STAT.CAL_B else HK_STAT.CAL_A) t.dev = false) ∧
    (fFld HK_CFG.CAL_MIN d ≠ 0 → makes .hkAutoCalTimer s fun t =>
      onlyField s t ∧ ((hkConv b t.dev).busy = 3 ∨ (hkConv b t.dev).cal = true))

/-- R327, R328: a due step of a shot list. -/
def Obligations.ShotListSteps : Prop :=
  ∀ (s : State) (n : Fin 6),
    let d := s.dev
    let c := chan n.val d
    let w := c.list.getD c.step 0
    let periods : Nat := bitsN w 17 12 * unitPeriods (bitsN w 19 18)
    let step (op : Nat) (i : Instr) (post : Chan → Prop) : Prop :=
      d.fl.on = true → c.st = acRUNNING → c.due = true → bitsN w 23 20 = op → makes i s fun t =>
        onlyField s t ∧ post (chan n.val t.dev)
    step 1 (.shotReg n) (fun x => x.target = bitsN w 11 0 ∧ x.st = acRUNNING ∧
      (periods ≠ 0 → x.step = c.step ∧ x.due = false ∧ x.left = periods) ∧
      (periods = 0 → x.step = c.step + 1 ∧ x.due = true)) ∧
    step 2 (.shotHold n) (fun x => x.target = bitsN w 11 0 ∧ x.st = acRUNNING ∧ x.step = c.step ∧ x.due = false ∧
      x.left = periods) ∧
    step 3 (.shotWait n) (fun x => x.target = c.target ∧ x.st = acRUNNING ∧ x.step = c.step ∧ x.due = false ∧
      x.left = bitsN w 5 0 * unitPeriods (bitsN w 7 6)) ∧
    step 4 (.shotInject n) (fun x => x.st = acRUNNING ∧ x.got = false ∧
      (bitN w 19 = true → x.wait = true ∧ x.left = 120 ∧ x.due = false ∧ x.step = c.step) ∧
      (bitN w 19 = false → x.step = c.step + 1 ∧ x.due = true)) ∧
    step 5 (.shotLoop n) (fun x =>
      let first : Nat := bitsN w 14 7 - 1
      let left : Nat := match c.loop with
        | some (i, k) => if i = c.step then k else first
        | none => first
      x.st = acRUNNING ∧ x.due = true ∧ (left = 0 → x.step = c.step + 1 ∧ x.loop = none) ∧
      (left ≠ 0 → x.step = bitsN w 19 15 ∧ x.loop = some (c.step, left - 1))) ∧
    step 6 (.shotEnd n) (fun x =>
      (bitN w 19 = false → x.st = acDECAY ∧ x.oc = ocOK ∧ x.ends = true ∧ x.target = 0) ∧
      (bitN w 19 = true → c.held = false → x.st = acHOLDING))

/-- R322, R326, R328, R334, R335, R337: what happens to a channel that is driven. That the coil model is exact and truncates where
a register shows it is the model's choice (log entry 40). -/
def Obligations.ChannelsInOperation : Prop :=
  ∀ (s : State) (n : Fin 6),
    let d := s.dev
    let c := chan n.val d
    let w := c.list.getD c.step 0
    d.fl.on = true →
    -- a PWM period of a step that takes time
    (∀ ins : List PwmIn, c.st = acRUNNING → c.due = false → makes (.pwmPeriod ins) s fun t => onlyField s t ∧
      let x := chan n.val t.dev
      let i : PwmIn := ins.getD n.val ⟨0, 0⟩
      let op := bitsN w 23 20
      let stays : Prop := x.st = acRUNNING ∧ x.step = c.step ∧ x.due = false ∧ x.left = c.left - 1
      let goes : Prop := x.st = acRUNNING ∧ x.step = c.step + 1 ∧ x.due = true
      let times_out : Prop := x.st = acDECAY ∧ x.oc = ocTIMEOUT ∧ x.ends = true ∧ x.req = 6 ∧ x.target = 0
      -- it ends before its time when WAIT meets its condition, or INJECT has its result
      let waits (met : Prop) : Prop := (met → goes) ∧ (¬ met → 1 < c.left → stays) ∧ (¬ met → c.left ≤ 1 → times_out)
      let ds := (i.duty :: c.duties).take 20
      x.icnt = c.icnt + 1 ∧ x.isum = c.isum + i.code ∧ x.peak = max c.peak i.code ∧
      (op = 1 ∨ op = 2 → (1 < c.left → stays) ∧ (c.left ≤ 1 → goes)) ∧
      -- HOLD then measures, with the mean duty of its last millisecond
      (op = 2 → c.left ≤ 1 → x.measI = none ∧ x.measV = none ∧
        x.meas = some (((ds.foldl (· + ·) 0 : Nat) : Rat) / ((ds.length * 65536 : Nat) : Rat), c.step)) ∧
      (op = 3 → waits (if bitN w 19 = true then i.code ≤ 32 * bitsN w 18 8 else 32 * bitsN w 18 8 ≤ i.code)) ∧
      (op = 4 → waits (c.got = true))) ∧
    (c.driven = true → makes (.overcurrent n) s fun t => onlyField s t ∧
      (chan n.val t.dev).st = acDECAY ∧ (chan n.val t.dev).oc = ocFAULT ∧ (chan n.val t.dev).req = 6) ∧
    (∀ m : Fin 3, m.val = n.val / 2 → c.driven = true → (c.held = true → c.st = acRUNNING) → makes (.hsFault m) s fun t => onlyField s t ∧
      fFlag (HS_STAT.FAULT m.val) t.dev = true ∧ (chan n.val t.dev).st = acDECAY ∧ (chan n.val t.dev).oc = ocFAULT) ∧
    (c.st = acDECAY → c.held = false → fFlag (ACT_CFG.PAR (2 * (n.val / 2))) d = paralleled n.val d →
      makes (.decayEnd n) s fun t => onlyField s t ∧ (chan n.val t.dev).st = acOFF ∧
        (chan n.val t.dev).cause = if c.ends = true ∧ c.oc ≠ 0 then c.oc else c.cause) ∧
    (makes .coilModelUpdate s fun t => onlyField s t ∧ (chan n.val t.dev).isum = 0 ∧ (chan n.val t.dev).icnt = 0 ∧
      ∀ ta, modelOn n.val d = true → ambient n.val d = some ta →
        let th : Rat := c.theta.getD ta
        let i : Rat := if c.icnt = 0 then 0 else (c.isum : Rat) / (c.icnt : Rat) / 16000
        (chan n.val t.dev).theta =
          some (th + (i * i * coilR n.val th d * rth n.val d - (th - ta)) / 1000 / tau n.val d)) ∧
    (∀ duty k i v, c.meas = some (duty, k) → c.measI = some (i, false) → c.measV = some (v, false) → 800 ≤ i →
      makes (.resistanceMeasurement n) s fun t => onlyField s t ∧ (chan n.val t.dev).meas = none ∧
        fFld (ACT_MEAS.RMEAS n.val) t.dev = clampRat ((v : Rat) / 1000 * duty / ((i : Rat) / 16000) * 100) 0xFFFF)

/-- R347 to R350, R353, R354, R358: the drive and the tests of each line, the scan that follows the last one, and indicator
frames. A sample that fits OPEN and SHORT is OPEN (the model's choice, log entry 41). -/
def Obligations.EmitterTestsAndIndicatorFrames : Prop :=
  ∀ (s : State),
    let d := s.dev
    -- current in µA, and width in 62.5 ns steps, of a code
    let current (c : Nat) : Nat := if c < 1024 then 3000 else 3000 + (c - 1024) * 9000 / 3071
    let width (c : Nat) : Nat := if c = 0 then 16 else if c < 1024 then max 64 ((c * 968 + 512) / 1024) else 968
    (∀ (xs : List EmSample) (k : Nat), d.emt.line = some k → k < 16 → makes (.emitterLineSlot xs) s fun t =>
      -- the next line is driven
      let drives (k : Nat) (code : Nat → Nat) : Prop := t.dev.emt.line = some k ∧
        .emitterLine k ((List.range 12).map (fun j => (current (code (16 * j + k)), width (code (16 * j + k))))) ∈ t.dev.out
      (k < 15 → drives (k + 1) (fun n => emtCode n d) ∧ t.dev.emt.codes = d.emt.codes) ∧
      -- or the next scan starts, with the owner and the codes that are due
      (k = 15 → d.emt.due = eoOFF → t.dev.emt.line = none ∧ .emittersOff ∈ t.dev.out) ∧
      (k = 15 → d.emt.due ≠ eoOFF → d.emt.due < 4 →
        let pattern : List (Nat × Nat) := if flag EMT_STATUS.PENDING d = true then emtPattern d else d.emt.pat
        let code (n : Nat) : Nat := if d.emt.due = eoTAKE then d.emt.dueCode
          else if d.emt.due = eoHOST then mget (fun _ => 0) pattern n else 0
        drives 0 (fun n => if (emitter n t.dev).st = 2 then 0 else code n) ∧
        (∀ n, n < 192 → mget (fun _ => 0) t.dev.emt.codes n = code n) ∧ t.dev.emt.pat = pattern ∧
        fld EMT_STATUS.OWNER t.dev = d.emt.due ∧ flag EMT_STATUS.PENDING t.dev = false ∧
        fld EMT_STATUS.SCANS t.dev = (fld EMT_STATUS.SCANS d + 1) % (fldMax EMT_STATUS.SCANS + 1)) ∧
      t.store = s.store ∧ t.dev.en = d.en ∧ t.dev.fl = d.fl ∧
      (∀ j, j < 12 →
        let e := emitter (16 * j + k) d
        let e' := emitter (16 * j + k) t.dev
        let x : EmSample := xs.getD j ⟨0, 0⟩
        -- OPEN below half the target, SHORT below 0.25 V
        let r : Nat := if 2 * x.ua < current (emtCode (16 * j + k) d) then 1 else if x.mv < 250 then 2 else 0
        (r = 0 → e'.fail = 0 ∧ e'.pass = e.pass + 1 ∧ e'.st = if e.st ≠ 0 ∧ 16 ≤ e.pass + 1 then 0 else e.st) ∧
        (r ≠ 0 → e'.fail = e.fail + 1 ∧ e'.pass = 0 ∧ e'.st = if 2 ≤ e.fail + 1 then r else e.st)) ∧
      ∀ n, n % 16 ≠ k → emitter n t.dev = emitter n d) ∧
    (∀ (x : IndFrame) (differs : Bool), d.fl.frame = some x → d.fl.on = true →
      makes (.indFrameLatchEnd differs) s fun t => onlyField s t ∧ fFlag IND_FSTAT.FAULT t.dev = differs ∧
        t.dev.fl.tx = fieldQueued d 0x17 (pf 46 45 (if differs = true then 2 else if x.safe = true then 1 else 0) +
          pf 44 39 (x.words.length - 1) + pf 38 31 d.fl.gen + pf 21 0 (fieldFT d)) ∧
        (d.fl.queue = [] → t.dev.fl.frame = none))

/-! ### The nonvolatile store and the flash -/

/-- R384, R385, R389, R392, R393, R398 to R401: the store's commands are refused, carried out, or accepted as a job. The model's choices
(log entry 43): the order of the tests, LOCK answering OK in LOCKOUT, and UNLOCK waiting for the key records. -/
def Obligations.StoreCommands : Prop :=
  ∀ (s : State) (p : Path) (v : BitVec 32),
    let d := s.dev
    let page := fld NVS_ADDR.PAGE d
    let off := fld NVS_ADDR.OFFSET d
    let len := fld NVS_ADDR.LEN d
    let id := v.toNat / 2 ^ 16 % 256
    let rg := v.toNat / 2 ^ 10 % 4
    let kind := v.toNat / 2 ^ 12 % 2
    let busy (x : Dev) : Bool := flag NVS_STATUS.BUSY x
    let ends (c : Instr) (result : Nat) (post : State → Prop) : Prop := makes c s fun t =>
      busy t.dev = false ∧ flag NVS_STATUS.DONE t.dev = true ∧ fld NVS_STATUS.RESULT t.dev = result ∧ raised 240 t ∧
      t.dev.nvc.host = none ∧ t.store = s.store ∧ post t
    let takes (c : Instr) (j : NvsJob) : Prop := makes c s fun t =>
      busy t.dev = true ∧ t.dev.nvc.host = some j ∧ t.store = s.store
    let buf (n : Nat) : List (BitVec 8) := (List.range n).map (fun k =>
      ((rdReg (NVS_BUF.addr (k / 4)) d) >>> (8 * (k % 4))).setWidth 8)
    let isOpen (r k : Nat) : Prop := 3 ≤ r ∨ (flag (accLockout r) d = false ∧ flag (accOpen r k) d = true)
    let others (r : Nat) (t : State) : Prop := ∀ q k, q < 3 → k < 2 → q ≠ r → flag (accOpen q k) t.dev = flag (accOpen q k) d
    reachable d →
    (busy d = true → makes (.nvsRead p v) s (fun t => t = { s with dev := refuseReg 1 NVS_CMD.addr 0 d }) ∧
      makes (.recWrite p v) s (fun t => t = { s with dev := refuseReg 4 NVS_CMD.addr 0 d })) ∧
    (busy d = false → flag NVS_STATUS.READY d = false → makes (.nvsRead p v) s fun t =>
      busy t.dev = true ∧ t.dev.nvc = { d.nvc with early := some (valueLeft NVS_CMD.addr (setBits v 3 0 1) d) }) ∧
    (busy d = false → flag NVS_STATUS.READY d = true → rg = 3 →
      ∀ c ∈ [Instr.nvsRead p v, .nvsWrite p v, .recRead p v, .recWrite p v, .unlock p v, .lock p v, .setPw p v],
        ends c 10 (fun _ => True)) ∧
    (busy d = false → flag NVS_STATUS.READY d = true → rg ≠ 3 →
      -- pages
      (len = 0 ∨ 128 < len → ends (.nvsRead p v) 10 (fun _ => True) ∧ ends (.nvsWrite p v) 10 (fun _ => True)) ∧
      (1 ≤ len → len ≤ 128 → keyPage page = true → ends (.nvsRead p v) 5 (fun _ => True)) ∧
      (1 ≤ len → len ≤ 128 → keyPage page = false → isOpen (regionOfPage page) 0 → takes (.nvsRead p v)
        { act := 1, page := page, off := off, len := len, no := d.nvc.count }) ∧
      (1 ≤ len → len ≤ 128 → keyPage page = false → regionOfPage page < 3 → isOpen (regionOfPage page) 1 →
        (nvsWritesOk d = true → takes (.nvsWrite p v)
          { act := 2, page := page, off := off, len := len, phase := 1, data := buf len, no := d.nvc.count }) ∧
        (nvsWritesOk d = false → fld GAF_STATUS.HOT d ≠ 4 → ends (.nvsWrite p v) 6 (fun t => raised 246 t))) ∧
      -- records
      ((recShape id).isSome = true → keyRec id = false → isOpen (regionOfRec id) 0 →
        takes (.recRead p v) { act := 3, id := id, no := d.nvc.count }) ∧
      ((recShape id).isSome = true → keyRec id = false → len = recLen id → isOpen (regionOfRec id) 1 → nvsWritesOk d = true →
        takes (.recWrite p v) { act := 4, id := id, data := buf (recLen id), no := d.nvc.count }) ∧
      ((recShape id).isSome = false → ends (.recRead p v) 10 (fun _ => True) ∧ ends (.recWrite p v) 10 (fun _ => True)) ∧
      -- passwords
      (flag (accLockout rg) d = true → flag NVS_STATUS.CNT_VALID d = true →
        ends (.unlock p v) 3 (fun t => t.dev.nvc = { d.nvc with host := none })) ∧
      -- until the key records have been read an UNLOCK waits
      (flag NVS_STATUS.CNT_VALID d = false → makes (.unlock p v) s fun t => busy t.dev = true ∧
        t.dev.nvc = { d.nvc with early := some (valueLeft NVS_CMD.addr (setBits v 3 0 5) d) }) ∧
      (flag (accLockout rg) d = false → flag NVS_STATUS.CNT_VALID d = true → password rg kind d ≠ 0 →
        (pair64 NVS_PW_LO.addr NVS_PW_HI.addr d = password rg kind d → ends (.unlock p v) 1 fun t =>
          flag (accOpen rg kind) t.dev = true ∧ fld (accTries rg) t.dev = 8 ∧ others rg t) ∧
        (pair64 NVS_PW_LO.addr NVS_PW_HI.addr d ≠ password rg kind d → ends (.unlock p v) 4 fun t =>
          fld (accTries rg) t.dev = fld (accTries rg) d - 1 ∧ raised 244 t ∧ others rg t ∧
          flag (accLockout rg) t.dev = decide (fld (accTries rg) d ≤ 1) ∧
          (fld (accTries rg) d ≤ 1 → raised 245 t ∧ flag (accOpen rg 0) t.dev = false ∧ flag (accOpen rg 1) t.dev = false))) ∧
      (ends (.lock p v) 1 fun t => others rg t ∧ ∀ k, k < 2 → flag (accLockout rg) d = false → password rg k d ≠ 0 →
        flag (accOpen rg k) t.dev = false) ∧
      (isOpen rg 1 → nvsWritesOk d = true → takes (.setPw p v)
        { act := 7, id := 0x20 + rg, region := rg, kind := kind, no := d.nvc.count
          data := leBytes 8 (pair64 NVS_PW_LO.addr NVS_PW_HI.addr d) }))

/-- R384 to R391, R393 to R399, R401, R402: what page operations leave in the store, its records, its counters and its
registers. The model's choices (log entry 43): the weak groups of a page are rewritten in one operation, and SET_PW takes both
passwords of an ABSENT record as 0. -/
def Obligations.StorePageOperations : Prop :=
  ∀ (s : State),
    let d := s.dev
    let byte (x : State) (a : Nat) : BitVec 8 := rdByte 0 x.store.nvs a
    let counts (k : Nat) (t : State) : Prop := heldOf k d.nvc.held < 255 →
      countTotal k t.dev = min 0xFFFFFFFF (countTotal k d + 1)
    (auxOn d = true → flag NVS_STATUS.READY d = false → d.nvc.early = none → makes .nvsReady s fun t =>
      flag NVS_STATUS.READY t.dev = true ∧ counts 6 t ∧ t.store = s.store) ∧
    (mstate d ≠ stAUX → mstate d ≠ stOFF → makes .hours s fun t => counts 7 t ∧ t.store = s.store ∧ t.dev.sl = d.sl) ∧
    (auxOn d = true → flag NVS_STATUS.READY d = true → flag NVS_STATUS.CNT_VALID d = false → ∀ errs : List NvsErr,
      makes (.nvsInitDone errs) s fun t => flag NVS_STATUS.CNT_VALID t.dev = true ∧ t.store = s.store) ∧
    (auxOn d = true → flag NVS_STATUS.READY d = true → makes .scrubTimer s fun t => t.store = s.store ∧
      (t.dev.nvc.scrubDue = true ∨ t.dev.nvc.op = some (.scrub (fld NVS_SCRUB.NEXT d)))) ∧
    (∀ (j : NvsJob) (weak : List (Fin 16)), d.nvc.op = some .host → d.nvc.host = some j → mainRuns d = true →
      let place (k : Nat) : Nat := 128 * j.page + (j.off + k) % 128
      let finished (t : State) : Prop := flag NVS_STATUS.BUSY t.dev = false ∧ flag NVS_STATUS.DONE t.dev = true ∧
        fld NVS_STATUS.RESULT t.dev = 1 ∧ raised 240 t ∧ t.dev.nvc.host = none
      (j.act = 1 → j.len ≤ 128 → makes (.nvsPageOpDone [] weak) s fun t => finished t ∧ t.store = s.store ∧
        ∀ k, k < j.len → ((rdReg (NVS_BUF.addr (k / 4)) t.dev) >>> (8 * (k % 4))).setWidth 8 = byte s (place k)) ∧
      (j.act = 2 → j.phase = 1 → j.len ≤ 128 → j.data.length = j.len → makes (.nvsPageOpDone [] weak) s fun t =>
        finished t ∧ t.store.flash = s.store.flash ∧ (∀ k, k < j.len → byte t (place k) = j.data.getD k 0) ∧
        ∀ a, (∀ k, k < j.len → a ≠ place k) → byte t a = byte s a)) ∧
    -- records: a command's, or the module's own write of FIELD_REF
    (∀ (own : Bool) (j : NvsJob) (weak : List (Fin 16)), d.nvc.op = some (if own = true then NvsOp.own else .host) →
      (if own = true then d.nvc.own else d.nvc.host) = some j → 3 ≤ j.act → mainRuns d = true → nvsWritesOk d = true →
      let n := recPages j.id
      let len := recLen j.id
      let now (t : State) : Option NvsJob := if own = true then t.dev.nvc.own else t.dev.nvc.host
      let inCopy : Nat := (if j.copy = 0 then recA j.id else recB j.id) + j.next
      let page : Nat := if j.phase = 0 then (if j.next < n then recA j.id + j.next else recB j.id + (j.next - n)) else inCopy
      let read : List (BitVec 8) := j.acc ++ (List.range 128).map (fun k => byte s (128 * page + k))
      let kept (t : State) : Prop := t.store = s.store
      let ends (result : Nat) (t : State) : Prop := flag NVS_STATUS.BUSY t.dev = false ∧ flag NVS_STATUS.DONE t.dev = true ∧
        fld NVS_STATUS.RESULT t.dev = result ∧ raised 240 t ∧ t.dev.nvc.host = none
      -- both copies are read
      (j.phase = 0 → j.next + 1 < 2 * n → makes (.nvsPageOpDone [] weak) s fun t => kept t ∧
        now t = some { j with acc := read, next := j.next + 1 }) ∧
      (j.phase = 0 → j.next + 1 = 2 * n →
        let copy (k : Nat) : List (BitVec 8) := if k = 0 then read.take (128 * n) else read.drop (128 * n)
        let ok (k : Nat) : Bool := recValid j.id (copy k)
          (if k = 0 then j.bad.filter (fun g => decide (g < 16 * n))
           else (j.bad.filter (fun g => decide (16 * n ≤ g))).map (fun g => g - 16 * n))
        let seq (k : Nat) : Nat := leNat ((copy k).take 4)
        let ahead := (seq 0 + 2 ^ 32 - seq 1) % 2 ^ 32
        let ambiguous : Prop := ok 0 = true ∧ ok 1 = true ∧ (ahead = 0 ∨ ahead = 2 ^ 31)
        let taken (k : Nat) : Prop := ok k = true ∧
          if k = 0 then ok 1 = true → ahead ≤ 2 ^ 31 else ok 0 = true → 2 ^ 31 < ahead
        let payload (k : Nat) : List (BitVec 8) := ((copy k).drop 16).take len
        (own = false → j.act = 3 →
          (∀ k, k < 2 → taken k → makes (.nvsPageOpDone [] weak) s fun t => kept t ∧ ends 1 t ∧
            (∀ i, i < len → ((rdReg (NVS_BUF.addr (i / 4)) t.dev) >>> (8 * (i % 4))).setWidth 8 = (payload k).getD i 0) ∧
            flag NVS_REC.VALID t.dev = true ∧ fld NVS_REC.COPY t.dev = k ∧ fld NVS_REC.ID t.dev = j.id % 256 ∧
            (flag NVS_REC.AMBIG t.dev = true ↔ ambiguous) ∧ (flag NVS_REC.OTHER_INVALID t.dev = true ↔ ok (1 - k) = false) ∧
            (rdReg NVS_REC_SEQ.addr t.dev).toNat = seq k ∧ (ambiguous ∨ ok (1 - k) = false → raised 241 t)) ∧
          (ok 0 = false → ok 1 = false → makes (.nvsPageOpDone [] weak) s fun t => kept t ∧ ends 8 t ∧
            flag NVS_REC.VALID t.dev = false ∧ raised 241 t)) ∧
        -- a write turns to the copy that it does not keep, with the next SEQ
        (j.act ≠ 3 →
          let writes (copy seq : Nat) (old : List (BitVec 8)) : Prop := makes (.nvsPageOpDone [] weak) s fun t =>
            kept t ∧ ∃ new, now t = some { j with
              data := recImage j.id seq new, copy := copy, phase := 1, next := 0, acc := [], bad := [] } ∧
            (j.act = 4 → new = j.data) ∧
            (j.act = 7 → j.region < 3 → d.nvc.keys.length = 3 → ∀ k, k < 2 →
              password j.region k t.dev = leNat ((old.drop (8 * k)).take 8)) ∧
            (j.act = 7 → j.kind = 0 → new = j.data ++ old.drop 8) ∧ (j.act = 7 → j.kind ≠ 0 → new = old.take 8 ++ j.data) ∧
            -- DEPOT_REF replaces the time, the DSEL, the table and its own slot
            (∀ r : RefReq, own = true → j.act = 8 → d.nvc.refReq = some r → r.k < 4 → r.f.length = 192 → r.table.length = 192 →
              len = 1932 → old.length = 1932 →
              let word (l : List (BitVec 8)) (at_ k : Nat) : Nat := leNat ((l.drop at_).take k)
              word new 0 8 = r.time % 2 ^ 64 ∧
              word new 8 4 = r.k + 16 * (word old 8 4 / 16 % 16 ||| 2 ^ r.k) ∧
              (∀ i, i < 192 → word new (0x00C + 2 * i) 2 = r.table.getD i 0 % 2 ^ 16 ∧
                word new (0x18C + 0x180 * r.k + 2 * i) 2 = r.f.getD i 0 % 2 ^ 16) ∧
              ∀ q i, q < 4 → q ≠ r.k → i < 0x180 → new.getD (0x18C + 0x180 * q + i) 0 = old.getD (0x18C + 0x180 * q + i) 0)
          (∀ k, k < 2 → taken k → ¬ ambiguous → writes (1 - k) ((seq k + 1) % 2 ^ 32) (payload k)) ∧
          (ambiguous → writes 1 ((seq 0 + 1) % 2 ^ 32) (payload 0)) ∧
          (ok 0 = false → ok 1 = false → writes 0 1 (List.replicate len 0)))) ∧
      -- a page of the copy is written
      (j.phase = 1 → j.data.length = 16 + len → j.next < n → makes (.nvsPageOpDone [] weak) s fun t =>
        t.store.flash = s.store.flash ∧
        now t = some (if j.next + 1 < n then { j with next := j.next + 1 }
          else { j with phase := 2, next := 0, acc := [], bad := [] }) ∧
        (∀ k, k < 128 → 128 * j.next + k < 16 + len → byte t (128 * inCopy + k) = j.data.getD (128 * j.next + k) 0) ∧
        ∀ a, a < 128 * inCopy ∨ 128 * inCopy + min 128 (16 + len - 128 * j.next) ≤ a → byte t a = byte s a) ∧
      -- the copy is read back and checked
      (j.phase = 2 → j.next + 1 < n → makes (.nvsPageOpDone [] weak) s fun t => kept t ∧
        now t = some { j with acc := read, next := j.next + 1 }) ∧
      (j.phase = 2 → n ≤ j.next + 1 →
        let good := recValid j.id read j.bad
        (own = false → makes (.nvsPageOpDone [] weak) s fun t => kept t ∧ ends (if good = true then 1 else 9) t ∧
          -- a password takes effect
          (j.act = 7 → good = true → j.region < 3 → d.nvc.keys.length = 3 → ∀ k, k < 2 →
            password j.region k t.dev = leNat ((j.data.drop (16 + 8 * k)).take 8))) ∧
        (own = true → d.nvc.refNext = [] → makes (.nvsPageOpDone [] weak) s fun t => kept t ∧ t.dev.nvc.own = none ∧
          t.dev.nvc.refReq = none ∧ flag TAKE_DEPOT.REF t.dev = good))) ∧
    (∀ (k n : Nat) (weak : List (Fin 16)), d.nvc.op = some (.count k n) → k < 16 → makes (.nvsPageOpDone [] weak) s fun t =>
      let c := nextCell k d
      let a := 128 * cellPage k c + 8 * cellGroup c
      let x := min 0xFFFFFFFF ((rdReg (NVS_CNT.addr k) d).toNat + n)
      (rdReg (NVS_CNT.addr k) t.dev).toNat = x ∧ rdLE 0 t.store.nvs a 4 = x ∧
      rdLE 0 t.store.nvs (a + 4) 4 = 0xFFFFFFFF - x ∧ ∀ b, b < a ∨ a + 8 ≤ b → byte t b = byte s b) ∧
    (∀ (q : Nat) (errs : List NvsErr) (weak : List (Fin 16)), d.nvc.op = some (.scrub q) →
      makes (.nvsPageOpDone errs weak) s fun t => fld NVS_SCRUB.NEXT t.dev = (q + 1) % 2048 ∧ t.store = s.store ∧
        -- a rewrite that is held back waits
        (nvsWritesOk d = false → ∀ x ∈ d.nvc.weak, x.1 ≠ q → x ∈ t.dev.nvc.weak)) ∧
    (∀ (q : Nat) (g : List Nat) (errs : List NvsErr) (weak : List (Fin 16)), d.nvc.op = some (.rewrite q g) → mainRuns d = true →
      makes (.nvsPageOpDone errs weak) s fun t => raised 242 t ∧ t.store = s.store ∧
        fld NVS_SCRUB.REWRITTEN t.dev = min (fldMax NVS_SCRUB.REWRITTEN) (fld NVS_SCRUB.REWRITTEN d + g.length))

/-- R406, R407, R411, R413: the flash's commands, what they leave in the flash, and the lines that the control cores run from. The
model's choices: PROGRAM clears bits and ERASE4K leaves 0xFF (log entry 44), and the polling and the continued read (log entry
45). -/
def Obligations.FlashCommandsAndLines : Prop :=
  ∀ (s : State),
    let d := s.dev
    let byte (x : State) (a : Nat) : BitVec 8 := rdByte 0xFF x.store.flash a
    let busy (x : Dev) : Bool := flag FLP_STATUS.BUSY x
    let addr := fld FLP_ADDR.ADDR d
    let mode := 3 * getBits d.fsh.cfg 0 0
    let mhz : Nat := match getBits d.fsh.cfg 3 2 with | 0 => 80 | 1 => 40 | _ => 20
    let sent (op a : Nat) (bs : List (BitVec 8)) : Out :=
      .flashCmd mode mhz op (flashAlen d) a (if op = 0x0B then 8 else 0) bs
    (∀ (p : Path) (v : BitVec 32), reachable d → d.fsh.started = true →
      let len := v.toNat / 2 ^ 8 % 512
      let takes (c : Instr) (j : FlashJob) (op : Nat) (bs : List (BitVec 8)) : Prop := makes c s fun t => busy t.dev = true ∧ t.dev.fsh.job = some j ∧
        t.dev.out = d.out ++ [sent op j.addr bs] ∧ t.store = s.store
      let ends (c : Instr) (result : Nat) : Prop := makes c s fun t => busy t.dev = false ∧ flag FLP_STATUS.DONE t.dev = true ∧
        fld FLP_STATUS.RESULT t.dev = result ∧ t.dev.fsh.job = none ∧ raised 248 t ∧ t.store = s.store ∧
        (∀ m k op n a x l, .flashCmd m k op n a x l ∈ t.dev.out → .flashCmd m k op n a x l ∈ d.out)
      let writable : Prop := mstate d = stIDLE ∨ mstate d = stSAFE
      let sector := addr / 4096 * 4096
      (busy d = false →
        (1 ≤ len → len ≤ 256 → addr + len ≤ 0x800000 →
          (d.fsh.next = none → d.fsh.poll = false → takes (.flpRead p v) ⟨1, addr, len, flpBuf len d⟩ 0x0B []) ∧
          (d.fsh.next = none → d.fsh.poll = true → makes (.flpRead p v) s fun t => t.dev.fsh.poll = false ∧
            t.dev.out = d.out ++ [.flashCmd mode mhz 0x05 0 0 0 [], sent 0x0B addr []]) ∧
          (∀ n, d.fsh.next = some (addr, n) → d.sl.tick ≤ n + 1600 → getBits d.fsh.cfg 8 8 = 1 →
            makes (.flpRead p v) s fun t => t.dev.out = d.out ∧ busy t.dev = true ∧
              t.dev.fsh.job = some ⟨1, addr, len, flpBuf len d⟩)) ∧
        (len = 0 ∨ 256 < len ∨ 0x800000 < addr + len → ends (.flpRead p v) 3) ∧
        (writable → 1 ≤ len → addr % 256 + len ≤ 256 → addr + len ≤ 0x800000 → touchesBooted addr len d = false →
          takes (.program p v) ⟨2, addr, len, flpBuf len d⟩ 0x02 (flpBuf len d)) ∧
        (writable → touchesBooted addr len d = true → ends (.program p v) 2) ∧
        (writable → len = 0 → ends (.program p v) 3) ∧
        (writable → 256 < len ∨ 256 < addr % 256 + len → touchesBooted addr len d = false → ends (.program p v) 3) ∧
        (¬ writable → ends (.program p v) 4 ∧ ends (.erase4k p v) 4) ∧
        (writable → touchesBooted sector 4096 d = true → ends (.erase4k p v) 2) ∧
        (writable → touchesBooted sector 4096 d = false → makes (.erase4k p v) s fun t =>
          busy t.dev = true ∧ t.dev.out = d.out ++ [.flashCmd mode mhz (fld FLP_SFDP.EOP d) (flashAlen d) sector 0 []] ∧ t.dev.fsh.next = none ∧
          t.store = s.store)) ∧
      (busy d = true → makes (.flpRead p v) s (fun t => t = { s with dev := refuseReg 1 FLP_CMD.addr 0 d }) ∧
        makes (.program p v) s (fun t => t = { s with dev := refuseReg 2 FLP_CMD.addr 0 d }))) ∧
    (∀ j : FlashJob, d.fsh.job = some j → mainRuns d = true →
      let finished (result : Nat) (t : State) : Prop := busy t.dev = false ∧ flag FLP_STATUS.DONE t.dev = true ∧
        fld FLP_STATUS.RESULT t.dev = result ∧ t.dev.fsh.job = none ∧ raised 248 t ∧ t.store.nvs = s.store.nvs
      let base := j.addr / 4096 * 4096
      (j.act = 1 → j.len ≤ 256 → makes .flashOpDone s fun t => finished 1 t ∧ t.store = s.store ∧
        ∀ k, k < j.len → ((rdReg (FLP_BUF.addr (k / 4)) t.dev) >>> (8 * (k % 4))).setWidth 8 = byte s (j.addr + k)) ∧
      (j.act = 2 → j.data.length = j.len → makes .flashOpDone s fun t => finished 1 t ∧
        (∀ k, k < j.len → byte t (j.addr + k) = byte s (j.addr + k) &&& j.data.getD k 0) ∧
        (∀ a, a < j.addr ∨ j.addr + j.len ≤ a → byte t a = byte s a) ∧ ∀ l, lineHeld l t.dev.fsh = false) ∧
      (j.act = 3 → makes .flashOpDone s fun t => finished 1 t ∧ (∀ k, k < 4096 → byte t (base + k) = 0xFF#8) ∧
        ∀ a, a < base ∨ base + 4096 ≤ a → byte t a = byte s a) ∧
      (j.act = 2 → makes .flashOpTimeout s fun t => finished 5 t ∧ raised 252 t ∧
        (d.fsh.misses = [] → d.fsh.prefetch = none → t.dev.fsh.poll = true) ∧
        ∀ a, a < j.addr ∨ j.addr + j.len ≤ a → byte t a = byte s a) ∧
      (j.act = 3 → makes .flashOpTimeout s fun t => finished 5 t ∧ raised 252 t ∧
        ∀ a, a < base ∨ base + 4096 ≤ a → byte t a = byte s a)) ∧
    (∀ (core : Fin 4) (l : Fin 131072), mainRuns d = true → flag FLP_BOOT.BOOTED d = true → d.fsh.job = none →
      d.fsh.load = none → d.fsh.prefetch = none → d.fsh.misses = [] → d.fsh.next = none → d.fsh.poll = false →
      d.fsh.started = true → lineHeld l.val d.fsh = false →
      makes (.xipMiss core l) s fun t => t.dev.fsh.load = some (l.val, true) ∧ t.dev.fsh.misses = [(core.val, l.val)] ∧
        t.dev.out = d.out ++ [sent 0x0B (64 * l.val) []]) ∧
    (∀ (l : Nat) (miss : Bool), d.fsh.load = some (l, miss) → makes .xipLineLoaded s fun t =>
      lineHeld l t.dev.fsh = true ∧ (∀ x ∈ t.dev.fsh.misses, lineHeld x.2 t.dev.fsh = false) ∧
      (∀ k, k % 32 ≠ l % 32 → lineHeld k t.dev.fsh = lineHeld k d.fsh) ∧ t.store = s.store)

/-! ### The whole machine -/

/-- A step takes the command at the front of the queue and runs it on the rest. -/
def Obligations.StepRunsTheFrontCommand : Prop :=
  ∀ (s : State) (c : Instr) (rest : List Instr), s.pending = c :: rest → step s = exec c { s with pending := rest }

/-- R33, R35, R38, R63, R104, R180, R181, R186, R190, R192, R195, R198: the slate boundary's transitions, the phases of a take,
its start and end, and the group actions of a slate in which the array was not read. -/
def Obligations.BoundariesMoveTheStateAndTheTake : Prop :=
  ∀ s : State,
    let d := s.dev
    let m := mstate d
    let k := d.take
    let asked (n : Nat) : Bool := d.waits.any (fun w => w.kind == n)
    let boundary (post : State → Prop) : Prop := makes .slateBoundary s post
    slateEnds d = true →
    -- the event of the highest rank acts: the cold limit, STOP, then START and the end of BOOT
    (m = stIDLE ∨ m = stLIVE ∨ m = stBOOT →
      let new : Nat :=
        if m = stBOOT then (if asked wkBOOT = true then stIDLE else stBOOT)
        else if asked wkCOLD = true then stCOLD
        else if m = stLIVE then (if asked wkSTOP = true then stIDLE else stLIVE)
        else if asked wkSTART = true then stLIVE else stIDLE
      boundary fun t => mstate t.dev = new ∧ t.dev.waits = [] ∧ t.store = s.store ∧
        (∀ e, e < 1024 →
          (m = stLIVE → new = stIDLE → engState e d = enRUN ∨ engState e d = enSETTLE → engState e t.dev = enIDLE) ∧
          (m = stLIVE → new = stCOLD → engState e d = enRUN ∨ engState e d = enSETTLE → engState e t.dev = enWARM) ∧
          (m = stIDLE → new = stCOLD → engState e d = enIDLE → engState e t.dev = enWARM) ∧
          (m = stIDLE → new = stLIVE → engState e d = enIDLE → (engOf e d).bulkOwed = false → engState e t.dev = enRUN)) ∧
        -- a command that waited completes with OK where it acts, and with STATE where it is superseded
        ∀ w ∈ d.waits, ∀ c, w.cmd = some c → w.kind ∈ [wkSTART, wkSTOP, wkRESUME] → linkBlocked d = false → d.rings.held = [] → (ring c.ring d).on = true →
          (ring c.ring d).epoch = c.epoch →
          let acts : Prop := (w.kind = wkSTART ∧ m = stIDLE ∧ new = stLIVE) ∨ (w.kind = wkSTOP ∧ m = stLIVE ∧ new = stIDLE)
          let at_ := ((ring c.ring d).base + 32 * (c.pos % (ring c.ring d).size)) % 2 ^ 64
          (acts → .hostWrite (at_ + 0x10) (leBytes 4 1) ∈ t.dev.out) ∧
          (¬ acts → .hostWrite (at_ + 0x10) (leBytes 4 7) ∈ t.dev.out)) ∧
    (m = stSAFE → boundary fun t => t.dev.waits = [] ∧ (mstate t.dev = stSAFE ∨ mstate t.dev = stIDLE) ∧
      (asked wkRESUME = false ∨ d.pw.stuck = true → mstate t.dev = stSAFE)) ∧
    (m = stCOLD → boundary fun t => t.dev.waits = [] ∧ (mstate t.dev = stCOLD ∨ mstate t.dev = stIDLE)) ∧
    -- a slate in which the array was not read ends: the actions on its groups apply
    (isLive d = false → boundary fun t => ∀ n, n < 128 →
      let g := grp n d
      let st := fld (grpState n) d
      (grp n t.dev).act = 0 ∧
      (g.act = 1 → st = 3 → fld (grpState n) t.dev = 3 ∧ (grp n t.dev).fails = g.fails) ∧
      (g.act = 1 → st ≠ 3 → fld (grpState n) t.dev = (if st = 2 then 1 else st) ∧ (grp n t.dev).fails = 0) ∧
      (g.act = 2 → fld (grpState n) t.dev = 3) ∧
      (g.act = 3 → st = 3 → fld (grpState n) t.dev = 1 ∧ (grp n t.dev).fails = 0) ∧
      (g.act = 3 → st ≠ 3 → fld (grpState n) t.dev = st ∧ (grp n t.dev).fails = g.fails)) ∧
    -- takes
    (m = stLIVE → d.waits = [] → k.ending = false →
      -- a take accepted begins
      (∀ n, k.next = some n → inTake d = false → herdTakes d = false → boundary fun t =>
        inTake t.dev = true ∧ t.dev.take.next = none ∧ t.dev.take.s = t.dev.sl.no ∧ raised 136 t ∧
        (1 ≤ n.mode → n.mode ≤ 5 → fld TAKE_STATUS.MODE t.dev = n.mode) ∧
        (n.mode = tmSHUTTERED ∨ n.mode = tmDEPOT_REF → phase t.dev = phCLOSE ∧
          (flag GLB_MSTATE.FIELD_ABSENT d = false → t.dev.take.shReq = 1) ∧ flag FPA_STATUS.GAIN t.dev = false) ∧
        (n.mode = tmSHUTTERLESS → phase t.dev = phBLOCKS ∧ t.dev.take.block = 0 ∧ t.dev.take.inBlock = 0) ∧
        (n.mode = tmDEPOT_LO ∨ n.mode = tmDEPOT_HI → phase t.dev = phDEPOT)) ∧
      -- a take goes on
      (inTake d = true → phase d ≠ phNONE → k.next = none → takeLast d = false → boundary fun t =>
        let p := phase d
        let k' := t.dev.take
        let spread : Prop := p = phOFFSET ∧ k.cause = 0 ∧ 16 * k.lat.spread < meanSpread d
        let shuts : Prop := k.cause = tcSHUTTER ∨ k.cause = tcSPREAD ∨ spread
        let goes (q n : Nat) : Prop := phase t.dev = q ∧ k'.left = n
        inTake t.dev = true ∧ k'.slates = k.slates + 1 ∧ fld TAKE_STATUS.ELAPSED t.dev = min 0xFFFF k.slates ∧
        (p = phBLOCKS → phase t.dev = p ∧ (k'.block, k'.inBlock) =
          if k.inBlock + 1 < k.blockLen then (k.block, k.inBlock + 1) else (k.block + 1, 0)) ∧
        (p = phDEPOT ∨ p = phSETTLE_O → goes p (k.left - 1)) ∧
        (p = phOPEN → if k.shEnded = true then goes phSETTLE_O k.lat.settle else goes phOPEN k.left) ∧
        (p ∈ [phCLOSE, phSETTLE_C, phOFFSET, phWARM, phEMIT] →
          (shuts → goes phOPEN 1 ∧ k'.shReq = 2) ∧
          (¬ shuts →
            (p = phCLOSE → if k.shEnded = true then goes phSETTLE_C k.lat.settle else goes phCLOSE k.left) ∧
            (p ≠ phCLOSE → 1 < k.left → goes p (k.left - 1)) ∧
            (p = phSETTLE_C → k.left ≤ 1 → goes phOFFSET 8) ∧ (p = phOFFSET → k.left ≤ 1 → goes phWARM 1) ∧
            (p = phWARM → k.left ≤ 1 → goes phEMIT 8) ∧ (p = phEMIT → k.left ≤ 1 → goes phOPEN 1 ∧ k'.shReq = 2))) ∧
        (spread → k'.cause = tcSPREAD)) ∧
      -- a take whose last work is done ends
      (inTake d = true → k.next = none → takeLast d = true → k.worked = true → d.herd.queue = [] → boundary fun t =>
        let outcome : Nat := if k.cause ≠ 0 then toABANDONED else if k.mode = tmDEPOT_LO then toRECORDED
          else if k.committed = true then toCOMMITTED else toEMPTY
        inTake t.dev = false ∧ phase t.dev = phNONE ∧ fld TAKE_LAST.OUTCOME t.dev = outcome ∧ t.dev.take.hold = true ∧
        raised (if outcome = toABANDONED then 138 else 137) t ∧
        (outcome = toABANDONED → countedOnce TAKE_COUNT.ABANDONED d t.dev))) ∧
    -- STOP abandons a take before its last slate
    (m = stLIVE → asked wkSTOP = true → asked wkCOLD = false → inTake d = true → takeLast d = false → k.ending = false →
      k.next = none → k.cause = 0 → d.herd.queue = [] → boundary fun t =>
        mstate t.dev = stIDLE ∧ inTake t.dev = false ∧ fld TAKE_LAST.OUTCOME t.dev = toABANDONED ∧
        fld TAKE_LAST.CAUSE t.dev = tcSTOP ∧ raised 138 t)

/-- No command stops the machine: every step answers a next state, with the queue one command shorter. With no command waiting
a step lets one 400 MHz tick of time pass, and nothing else (the model's choice, log entry 9). -/
def Obligations.EveryStepAnswersANextState : Prop :=
  ∀ s : State, ∃ t, step s = .next t ∧ t.pending = s.pending.tail ∧
    (s.pending = [] → t = { s with dev := { s.dev with sl := t.dev.sl } } ∧
      t.dev.sl.tick = s.dev.sl.tick + 1 ∧ t.dev.sl.slot = s.dev.sl.slot ∧ t.dev.sl.no = s.dev.sl.no ∧
      (s.dev.sl.running = true → t.dev.sl.slotTick = s.dev.sl.slotTick + 1 ∧
        t.dev.sl.mt = s.dev.sl.mt + (100000000 + s.dev.sl.trim).toNat))

/-- Every step keeps the nonvolatile store and the flash in canonical form. -/
def Obligations.EveryStepKeepsTheStoreCanonical : Prop :=
  ∀ s t : State, Store.wf s.store → step s = .next t → Store.wf t.store

/-- R26, R32, R381, R408, R413: the machine right after the aux domain is supplied from AUX_3V3, with its store and flash in
canonical form. That moment, and what an unlisted byte reads as, are the model's choices (log entries 1, 7 and 8). -/
def Obligations.ResetState : Prop :=
  let d := State.reset.dev
  Store.wf State.reset.store ∧ State.reset.pending = [] ∧ (∀ a, rdByte 0 State.reset.store.nvs a = 0#8) ∧
  (∀ a, rdByte 0xFF State.reset.store.flash a = 0xFF#8) ∧ mstate d = stAUX ∧ auxOn d = true ∧ d.pw.host12v = false ∧ (∀ a, rdReg a d = regReset a) ∧
  d.rings.tab = [] ∧ d.en.engs = [] ∧ d.evt.queue = [] ∧ d.sl.running = false ∧ d.fl.on = false ∧
  flag GLB_MSTATE.FIELD_ABSENT d = true ∧ fld GLB_MSTATE.GEN d = 0

/-- R33, R381, R405, R411, R413: the nonvolatile store and the flash change only where a page operation or a flash operation
ends, BOOT's finding the flash ready or not among them, and where a loss of supply or a critical temperature cuts one short:
`mayChangeStore` lists those commands. -/
def Obligations.OtherCommandsLeaveTheStore : Prop :=
  ∀ (s t : State) (c : Instr), mayChangeStore c = false → exec c s = .next t → t.store = s.store

/-- R27, R293: a command on the host side leaves the field companion as it is, but for the messages of the crossing that
arrive there; `fieldCommand` lists those that act in the field domain. -/
def Obligations.HostSideCommandsLeaveTheFieldCompanion : Prop :=
  ∀ (s t : State) (c : Instr), fieldCommand c = false → exec c s = .next t → t.dev.fl = s.dev.fl

/-- R96, R105, R131: a column instruction changes engines and what their faults record, never the slate, the rings, the
cell watch, the field companion or the store. -/
def Obligations.ColumnInstructionsStayInTheEngines : Prop :=
  ∀ (s t : State) (c : Instr), columnInstruction c = true → exec c s = .next t →
    t.store = s.store ∧ t.pending = s.pending ∧ t.dev.fl = s.dev.fl ∧ t.dev.sl = s.dev.sl ∧ t.dev.rings = s.dev.rings ∧
    t.dev.cw = s.dev.cw ∧ t.dev.take = s.dev.take ∧ t.dev.xh = s.dev.xh ∧ t.dev.herd = s.dev.herd ∧
    t.dev.cal = s.dev.cal ∧ t.dev.waits = s.dev.waits ∧ mstate t.dev = mstate s.dev
end

