-- ==== Sys2Proof/Laws/Maps.lean ====
section
/-! SUPPORT. Sparse stores: what a key reads as after a write, and the canonical form that every operation keeps. -/

namespace Sys2Proof.Machine

variable {α : Type}

@[simp] theorem mfind_mput_same (m : List (Nat × α)) (a : Nat) (v : α) : mfind (mput m a v) a = some v := by
  induction m with
  | nil => simp [mput, mfind]
  | cons x r ih =>
    obtain ⟨k, w⟩ := x
    simp only [mput]
    split
    · simp [mfind]
    · split
      · simp [mfind]
      · rename_i h1 h2
        have : k ≠ a := fun h => h2 h.symm
        simp [mfind, this, ih]

theorem mfind_mput_ne (m : List (Nat × α)) {a b : Nat} (v : α) (h : a ≠ b) : mfind (mput m a v) b = mfind m b := by
  induction m with
  | nil => simp [mput, mfind, h]
  | cons x r ih =>
    obtain ⟨k, w⟩ := x
    simp only [mput]
    split
    · simp [mfind, h]
    · split
      · rename_i h1 h2
        subst h2
        simp [mfind, h]
      · simp only [mfind, ih]

@[simp] theorem mfind_mdrop_same (m : List (Nat × α)) (a : Nat) : mfind (mdrop m a) a = none := by
  induction m with
  | nil => simp [mdrop, mfind]
  | cons x r ih =>
    obtain ⟨k, w⟩ := x
    by_cases h : k = a
    · simpa [mdrop, h] using ih
    · simpa [mdrop, mfind, h] using ih

theorem mfind_mdrop_ne (m : List (Nat × α)) {a b : Nat} (h : a ≠ b) : mfind (mdrop m a) b = mfind m b := by
  induction m with
  | nil => simp [mdrop, mfind]
  | cons x r ih =>
    obtain ⟨k, w⟩ := x
    by_cases hk : k = a
    · have : k ≠ b := hk ▸ h
      simpa [mdrop, hk, mfind, h] using ih
    · simp only [mdrop, List.filter_cons, bne_iff_ne, ne_eq, hk, not_false_eq_true, if_true, mfind]
      rw [show List.filter (fun x => x.1 != a) r = mdrop r a from rfl, ih]

variable [DecidableEq α]

/-- A key reads as what was last written to it. -/
@[simp] theorem mget_mset_same (d : Nat → α) (m : List (Nat × α)) (a : Nat) (v : α) : mget d (mset d m a v) a = v := by
  unfold mget mset
  split
  · rename_i h
    simp [h]
  · simp

/-- A write leaves every other key alone. -/
theorem mget_mset_ne (d : Nat → α) (m : List (Nat × α)) {a b : Nat} (v : α) (h : a ≠ b) :
    mget d (mset d m a v) b = mget d m b := by
  unfold mget mset
  split
  · rw [mfind_mdrop_ne m h]
  · rw [mfind_mput_ne m v h]

/-- A weaker lower bound on the keys. -/
theorem mwfFrom_mono (d : Nat → α) {b c : Nat} (h : c ≤ b) : ∀ m : List (Nat × α), mwfFrom d b m = true → mwfFrom d c m = true
  | [], _ => rfl
  | (k, v) :: r, hm => by
    simp only [mwfFrom, Bool.and_eq_true, decide_eq_true_eq] at hm ⊢
    exact ⟨⟨by omega, hm.1.2⟩, hm.2⟩

theorem mwfFrom_mput (d : Nat → α) (a : Nat) (v : α) (hv : v ≠ d a) :
    ∀ (m : List (Nat × α)) (b : Nat), b ≤ a → mwfFrom d b m = true → mwfFrom d b (mput m a v) = true
  | [], b, hb, _ => by simp [mput, mwfFrom, hb, hv]
  | (k, w) :: r, b, hb, hm => by
    simp only [mwfFrom, Bool.and_eq_true, decide_eq_true_eq] at hm
    simp only [mput]
    split
    · rename_i h
      simp only [mwfFrom, Bool.and_eq_true, decide_eq_true_eq]
      exact ⟨⟨hb, hv⟩, ⟨by omega, hm.1.2⟩, hm.2⟩
    · split
      · rename_i h1 h2
        subst h2
        simp only [mwfFrom, Bool.and_eq_true, decide_eq_true_eq]
        exact ⟨⟨hb, hv⟩, hm.2⟩
      · rename_i h1 h2
        simp only [mwfFrom, Bool.and_eq_true, decide_eq_true_eq]
        exact ⟨hm.1, mwfFrom_mput d a v hv r (k + 1) (by omega) hm.2⟩

theorem mwfFrom_mdrop (d : Nat → α) (a : Nat) :
    ∀ (m : List (Nat × α)) (b : Nat), mwfFrom d b m = true → mwfFrom d b (mdrop m a) = true
  | [], b, _ => rfl
  | (k, w) :: r, b, hm => by
    simp only [mwfFrom, Bool.and_eq_true, decide_eq_true_eq] at hm
    have ih := mwfFrom_mdrop d a r (k + 1) hm.2
    by_cases h : k = a
    · have : mdrop ((k, w) :: r) a = mdrop r a := by simp [mdrop, h]
      rw [this]
      exact mwfFrom_mono d (by omega) _ ih
    · have : mdrop ((k, w) :: r) a = (k, w) :: mdrop r a := by simp [mdrop, h]
      rw [this]
      simp only [mwfFrom, Bool.and_eq_true, decide_eq_true_eq]
      exact ⟨hm.1, ih⟩

/-- A write keeps the canonical form. -/
theorem mwf_mset (d : Nat → α) (m : List (Nat × α)) (a : Nat) (v : α) (h : mwf d m = true) :
    mwf d (mset d m a v) = true := by
  unfold mwf mset at *
  split
  · exact mwfFrom_mdrop d a m 0 h
  · rename_i hv
    exact mwfFrom_mput d a v hv m 0 (Nat.zero_le _) h

/-- No key below its bound is listed. -/
theorem mfind_below (d : Nat → α) {a : Nat} : ∀ (m : List (Nat × α)) (b : Nat), a < b → mwfFrom d b m = true → mfind m a = none
  | [], _, _, _ => rfl
  | (k, v) :: r, b, hb, hm => by
    simp only [mwfFrom, Bool.and_eq_true, decide_eq_true_eq] at hm
    have hk : k ≠ a := by omega
    simp only [mfind, hk, if_false]
    exact mfind_below d r (k + 1) (by omega) hm.2

/-- What a built store reads. -/
theorem mget_mbuildFrom (d f : Nat → α) (k : Nat) : ∀ (n a : Nat),
    mget d (mbuildFrom d f a n) k = if a ≤ k ∧ k < a + n then f k else d k
  | 0, a => by
    rw [if_neg (by omega)]
    rfl
  | n + 1, a => by
    have ih := mget_mbuildFrom d f k n (a + 1)
    simp only [mbuildFrom]
    by_cases hk : k = a
    · subst hk
      have h1 : ¬ (k + 1 ≤ k ∧ k < k + 1 + n) := by omega
      simp only [h1, if_false] at ih
      split
      · rename_i hf
        simp [ih, hf]
      · simp [mget, mfind]
    · have hc : (a ≤ k ∧ k < a + (n + 1)) ↔ (a + 1 ≤ k ∧ k < a + 1 + n) := by omega
      simp only [hc, ← ih]
      split
      · rfl
      · have : a ≠ k := fun h => hk h.symm
        simp [mget, mfind, this]

/-- A pass over a canonical store keeps the canonical form. -/
theorem mwfFrom_mmapFrom (d : Nat → α) (f : Nat → α → α) : ∀ (n : Nat) (m : List (Nat × α)) (a : Nat),
    mwfFrom d a m = true → mwfFrom d a (mmapFrom d f m a n) = true
  | 0, m, a, h => h
  | n + 1, m, a, h => by
    have hr : mwfFrom d (a + 1) (if (mfind (m.take 1) a).isSome then m.drop 1 else m) = true := by
      cases m with
      | nil => rfl
      | cons x r =>
        obtain ⟨k, v⟩ := x
        simp only [mwfFrom, Bool.and_eq_true, decide_eq_true_eq] at h
        by_cases hk : k = a
        · subst hk; simpa [mfind] using h.2
        · simp only [List.take_succ_cons, List.take_zero, mfind, hk, if_false, Option.isSome_none, Bool.false_eq_true]
          simp only [mwfFrom, Bool.and_eq_true, decide_eq_true_eq]
          exact ⟨⟨by omega, h.1.2⟩, h.2⟩
    have ih := mwfFrom_mmapFrom d f n _ (a + 1) hr
    simp only [mmapFrom]
    split
    · exact mwfFrom_mono d (Nat.le_succ a) _ ih
    · rename_i hv
      simp only [mwfFrom, Bool.and_eq_true, decide_eq_true_eq]
      exact ⟨⟨Nat.le_refl a, hv⟩, ih⟩

theorem mget_mmapFrom (d : Nat → α) (f : Nat → α → α) (k : Nat) : ∀ (n : Nat) (m : List (Nat × α)) (a : Nat),
    mwfFrom d a m = true → a ≤ k → k < a + n → mget d (mmapFrom d f m a n) k = f k (mget d m k)
  | 0, _, _, _, h1, h2 => by omega
  | n + 1, m, a, h, h1, h2 => by
    have hr : mwfFrom d (a + 1) (if (mfind (m.take 1) a).isSome then m.drop 1 else m) = true ∧
        mget d (m.take 1) a = mget d m a ∧
        (a ≠ k → mget d (if (mfind (m.take 1) a).isSome then m.drop 1 else m) k = mget d m k) := by
      cases m with
      | nil => exact ⟨rfl, rfl, fun _ => rfl⟩
      | cons x r =>
        obtain ⟨j, v⟩ := x
        simp only [mwfFrom, Bool.and_eq_true, decide_eq_true_eq] at h
        by_cases hj : j = a
        · subst hj
          refine ⟨by simpa [mfind] using h.2, by simp [mget, mfind], fun hk => ?_⟩
          simp [mget, mfind, hk]
        · have hn : mfind r a = none := mfind_below d r (j + 1) (by omega) h.2
          refine ⟨?_, by simp [mget, mfind, hj, hn], fun _ => by simp [mfind, hj]⟩
          simp only [List.take_succ_cons, List.take_zero, mfind, hj, if_false, Option.isSome_none, Bool.false_eq_true]
          simp only [mwfFrom, Bool.and_eq_true, decide_eq_true_eq]
          exact ⟨⟨by omega, h.1.2⟩, h.2⟩
    have hw := mwfFrom_mmapFrom d f n _ (a + 1) hr.1
    simp only [mmapFrom, hr.2.1]
    by_cases hk : a = k
    · subst hk
      split
      · rename_i hv
        rw [hv]
        simp only [mget, mfind_below d _ (a + 1) (Nat.lt_succ_self a) hw, Option.getD_none]
      · simp [mget, mfind]
    · have ih := mget_mmapFrom d f k n _ (a + 1) hr.1 (by omega) (by omega)
      rw [hr.2.2 hk] at ih
      split
      · exact ih
      · rw [← ih]; simp [mget, mfind, hk]

/-- Every key below `n` takes its new value, in any store. -/
theorem mget_mmapAll (d : Nat → α) (n : Nat) (f : Nat → α → α) (m : List (Nat × α)) {k : Nat} (h : k < n) :
    mget d (mmapAll d n f m) k = f k (mget d m k) := by
  unfold mmapAll mbuild
  split
  · rename_i hm
    exact mget_mmapFrom d f k n m 0 hm (Nat.zero_le k) (by omega)
  · rw [mget_mbuildFrom]
    simp [h]

/-- Writes of consecutive keys keep it. -/
theorem mwf_msetList (d : Nat → α) : ∀ (vs : List α) (m : List (Nat × α)) (a : Nat),
    mwf d m = true → mwf d (msetList d m a vs) = true
  | [], _, _, h => h
  | v :: vs, m, a, h => mwf_msetList d vs _ (a + 1) (mwf_mset d m a v h)

/-- The byte writes of a memory keep its canonical form. -/
theorem Memory.wf_wrByte (f : BitVec 8) (m : List Host.Cell) (a : Nat) (v : BitVec 8) (h : Memory.wf f m = true) :
    Memory.wf f (wrByte f m a v) = true := mwf_mset _ m a v h
theorem Memory.wf_wrBytes (f : BitVec 8) (m : List Host.Cell) (a : Nat) (bs : List (BitVec 8))
    (h : Memory.wf f m = true) : Memory.wf f (wrBytes f m a bs) = true := mwf_msetList _ bs m a h
theorem Memory.wf_wrLE (f : BitVec 8) (m : List Host.Cell) (a n x : Nat) (h : Memory.wf f m = true) :
    Memory.wf f (wrLE f m a n x) = true := Memory.wf_wrBytes f m a _ h

/-- What a byte reads as after a write of consecutive bytes elsewhere. -/
theorem rdByte_wrBytes_out (f : BitVec 8) : ∀ (bs : List (BitVec 8)) (m : List Host.Cell) (a b : Nat),
    b < a ∨ a + bs.length ≤ b → rdByte f (wrBytes f m a bs) b = rdByte f m b
  | [], _, _, _, _ => rfl
  | v :: vs, m, a, b, h => by
    have h1 : a ≠ b := by simp only [List.length_cons] at h; omega
    have h2 : b < a + 1 ∨ a + 1 + vs.length ≤ b := by simp only [List.length_cons] at h; omega
    have := rdByte_wrBytes_out f vs (mset (fillByte f) m a v) (a + 1) b h2
    simp only [rdByte, wrBytes, msetList] at this ⊢
    rw [this, mget_mset_ne _ _ _ h1]

end Sys2Proof.Machine
end

