-- ==== Sys2Proof/Laws/State.lean ====
section
/-! SUPPORT. Register reads after register writes, and the parts of the machine that the basic operations leave
alone, one lemma per part and operation. -/

namespace Sys2Proof.Machine

/-! ### Bit fields -/

/-- One bit of a register after a field of it is replaced. -/
theorem setBits_bit (w : BitVec 32) (hi lo v i : Nat) (h : i < 32) :
    (setBits w hi lo v).getLsbD i = if lo ≤ i ∧ i ≤ hi then v.testBit (i - lo) else w.getLsbD i := by
  simp only [setBits, maskBits, BitVec.getLsbD_or, BitVec.getLsbD_and, BitVec.getLsbD_not, BitVec.getLsbD_ofNat, h,
    decide_true, Bool.true_and, Nat.testBit_shiftLeft, Nat.testBit_two_pow_sub_one, Nat.testBit_mod_two_pow]
  by_cases a : lo ≤ i
  · by_cases b : i ≤ hi
    · have : i - lo < hi + 1 - lo := by omega
      simp [a, b, this]
    · have : ¬ i - lo < hi + 1 - lo := by omega
      simp [b, this]
  · simp [a]

/-- One bit of a field. -/
theorem getBits_bit (w : BitVec 32) (hi lo i : Nat) :
    (getBits w hi lo).testBit i = (decide (i < hi + 1 - lo) && w.getLsbD (lo + i)) := by
  simp only [getBits, bitsN, Nat.testBit_mod_two_pow, Nat.testBit_shiftRight, BitVec.getLsbD]

/-- A field reads what replaced it. -/
theorem getBits_setBits_same (w : BitVec 32) {hi lo : Nat} (v : Nat) (h32 : hi < 32) :
    getBits (setBits w hi lo v) hi lo = v % 2 ^ (hi + 1 - lo) := by
  apply Nat.eq_of_testBit_eq
  intro i
  rw [getBits_bit, Nat.testBit_mod_two_pow]
  by_cases h : i < hi + 1 - lo
  · rw [setBits_bit _ _ _ _ _ (by omega), if_pos (by omega), Nat.add_sub_cancel_left]
  · simp [h]

/-- A field that does not overlap stays. -/
theorem getBits_setBits_ne (w : BitVec 32) {hi lo hi' lo' : Nat} (v : Nat)
    (hd : hi' < lo ∨ hi < lo') : getBits (setBits w hi lo v) hi' lo' = getBits w hi' lo' := by
  apply Nat.eq_of_testBit_eq
  intro i
  rw [getBits_bit, getBits_bit]
  by_cases h : i < hi' + 1 - lo'
  · by_cases a : lo' + i < 32
    · rw [setBits_bit _ _ _ _ _ a, if_neg (by omega)]
    · rw [BitVec.getLsbD_of_ge _ _ (by omega), BitVec.getLsbD_of_ge _ _ (by omega)]
  · simp [h]

/-! ### Registers -/

@[simp] theorem rdReg_wrReg_same (a : Nat) (v : BitVec 32) (d : Dev) : rdReg a (wrReg a v d) = v := by
  unfold rdReg wrReg
  split <;> simp

theorem rdReg_wrReg_ne {a b : Nat} (v : BitVec 32) (d : Dev) (h : a ≠ b) : rdReg b (wrReg a v d) = rdReg b d := by
  unfold rdReg wrReg
  by_cases ha : auxAddr a = true <;> by_cases hb : auxAddr b = true <;> simp [ha, hb, mget_mset_ne _ _ _ h]

/-- A field reads what was last written to it, modulo its size. -/
theorem fld_setFld_same (f : Fld) (v : Nat) (d : Dev) (h32 : f.hi < 32) :
    fld f (setFld f v d) = v % 2 ^ (f.hi + 1 - f.lo) := by
  unfold fld setFld
  rw [rdReg_wrReg_same, getBits_setBits_same _ _ h32]

/-- A field of another register. -/
theorem fld_setFld_addr {f g : Fld} (v : Nat) (d : Dev) (h : f.addr ≠ g.addr) : fld g (setFld f v d) = fld g d := by
  unfold fld setFld
  rw [rdReg_wrReg_ne _ _ h]

/-- A field that does not overlap. -/
theorem fld_setFld_ne {f g : Fld} (v : Nat) (d : Dev)
    (hd : g.hi < f.lo ∨ f.hi < g.lo) : fld g (setFld f v d) = fld g d := by
  by_cases ha : f.addr = g.addr
  · unfold fld setFld
    rw [ha, rdReg_wrReg_same, getBits_setBits_ne _ _ hd]
  · exact fld_setFld_addr v d ha

/-! ### What the basic operations leave alone -/

@[simp] theorem wrReg_pw (a : Nat) (v : BitVec 32) (d : Dev) : (wrReg a v d).pw = d.pw := by unfold wrReg; split <;> rfl
@[simp] theorem wrReg_sl (a : Nat) (v : BitVec 32) (d : Dev) : (wrReg a v d).sl = d.sl := by unfold wrReg; split <;> rfl
@[simp] theorem wrReg_link (a : Nat) (v : BitVec 32) (d : Dev) : (wrReg a v d).link = d.link := by unfold wrReg; split <;> rfl
@[simp] theorem wrReg_evt (a : Nat) (v : BitVec 32) (d : Dev) : (wrReg a v d).evt = d.evt := by unfold wrReg; split <;> rfl
@[simp] theorem wrReg_fpa (a : Nat) (v : BitVec 32) (d : Dev) : (wrReg a v d).fpa = d.fpa := by unfold wrReg; split <;> rfl
@[simp] theorem wrReg_en (a : Nat) (v : BitVec 32) (d : Dev) : (wrReg a v d).en = d.en := by unfold wrReg; split <;> rfl
@[simp] theorem wrReg_cal (a : Nat) (v : BitVec 32) (d : Dev) : (wrReg a v d).cal = d.cal := by unfold wrReg; split <;> rfl
@[simp] theorem wrReg_take (a : Nat) (v : BitVec 32) (d : Dev) : (wrReg a v d).take = d.take := by unfold wrReg; split <;> rfl
@[simp] theorem wrReg_nvc (a : Nat) (v : BitVec 32) (d : Dev) : (wrReg a v d).nvc = d.nvc := by unfold wrReg; split <;> rfl
@[simp] theorem wrReg_rings (a : Nat) (v : BitVec 32) (d : Dev) : (wrReg a v d).rings = d.rings := by unfold wrReg; split <;> rfl
@[simp] theorem wrReg_cw (a : Nat) (v : BitVec 32) (d : Dev) : (wrReg a v d).cw = d.cw := by unfold wrReg; split <;> rfl
@[simp] theorem wrReg_herd (a : Nat) (v : BitVec 32) (d : Dev) : (wrReg a v d).herd = d.herd := by unfold wrReg; split <;> rfl
@[simp] theorem wrReg_xh (a : Nat) (v : BitVec 32) (d : Dev) : (wrReg a v d).xh = d.xh := by unfold wrReg; split <;> rfl
@[simp] theorem wrReg_fl (a : Nat) (v : BitVec 32) (d : Dev) : (wrReg a v d).fl = d.fl := by unfold wrReg; split <;> rfl
@[simp] theorem wrReg_emt (a : Nat) (v : BitVec 32) (d : Dev) : (wrReg a v d).emt = d.emt := by unfold wrReg; split <;> rfl
@[simp] theorem wrReg_gaf (a : Nat) (v : BitVec 32) (d : Dev) : (wrReg a v d).gaf = d.gaf := by unfold wrReg; split <;> rfl
@[simp] theorem wrReg_fsh (a : Nat) (v : BitVec 32) (d : Dev) : (wrReg a v d).fsh = d.fsh := by unfold wrReg; split <;> rfl
@[simp] theorem wrReg_bus (a : Nat) (v : BitVec 32) (d : Dev) : (wrReg a v d).bus = d.bus := by unfold wrReg; split <;> rfl
@[simp] theorem wrReg_mgp (a : Nat) (v : BitVec 32) (d : Dev) : (wrReg a v d).mgp = d.mgp := by unfold wrReg; split <;> rfl
@[simp] theorem wrReg_waits (a : Nat) (v : BitVec 32) (d : Dev) : (wrReg a v d).waits = d.waits := by unfold wrReg; split <;> rfl
@[simp] theorem wrReg_readData (a : Nat) (v : BitVec 32) (d : Dev) : (wrReg a v d).readData = d.readData := by unfold wrReg; split <;> rfl
@[simp] theorem wrReg_out (a : Nat) (v : BitVec 32) (d : Dev) : (wrReg a v d).out = d.out := by unfold wrReg; split <;> rfl
@[simp] theorem wrReg_free (a : Nat) (v : BitVec 32) (d : Dev) : (wrReg a v d).free = d.free := by unfold wrReg; split <;> rfl

@[simp] theorem setFld_pw (f : Fld) (v : Nat) (d : Dev) : (setFld f v d).pw = d.pw := by simp [setFld]
@[simp] theorem setFld_sl (f : Fld) (v : Nat) (d : Dev) : (setFld f v d).sl = d.sl := by simp [setFld]
@[simp] theorem setFld_link (f : Fld) (v : Nat) (d : Dev) : (setFld f v d).link = d.link := by simp [setFld]
@[simp] theorem setFld_evt (f : Fld) (v : Nat) (d : Dev) : (setFld f v d).evt = d.evt := by simp [setFld]
@[simp] theorem setFld_fpa (f : Fld) (v : Nat) (d : Dev) : (setFld f v d).fpa = d.fpa := by simp [setFld]
@[simp] theorem setFld_en (f : Fld) (v : Nat) (d : Dev) : (setFld f v d).en = d.en := by simp [setFld]
@[simp] theorem setFld_cal (f : Fld) (v : Nat) (d : Dev) : (setFld f v d).cal = d.cal := by simp [setFld]
@[simp] theorem setFld_take (f : Fld) (v : Nat) (d : Dev) : (setFld f v d).take = d.take := by simp [setFld]
@[simp] theorem setFld_nvc (f : Fld) (v : Nat) (d : Dev) : (setFld f v d).nvc = d.nvc := by simp [setFld]
@[simp] theorem setFld_rings (f : Fld) (v : Nat) (d : Dev) : (setFld f v d).rings = d.rings := by simp [setFld]
@[simp] theorem setFld_cw (f : Fld) (v : Nat) (d : Dev) : (setFld f v d).cw = d.cw := by simp [setFld]
@[simp] theorem setFld_herd (f : Fld) (v : Nat) (d : Dev) : (setFld f v d).herd = d.herd := by simp [setFld]
@[simp] theorem setFld_xh (f : Fld) (v : Nat) (d : Dev) : (setFld f v d).xh = d.xh := by simp [setFld]
@[simp] theorem setFld_fl (f : Fld) (v : Nat) (d : Dev) : (setFld f v d).fl = d.fl := by simp [setFld]
@[simp] theorem setFld_emt (f : Fld) (v : Nat) (d : Dev) : (setFld f v d).emt = d.emt := by simp [setFld]
@[simp] theorem setFld_gaf (f : Fld) (v : Nat) (d : Dev) : (setFld f v d).gaf = d.gaf := by simp [setFld]
@[simp] theorem setFld_fsh (f : Fld) (v : Nat) (d : Dev) : (setFld f v d).fsh = d.fsh := by simp [setFld]
@[simp] theorem setFld_bus (f : Fld) (v : Nat) (d : Dev) : (setFld f v d).bus = d.bus := by simp [setFld]
@[simp] theorem setFld_mgp (f : Fld) (v : Nat) (d : Dev) : (setFld f v d).mgp = d.mgp := by simp [setFld]
@[simp] theorem setFld_waits (f : Fld) (v : Nat) (d : Dev) : (setFld f v d).waits = d.waits := by simp [setFld]
@[simp] theorem setFld_readData (f : Fld) (v : Nat) (d : Dev) : (setFld f v d).readData = d.readData := by simp [setFld]
@[simp] theorem setFld_out (f : Fld) (v : Nat) (d : Dev) : (setFld f v d).out = d.out := by simp [setFld]
@[simp] theorem setFld_free (f : Fld) (v : Nat) (d : Dev) : (setFld f v d).free = d.free := by simp [setFld]

@[simp] theorem setFlag_pw (f : Fld) (b : Bool) (d : Dev) : (setFlag f b d).pw = d.pw := by simp [setFlag]
@[simp] theorem setFlag_sl (f : Fld) (b : Bool) (d : Dev) : (setFlag f b d).sl = d.sl := by simp [setFlag]
@[simp] theorem setFlag_link (f : Fld) (b : Bool) (d : Dev) : (setFlag f b d).link = d.link := by simp [setFlag]
@[simp] theorem setFlag_evt (f : Fld) (b : Bool) (d : Dev) : (setFlag f b d).evt = d.evt := by simp [setFlag]
@[simp] theorem setFlag_fpa (f : Fld) (b : Bool) (d : Dev) : (setFlag f b d).fpa = d.fpa := by simp [setFlag]
@[simp] theorem setFlag_en (f : Fld) (b : Bool) (d : Dev) : (setFlag f b d).en = d.en := by simp [setFlag]
@[simp] theorem setFlag_cal (f : Fld) (b : Bool) (d : Dev) : (setFlag f b d).cal = d.cal := by simp [setFlag]
@[simp] theorem setFlag_take (f : Fld) (b : Bool) (d : Dev) : (setFlag f b d).take = d.take := by simp [setFlag]
@[simp] theorem setFlag_nvc (f : Fld) (b : Bool) (d : Dev) : (setFlag f b d).nvc = d.nvc := by simp [setFlag]
@[simp] theorem setFlag_rings (f : Fld) (b : Bool) (d : Dev) : (setFlag f b d).rings = d.rings := by simp [setFlag]
@[simp] theorem setFlag_cw (f : Fld) (b : Bool) (d : Dev) : (setFlag f b d).cw = d.cw := by simp [setFlag]
@[simp] theorem setFlag_herd (f : Fld) (b : Bool) (d : Dev) : (setFlag f b d).herd = d.herd := by simp [setFlag]
@[simp] theorem setFlag_xh (f : Fld) (b : Bool) (d : Dev) : (setFlag f b d).xh = d.xh := by simp [setFlag]
@[simp] theorem setFlag_fl (f : Fld) (b : Bool) (d : Dev) : (setFlag f b d).fl = d.fl := by simp [setFlag]
@[simp] theorem setFlag_emt (f : Fld) (b : Bool) (d : Dev) : (setFlag f b d).emt = d.emt := by simp [setFlag]
@[simp] theorem setFlag_gaf (f : Fld) (b : Bool) (d : Dev) : (setFlag f b d).gaf = d.gaf := by simp [setFlag]
@[simp] theorem setFlag_fsh (f : Fld) (b : Bool) (d : Dev) : (setFlag f b d).fsh = d.fsh := by simp [setFlag]
@[simp] theorem setFlag_bus (f : Fld) (b : Bool) (d : Dev) : (setFlag f b d).bus = d.bus := by simp [setFlag]
@[simp] theorem setFlag_mgp (f : Fld) (b : Bool) (d : Dev) : (setFlag f b d).mgp = d.mgp := by simp [setFlag]
@[simp] theorem setFlag_waits (f : Fld) (b : Bool) (d : Dev) : (setFlag f b d).waits = d.waits := by simp [setFlag]
@[simp] theorem setFlag_readData (f : Fld) (b : Bool) (d : Dev) : (setFlag f b d).readData = d.readData := by simp [setFlag]
@[simp] theorem setFlag_out (f : Fld) (b : Bool) (d : Dev) : (setFlag f b d).out = d.out := by simp [setFlag]
@[simp] theorem setFlag_free (f : Fld) (b : Bool) (d : Dev) : (setFlag f b d).free = d.free := by simp [setFlag]

@[simp] theorem addFld_pw (f : Fld) (n : Nat) (d : Dev) : (addFld f n d).pw = d.pw := by simp [addFld]
@[simp] theorem addFld_sl (f : Fld) (n : Nat) (d : Dev) : (addFld f n d).sl = d.sl := by simp [addFld]
@[simp] theorem addFld_link (f : Fld) (n : Nat) (d : Dev) : (addFld f n d).link = d.link := by simp [addFld]
@[simp] theorem addFld_evt (f : Fld) (n : Nat) (d : Dev) : (addFld f n d).evt = d.evt := by simp [addFld]
@[simp] theorem addFld_fpa (f : Fld) (n : Nat) (d : Dev) : (addFld f n d).fpa = d.fpa := by simp [addFld]
@[simp] theorem addFld_en (f : Fld) (n : Nat) (d : Dev) : (addFld f n d).en = d.en := by simp [addFld]
@[simp] theorem addFld_cal (f : Fld) (n : Nat) (d : Dev) : (addFld f n d).cal = d.cal := by simp [addFld]
@[simp] theorem addFld_take (f : Fld) (n : Nat) (d : Dev) : (addFld f n d).take = d.take := by simp [addFld]
@[simp] theorem addFld_nvc (f : Fld) (n : Nat) (d : Dev) : (addFld f n d).nvc = d.nvc := by simp [addFld]
@[simp] theorem addFld_rings (f : Fld) (n : Nat) (d : Dev) : (addFld f n d).rings = d.rings := by simp [addFld]
@[simp] theorem addFld_cw (f : Fld) (n : Nat) (d : Dev) : (addFld f n d).cw = d.cw := by simp [addFld]
@[simp] theorem addFld_herd (f : Fld) (n : Nat) (d : Dev) : (addFld f n d).herd = d.herd := by simp [addFld]
@[simp] theorem addFld_xh (f : Fld) (n : Nat) (d : Dev) : (addFld f n d).xh = d.xh := by simp [addFld]
@[simp] theorem addFld_fl (f : Fld) (n : Nat) (d : Dev) : (addFld f n d).fl = d.fl := by simp [addFld]
@[simp] theorem addFld_emt (f : Fld) (n : Nat) (d : Dev) : (addFld f n d).emt = d.emt := by simp [addFld]
@[simp] theorem addFld_gaf (f : Fld) (n : Nat) (d : Dev) : (addFld f n d).gaf = d.gaf := by simp [addFld]
@[simp] theorem addFld_fsh (f : Fld) (n : Nat) (d : Dev) : (addFld f n d).fsh = d.fsh := by simp [addFld]
@[simp] theorem addFld_bus (f : Fld) (n : Nat) (d : Dev) : (addFld f n d).bus = d.bus := by simp [addFld]
@[simp] theorem addFld_mgp (f : Fld) (n : Nat) (d : Dev) : (addFld f n d).mgp = d.mgp := by simp [addFld]
@[simp] theorem addFld_waits (f : Fld) (n : Nat) (d : Dev) : (addFld f n d).waits = d.waits := by simp [addFld]
@[simp] theorem addFld_readData (f : Fld) (n : Nat) (d : Dev) : (addFld f n d).readData = d.readData := by simp [addFld]
@[simp] theorem addFld_out (f : Fld) (n : Nat) (d : Dev) : (addFld f n d).out = d.out := by simp [addFld]
@[simp] theorem addFld_free (f : Fld) (n : Nat) (d : Dev) : (addFld f n d).free = d.free := by simp [addFld]

@[simp] theorem addFldSat_pw (f : Fld) (n : Nat) (d : Dev) : (addFldSat f n d).pw = d.pw := by simp [addFldSat]
@[simp] theorem addFldSat_sl (f : Fld) (n : Nat) (d : Dev) : (addFldSat f n d).sl = d.sl := by simp [addFldSat]
@[simp] theorem addFldSat_link (f : Fld) (n : Nat) (d : Dev) : (addFldSat f n d).link = d.link := by simp [addFldSat]
@[simp] theorem addFldSat_evt (f : Fld) (n : Nat) (d : Dev) : (addFldSat f n d).evt = d.evt := by simp [addFldSat]
@[simp] theorem addFldSat_fpa (f : Fld) (n : Nat) (d : Dev) : (addFldSat f n d).fpa = d.fpa := by simp [addFldSat]
@[simp] theorem addFldSat_en (f : Fld) (n : Nat) (d : Dev) : (addFldSat f n d).en = d.en := by simp [addFldSat]
@[simp] theorem addFldSat_cal (f : Fld) (n : Nat) (d : Dev) : (addFldSat f n d).cal = d.cal := by simp [addFldSat]
@[simp] theorem addFldSat_take (f : Fld) (n : Nat) (d : Dev) : (addFldSat f n d).take = d.take := by simp [addFldSat]
@[simp] theorem addFldSat_nvc (f : Fld) (n : Nat) (d : Dev) : (addFldSat f n d).nvc = d.nvc := by simp [addFldSat]
@[simp] theorem addFldSat_rings (f : Fld) (n : Nat) (d : Dev) : (addFldSat f n d).rings = d.rings := by simp [addFldSat]
@[simp] theorem addFldSat_cw (f : Fld) (n : Nat) (d : Dev) : (addFldSat f n d).cw = d.cw := by simp [addFldSat]
@[simp] theorem addFldSat_herd (f : Fld) (n : Nat) (d : Dev) : (addFldSat f n d).herd = d.herd := by simp [addFldSat]
@[simp] theorem addFldSat_xh (f : Fld) (n : Nat) (d : Dev) : (addFldSat f n d).xh = d.xh := by simp [addFldSat]
@[simp] theorem addFldSat_fl (f : Fld) (n : Nat) (d : Dev) : (addFldSat f n d).fl = d.fl := by simp [addFldSat]
@[simp] theorem addFldSat_emt (f : Fld) (n : Nat) (d : Dev) : (addFldSat f n d).emt = d.emt := by simp [addFldSat]
@[simp] theorem addFldSat_gaf (f : Fld) (n : Nat) (d : Dev) : (addFldSat f n d).gaf = d.gaf := by simp [addFldSat]
@[simp] theorem addFldSat_fsh (f : Fld) (n : Nat) (d : Dev) : (addFldSat f n d).fsh = d.fsh := by simp [addFldSat]
@[simp] theorem addFldSat_bus (f : Fld) (n : Nat) (d : Dev) : (addFldSat f n d).bus = d.bus := by simp [addFldSat]
@[simp] theorem addFldSat_mgp (f : Fld) (n : Nat) (d : Dev) : (addFldSat f n d).mgp = d.mgp := by simp [addFldSat]
@[simp] theorem addFldSat_waits (f : Fld) (n : Nat) (d : Dev) : (addFldSat f n d).waits = d.waits := by simp [addFldSat]
@[simp] theorem addFldSat_readData (f : Fld) (n : Nat) (d : Dev) : (addFldSat f n d).readData = d.readData := by simp [addFldSat]
@[simp] theorem addFldSat_out (f : Fld) (n : Nat) (d : Dev) : (addFldSat f n d).out = d.out := by simp [addFldSat]
@[simp] theorem addFldSat_free (f : Fld) (n : Nat) (d : Dev) : (addFldSat f n d).free = d.free := by simp [addFldSat]

@[simp] theorem emitOut_main (o : Out) (d : Dev) : (emitOut o d).main = d.main := rfl
@[simp] theorem emitOut_aux (o : Out) (d : Dev) : (emitOut o d).aux = d.aux := rfl
@[simp] theorem emitOut_pw (o : Out) (d : Dev) : (emitOut o d).pw = d.pw := rfl
@[simp] theorem emitOut_sl (o : Out) (d : Dev) : (emitOut o d).sl = d.sl := rfl
@[simp] theorem emitOut_link (o : Out) (d : Dev) : (emitOut o d).link = d.link := rfl
@[simp] theorem emitOut_evt (o : Out) (d : Dev) : (emitOut o d).evt = d.evt := rfl
@[simp] theorem emitOut_fpa (o : Out) (d : Dev) : (emitOut o d).fpa = d.fpa := rfl
@[simp] theorem emitOut_en (o : Out) (d : Dev) : (emitOut o d).en = d.en := rfl
@[simp] theorem emitOut_cal (o : Out) (d : Dev) : (emitOut o d).cal = d.cal := rfl
@[simp] theorem emitOut_take (o : Out) (d : Dev) : (emitOut o d).take = d.take := rfl
@[simp] theorem emitOut_nvc (o : Out) (d : Dev) : (emitOut o d).nvc = d.nvc := rfl
@[simp] theorem emitOut_rings (o : Out) (d : Dev) : (emitOut o d).rings = d.rings := rfl
@[simp] theorem emitOut_cw (o : Out) (d : Dev) : (emitOut o d).cw = d.cw := rfl
@[simp] theorem emitOut_herd (o : Out) (d : Dev) : (emitOut o d).herd = d.herd := rfl
@[simp] theorem emitOut_xh (o : Out) (d : Dev) : (emitOut o d).xh = d.xh := rfl
@[simp] theorem emitOut_fl (o : Out) (d : Dev) : (emitOut o d).fl = d.fl := rfl
@[simp] theorem emitOut_emt (o : Out) (d : Dev) : (emitOut o d).emt = d.emt := rfl
@[simp] theorem emitOut_gaf (o : Out) (d : Dev) : (emitOut o d).gaf = d.gaf := rfl
@[simp] theorem emitOut_fsh (o : Out) (d : Dev) : (emitOut o d).fsh = d.fsh := rfl
@[simp] theorem emitOut_bus (o : Out) (d : Dev) : (emitOut o d).bus = d.bus := rfl
@[simp] theorem emitOut_mgp (o : Out) (d : Dev) : (emitOut o d).mgp = d.mgp := rfl
@[simp] theorem emitOut_waits (o : Out) (d : Dev) : (emitOut o d).waits = d.waits := rfl
@[simp] theorem emitOut_readData (o : Out) (d : Dev) : (emitOut o d).readData = d.readData := rfl
@[simp] theorem emitOut_free (o : Out) (d : Dev) : (emitOut o d).free = d.free := rfl

@[simp] theorem freeTaken_main (d : Dev) : (freeTaken d).main = d.main := rfl
@[simp] theorem freeTaken_aux (d : Dev) : (freeTaken d).aux = d.aux := rfl
@[simp] theorem freeTaken_pw (d : Dev) : (freeTaken d).pw = d.pw := rfl
@[simp] theorem freeTaken_sl (d : Dev) : (freeTaken d).sl = d.sl := rfl
@[simp] theorem freeTaken_link (d : Dev) : (freeTaken d).link = d.link := rfl
@[simp] theorem freeTaken_evt (d : Dev) : (freeTaken d).evt = d.evt := rfl
@[simp] theorem freeTaken_fpa (d : Dev) : (freeTaken d).fpa = d.fpa := rfl
@[simp] theorem freeTaken_en (d : Dev) : (freeTaken d).en = d.en := rfl
@[simp] theorem freeTaken_cal (d : Dev) : (freeTaken d).cal = d.cal := rfl
@[simp] theorem freeTaken_take (d : Dev) : (freeTaken d).take = d.take := rfl
@[simp] theorem freeTaken_nvc (d : Dev) : (freeTaken d).nvc = d.nvc := rfl
@[simp] theorem freeTaken_rings (d : Dev) : (freeTaken d).rings = d.rings := rfl
@[simp] theorem freeTaken_cw (d : Dev) : (freeTaken d).cw = d.cw := rfl
@[simp] theorem freeTaken_herd (d : Dev) : (freeTaken d).herd = d.herd := rfl
@[simp] theorem freeTaken_xh (d : Dev) : (freeTaken d).xh = d.xh := rfl
@[simp] theorem freeTaken_fl (d : Dev) : (freeTaken d).fl = d.fl := rfl
@[simp] theorem freeTaken_emt (d : Dev) : (freeTaken d).emt = d.emt := rfl
@[simp] theorem freeTaken_gaf (d : Dev) : (freeTaken d).gaf = d.gaf := rfl
@[simp] theorem freeTaken_fsh (d : Dev) : (freeTaken d).fsh = d.fsh := rfl
@[simp] theorem freeTaken_bus (d : Dev) : (freeTaken d).bus = d.bus := rfl
@[simp] theorem freeTaken_mgp (d : Dev) : (freeTaken d).mgp = d.mgp := rfl
@[simp] theorem freeTaken_waits (d : Dev) : (freeTaken d).waits = d.waits := rfl
@[simp] theorem freeTaken_readData (d : Dev) : (freeTaken d).readData = d.readData := rfl
@[simp] theorem freeTaken_out (d : Dev) : (freeTaken d).out = d.out := rfl

@[simp] theorem advance_main (n : Nat) (d : Dev) : (advance n d).main = d.main := rfl
@[simp] theorem advance_aux (n : Nat) (d : Dev) : (advance n d).aux = d.aux := rfl
@[simp] theorem advance_pw (n : Nat) (d : Dev) : (advance n d).pw = d.pw := rfl
@[simp] theorem advance_link (n : Nat) (d : Dev) : (advance n d).link = d.link := rfl
@[simp] theorem advance_evt (n : Nat) (d : Dev) : (advance n d).evt = d.evt := rfl
@[simp] theorem advance_fpa (n : Nat) (d : Dev) : (advance n d).fpa = d.fpa := rfl
@[simp] theorem advance_en (n : Nat) (d : Dev) : (advance n d).en = d.en := rfl
@[simp] theorem advance_cal (n : Nat) (d : Dev) : (advance n d).cal = d.cal := rfl
@[simp] theorem advance_take (n : Nat) (d : Dev) : (advance n d).take = d.take := rfl
@[simp] theorem advance_nvc (n : Nat) (d : Dev) : (advance n d).nvc = d.nvc := rfl
@[simp] theorem advance_rings (n : Nat) (d : Dev) : (advance n d).rings = d.rings := rfl
@[simp] theorem advance_cw (n : Nat) (d : Dev) : (advance n d).cw = d.cw := rfl
@[simp] theorem advance_herd (n : Nat) (d : Dev) : (advance n d).herd = d.herd := rfl
@[simp] theorem advance_xh (n : Nat) (d : Dev) : (advance n d).xh = d.xh := rfl
@[simp] theorem advance_fl (n : Nat) (d : Dev) : (advance n d).fl = d.fl := rfl
@[simp] theorem advance_emt (n : Nat) (d : Dev) : (advance n d).emt = d.emt := rfl
@[simp] theorem advance_gaf (n : Nat) (d : Dev) : (advance n d).gaf = d.gaf := rfl
@[simp] theorem advance_fsh (n : Nat) (d : Dev) : (advance n d).fsh = d.fsh := rfl
@[simp] theorem advance_bus (n : Nat) (d : Dev) : (advance n d).bus = d.bus := rfl
@[simp] theorem advance_mgp (n : Nat) (d : Dev) : (advance n d).mgp = d.mgp := rfl
@[simp] theorem advance_waits (n : Nat) (d : Dev) : (advance n d).waits = d.waits := rfl
@[simp] theorem advance_readData (n : Nat) (d : Dev) : (advance n d).readData = d.readData := rfl
@[simp] theorem advance_out (n : Nat) (d : Dev) : (advance n d).out = d.out := rfl
@[simp] theorem advance_free (n : Nat) (d : Dev) : (advance n d).free = d.free := rfl

@[simp] theorem modNvc_main (f : NvsCtl → NvsCtl) (d : Dev) : (modNvc f d).main = d.main := rfl
@[simp] theorem modNvc_aux (f : NvsCtl → NvsCtl) (d : Dev) : (modNvc f d).aux = d.aux := rfl
@[simp] theorem modNvc_pw (f : NvsCtl → NvsCtl) (d : Dev) : (modNvc f d).pw = d.pw := rfl
@[simp] theorem modNvc_sl (f : NvsCtl → NvsCtl) (d : Dev) : (modNvc f d).sl = d.sl := rfl
@[simp] theorem modNvc_link (f : NvsCtl → NvsCtl) (d : Dev) : (modNvc f d).link = d.link := rfl
@[simp] theorem modNvc_evt (f : NvsCtl → NvsCtl) (d : Dev) : (modNvc f d).evt = d.evt := rfl
@[simp] theorem modNvc_fpa (f : NvsCtl → NvsCtl) (d : Dev) : (modNvc f d).fpa = d.fpa := rfl
@[simp] theorem modNvc_en (f : NvsCtl → NvsCtl) (d : Dev) : (modNvc f d).en = d.en := rfl
@[simp] theorem modNvc_cal (f : NvsCtl → NvsCtl) (d : Dev) : (modNvc f d).cal = d.cal := rfl
@[simp] theorem modNvc_take (f : NvsCtl → NvsCtl) (d : Dev) : (modNvc f d).take = d.take := rfl
@[simp] theorem modNvc_rings (f : NvsCtl → NvsCtl) (d : Dev) : (modNvc f d).rings = d.rings := rfl
@[simp] theorem modNvc_cw (f : NvsCtl → NvsCtl) (d : Dev) : (modNvc f d).cw = d.cw := rfl
@[simp] theorem modNvc_herd (f : NvsCtl → NvsCtl) (d : Dev) : (modNvc f d).herd = d.herd := rfl
@[simp] theorem modNvc_xh (f : NvsCtl → NvsCtl) (d : Dev) : (modNvc f d).xh = d.xh := rfl
@[simp] theorem modNvc_fl (f : NvsCtl → NvsCtl) (d : Dev) : (modNvc f d).fl = d.fl := rfl
@[simp] theorem modNvc_emt (f : NvsCtl → NvsCtl) (d : Dev) : (modNvc f d).emt = d.emt := rfl
@[simp] theorem modNvc_gaf (f : NvsCtl → NvsCtl) (d : Dev) : (modNvc f d).gaf = d.gaf := rfl
@[simp] theorem modNvc_fsh (f : NvsCtl → NvsCtl) (d : Dev) : (modNvc f d).fsh = d.fsh := rfl
@[simp] theorem modNvc_bus (f : NvsCtl → NvsCtl) (d : Dev) : (modNvc f d).bus = d.bus := rfl
@[simp] theorem modNvc_mgp (f : NvsCtl → NvsCtl) (d : Dev) : (modNvc f d).mgp = d.mgp := rfl
@[simp] theorem modNvc_waits (f : NvsCtl → NvsCtl) (d : Dev) : (modNvc f d).waits = d.waits := rfl
@[simp] theorem modNvc_readData (f : NvsCtl → NvsCtl) (d : Dev) : (modNvc f d).readData = d.readData := rfl
@[simp] theorem modNvc_out (f : NvsCtl → NvsCtl) (d : Dev) : (modNvc f d).out = d.out := rfl
@[simp] theorem modNvc_free (f : NvsCtl → NvsCtl) (d : Dev) : (modNvc f d).free = d.free := rfl

@[simp] theorem msixSend_main (v : Nat) (d : Dev) : (msixSend v d).main = d.main := rfl
@[simp] theorem msixSend_aux (v : Nat) (d : Dev) : (msixSend v d).aux = d.aux := rfl
@[simp] theorem msixSend_pw (v : Nat) (d : Dev) : (msixSend v d).pw = d.pw := rfl
@[simp] theorem msixSend_sl (v : Nat) (d : Dev) : (msixSend v d).sl = d.sl := rfl
@[simp] theorem msixSend_link (v : Nat) (d : Dev) : (msixSend v d).link = d.link := rfl
@[simp] theorem msixSend_evt (v : Nat) (d : Dev) : (msixSend v d).evt = d.evt := rfl
@[simp] theorem msixSend_fpa (v : Nat) (d : Dev) : (msixSend v d).fpa = d.fpa := rfl
@[simp] theorem msixSend_en (v : Nat) (d : Dev) : (msixSend v d).en = d.en := rfl
@[simp] theorem msixSend_cal (v : Nat) (d : Dev) : (msixSend v d).cal = d.cal := rfl
@[simp] theorem msixSend_take (v : Nat) (d : Dev) : (msixSend v d).take = d.take := rfl
@[simp] theorem msixSend_nvc (v : Nat) (d : Dev) : (msixSend v d).nvc = d.nvc := rfl
@[simp] theorem msixSend_rings (v : Nat) (d : Dev) : (msixSend v d).rings = d.rings := rfl
@[simp] theorem msixSend_cw (v : Nat) (d : Dev) : (msixSend v d).cw = d.cw := rfl
@[simp] theorem msixSend_herd (v : Nat) (d : Dev) : (msixSend v d).herd = d.herd := rfl
@[simp] theorem msixSend_xh (v : Nat) (d : Dev) : (msixSend v d).xh = d.xh := rfl
@[simp] theorem msixSend_fl (v : Nat) (d : Dev) : (msixSend v d).fl = d.fl := rfl
@[simp] theorem msixSend_emt (v : Nat) (d : Dev) : (msixSend v d).emt = d.emt := rfl
@[simp] theorem msixSend_gaf (v : Nat) (d : Dev) : (msixSend v d).gaf = d.gaf := rfl
@[simp] theorem msixSend_fsh (v : Nat) (d : Dev) : (msixSend v d).fsh = d.fsh := rfl
@[simp] theorem msixSend_bus (v : Nat) (d : Dev) : (msixSend v d).bus = d.bus := rfl
@[simp] theorem msixSend_mgp (v : Nat) (d : Dev) : (msixSend v d).mgp = d.mgp := rfl
@[simp] theorem msixSend_waits (v : Nat) (d : Dev) : (msixSend v d).waits = d.waits := rfl
@[simp] theorem msixSend_readData (v : Nat) (d : Dev) : (msixSend v d).readData = d.readData := rfl
@[simp] theorem msixSend_free (v : Nat) (d : Dev) : (msixSend v d).free = d.free := rfl

@[simp] theorem msixSetPending_pw (v : Nat) (b : Bool) (d : Dev) : (msixSetPending v b d).pw = d.pw := by simp [msixSetPending]
@[simp] theorem msixSetPending_sl (v : Nat) (b : Bool) (d : Dev) : (msixSetPending v b d).sl = d.sl := by simp [msixSetPending]
@[simp] theorem msixSetPending_link (v : Nat) (b : Bool) (d : Dev) : (msixSetPending v b d).link = d.link := by simp [msixSetPending]
@[simp] theorem msixSetPending_evt (v : Nat) (b : Bool) (d : Dev) : (msixSetPending v b d).evt = d.evt := by simp [msixSetPending]
@[simp] theorem msixSetPending_fpa (v : Nat) (b : Bool) (d : Dev) : (msixSetPending v b d).fpa = d.fpa := by simp [msixSetPending]
@[simp] theorem msixSetPending_en (v : Nat) (b : Bool) (d : Dev) : (msixSetPending v b d).en = d.en := by simp [msixSetPending]
@[simp] theorem msixSetPending_cal (v : Nat) (b : Bool) (d : Dev) : (msixSetPending v b d).cal = d.cal := by simp [msixSetPending]
@[simp] theorem msixSetPending_take (v : Nat) (b : Bool) (d : Dev) : (msixSetPending v b d).take = d.take := by simp [msixSetPending]
@[simp] theorem msixSetPending_nvc (v : Nat) (b : Bool) (d : Dev) : (msixSetPending v b d).nvc = d.nvc := by simp [msixSetPending]
@[simp] theorem msixSetPending_rings (v : Nat) (b : Bool) (d : Dev) : (msixSetPending v b d).rings = d.rings := by simp [msixSetPending]
@[simp] theorem msixSetPending_cw (v : Nat) (b : Bool) (d : Dev) : (msixSetPending v b d).cw = d.cw := by simp [msixSetPending]
@[simp] theorem msixSetPending_herd (v : Nat) (b : Bool) (d : Dev) : (msixSetPending v b d).herd = d.herd := by simp [msixSetPending]
@[simp] theorem msixSetPending_xh (v : Nat) (b : Bool) (d : Dev) : (msixSetPending v b d).xh = d.xh := by simp [msixSetPending]
@[simp] theorem msixSetPending_fl (v : Nat) (b : Bool) (d : Dev) : (msixSetPending v b d).fl = d.fl := by simp [msixSetPending]
@[simp] theorem msixSetPending_emt (v : Nat) (b : Bool) (d : Dev) : (msixSetPending v b d).emt = d.emt := by simp [msixSetPending]
@[simp] theorem msixSetPending_gaf (v : Nat) (b : Bool) (d : Dev) : (msixSetPending v b d).gaf = d.gaf := by simp [msixSetPending]
@[simp] theorem msixSetPending_fsh (v : Nat) (b : Bool) (d : Dev) : (msixSetPending v b d).fsh = d.fsh := by simp [msixSetPending]
@[simp] theorem msixSetPending_bus (v : Nat) (b : Bool) (d : Dev) : (msixSetPending v b d).bus = d.bus := by simp [msixSetPending]
@[simp] theorem msixSetPending_mgp (v : Nat) (b : Bool) (d : Dev) : (msixSetPending v b d).mgp = d.mgp := by simp [msixSetPending]
@[simp] theorem msixSetPending_waits (v : Nat) (b : Bool) (d : Dev) : (msixSetPending v b d).waits = d.waits := by simp [msixSetPending]
@[simp] theorem msixSetPending_readData (v : Nat) (b : Bool) (d : Dev) : (msixSetPending v b d).readData = d.readData := by simp [msixSetPending]
@[simp] theorem msixSetPending_out (v : Nat) (b : Bool) (d : Dev) : (msixSetPending v b d).out = d.out := by simp [msixSetPending]
@[simp] theorem msixSetPending_free (v : Nat) (b : Bool) (d : Dev) : (msixSetPending v b d).free = d.free := by simp [msixSetPending]

@[simp] theorem msixRequest_pw (v : Nat) (d : Dev) : (msixRequest v d).pw = d.pw := by
  unfold msixRequest; split
  · rfl
  · split <;> simp
@[simp] theorem msixRequest_sl (v : Nat) (d : Dev) : (msixRequest v d).sl = d.sl := by
  unfold msixRequest; split
  · rfl
  · split <;> simp
@[simp] theorem msixRequest_link (v : Nat) (d : Dev) : (msixRequest v d).link = d.link := by
  unfold msixRequest; split
  · rfl
  · split <;> simp
@[simp] theorem msixRequest_evt (v : Nat) (d : Dev) : (msixRequest v d).evt = d.evt := by
  unfold msixRequest; split
  · rfl
  · split <;> simp
@[simp] theorem msixRequest_fpa (v : Nat) (d : Dev) : (msixRequest v d).fpa = d.fpa := by
  unfold msixRequest; split
  · rfl
  · split <;> simp
@[simp] theorem msixRequest_en (v : Nat) (d : Dev) : (msixRequest v d).en = d.en := by
  unfold msixRequest; split
  · rfl
  · split <;> simp
@[simp] theorem msixRequest_cal (v : Nat) (d : Dev) : (msixRequest v d).cal = d.cal := by
  unfold msixRequest; split
  · rfl
  · split <;> simp
@[simp] theorem msixRequest_take (v : Nat) (d : Dev) : (msixRequest v d).take = d.take := by
  unfold msixRequest; split
  · rfl
  · split <;> simp
@[simp] theorem msixRequest_nvc (v : Nat) (d : Dev) : (msixRequest v d).nvc = d.nvc := by
  unfold msixRequest; split
  · rfl
  · split <;> simp
@[simp] theorem msixRequest_rings (v : Nat) (d : Dev) : (msixRequest v d).rings = d.rings := by
  unfold msixRequest; split
  · rfl
  · split <;> simp
@[simp] theorem msixRequest_cw (v : Nat) (d : Dev) : (msixRequest v d).cw = d.cw := by
  unfold msixRequest; split
  · rfl
  · split <;> simp
@[simp] theorem msixRequest_herd (v : Nat) (d : Dev) : (msixRequest v d).herd = d.herd := by
  unfold msixRequest; split
  · rfl
  · split <;> simp
@[simp] theorem msixRequest_xh (v : Nat) (d : Dev) : (msixRequest v d).xh = d.xh := by
  unfold msixRequest; split
  · rfl
  · split <;> simp
@[simp] theorem msixRequest_fl (v : Nat) (d : Dev) : (msixRequest v d).fl = d.fl := by
  unfold msixRequest; split
  · rfl
  · split <;> simp
@[simp] theorem msixRequest_emt (v : Nat) (d : Dev) : (msixRequest v d).emt = d.emt := by
  unfold msixRequest; split
  · rfl
  · split <;> simp
@[simp] theorem msixRequest_gaf (v : Nat) (d : Dev) : (msixRequest v d).gaf = d.gaf := by
  unfold msixRequest; split
  · rfl
  · split <;> simp
@[simp] theorem msixRequest_fsh (v : Nat) (d : Dev) : (msixRequest v d).fsh = d.fsh := by
  unfold msixRequest; split
  · rfl
  · split <;> simp
@[simp] theorem msixRequest_bus (v : Nat) (d : Dev) : (msixRequest v d).bus = d.bus := by
  unfold msixRequest; split
  · rfl
  · split <;> simp
@[simp] theorem msixRequest_mgp (v : Nat) (d : Dev) : (msixRequest v d).mgp = d.mgp := by
  unfold msixRequest; split
  · rfl
  · split <;> simp
@[simp] theorem msixRequest_waits (v : Nat) (d : Dev) : (msixRequest v d).waits = d.waits := by
  unfold msixRequest; split
  · rfl
  · split <;> simp
@[simp] theorem msixRequest_readData (v : Nat) (d : Dev) : (msixRequest v d).readData = d.readData := by
  unfold msixRequest; split
  · rfl
  · split <;> simp
@[simp] theorem msixRequest_free (v : Nat) (d : Dev) : (msixRequest v d).free = d.free := by
  unfold msixRequest; split
  · rfl
  · split <;> simp

@[simp] theorem raise_pw (s : Nat) (d : Dev) : (raise s d).pw = d.pw := by
  unfold raise; split
  · rfl
  · split
    · rfl
    · dsimp only; split <;> simp
@[simp] theorem raise_sl (s : Nat) (d : Dev) : (raise s d).sl = d.sl := by
  unfold raise; split
  · rfl
  · split
    · rfl
    · dsimp only; split <;> simp
@[simp] theorem raise_link (s : Nat) (d : Dev) : (raise s d).link = d.link := by
  unfold raise; split
  · rfl
  · split
    · rfl
    · dsimp only; split <;> simp
@[simp] theorem raise_evt (s : Nat) (d : Dev) : (raise s d).evt = d.evt := by
  unfold raise; split
  · rfl
  · split
    · rfl
    · dsimp only; split <;> simp
@[simp] theorem raise_fpa (s : Nat) (d : Dev) : (raise s d).fpa = d.fpa := by
  unfold raise; split
  · rfl
  · split
    · rfl
    · dsimp only; split <;> simp
@[simp] theorem raise_en (s : Nat) (d : Dev) : (raise s d).en = d.en := by
  unfold raise; split
  · rfl
  · split
    · rfl
    · dsimp only; split <;> simp
@[simp] theorem raise_cal (s : Nat) (d : Dev) : (raise s d).cal = d.cal := by
  unfold raise; split
  · rfl
  · split
    · rfl
    · dsimp only; split <;> simp
@[simp] theorem raise_take (s : Nat) (d : Dev) : (raise s d).take = d.take := by
  unfold raise; split
  · rfl
  · split
    · rfl
    · dsimp only; split <;> simp
@[simp] theorem raise_nvc (s : Nat) (d : Dev) : (raise s d).nvc = d.nvc := by
  unfold raise; split
  · rfl
  · split
    · rfl
    · dsimp only; split <;> simp
@[simp] theorem raise_rings (s : Nat) (d : Dev) : (raise s d).rings = d.rings := by
  unfold raise; split
  · rfl
  · split
    · rfl
    · dsimp only; split <;> simp
@[simp] theorem raise_cw (s : Nat) (d : Dev) : (raise s d).cw = d.cw := by
  unfold raise; split
  · rfl
  · split
    · rfl
    · dsimp only; split <;> simp
@[simp] theorem raise_herd (s : Nat) (d : Dev) : (raise s d).herd = d.herd := by
  unfold raise; split
  · rfl
  · split
    · rfl
    · dsimp only; split <;> simp
@[simp] theorem raise_xh (s : Nat) (d : Dev) : (raise s d).xh = d.xh := by
  unfold raise; split
  · rfl
  · split
    · rfl
    · dsimp only; split <;> simp
@[simp] theorem raise_fl (s : Nat) (d : Dev) : (raise s d).fl = d.fl := by
  unfold raise; split
  · rfl
  · split
    · rfl
    · dsimp only; split <;> simp
@[simp] theorem raise_emt (s : Nat) (d : Dev) : (raise s d).emt = d.emt := by
  unfold raise; split
  · rfl
  · split
    · rfl
    · dsimp only; split <;> simp
@[simp] theorem raise_gaf (s : Nat) (d : Dev) : (raise s d).gaf = d.gaf := by
  unfold raise; split
  · rfl
  · split
    · rfl
    · dsimp only; split <;> simp
@[simp] theorem raise_fsh (s : Nat) (d : Dev) : (raise s d).fsh = d.fsh := by
  unfold raise; split
  · rfl
  · split
    · rfl
    · dsimp only; split <;> simp
@[simp] theorem raise_bus (s : Nat) (d : Dev) : (raise s d).bus = d.bus := by
  unfold raise; split
  · rfl
  · split
    · rfl
    · dsimp only; split <;> simp
@[simp] theorem raise_mgp (s : Nat) (d : Dev) : (raise s d).mgp = d.mgp := by
  unfold raise; split
  · rfl
  · split
    · rfl
    · dsimp only; split <;> simp
@[simp] theorem raise_waits (s : Nat) (d : Dev) : (raise s d).waits = d.waits := by
  unfold raise; split
  · rfl
  · split
    · rfl
    · dsimp only; split <;> simp
@[simp] theorem raise_readData (s : Nat) (d : Dev) : (raise s d).readData = d.readData := by
  unfold raise; split
  · rfl
  · split
    · rfl
    · dsimp only; split <;> simp
@[simp] theorem raise_free (s : Nat) (d : Dev) : (raise s d).free = d.free := by
  unfold raise; split
  · rfl
  · split
    · rfl
    · dsimp only; split <;> simp

@[simp] theorem daily_pw (k s : Nat) (p : List Nat) (d : Dev) : (daily k s p d).pw = d.pw := by
  unfold daily; split
  · rfl
  · dsimp only; split
    · simp
    · unfold whenD; split <;> simp
@[simp] theorem daily_sl (k s : Nat) (p : List Nat) (d : Dev) : (daily k s p d).sl = d.sl := by
  unfold daily; split
  · rfl
  · dsimp only; split
    · simp
    · unfold whenD; split <;> simp
@[simp] theorem daily_link (k s : Nat) (p : List Nat) (d : Dev) : (daily k s p d).link = d.link := by
  unfold daily; split
  · rfl
  · dsimp only; split
    · simp
    · unfold whenD; split <;> simp
@[simp] theorem daily_fpa (k s : Nat) (p : List Nat) (d : Dev) : (daily k s p d).fpa = d.fpa := by
  unfold daily; split
  · rfl
  · dsimp only; split
    · simp
    · unfold whenD; split <;> simp
@[simp] theorem daily_en (k s : Nat) (p : List Nat) (d : Dev) : (daily k s p d).en = d.en := by
  unfold daily; split
  · rfl
  · dsimp only; split
    · simp
    · unfold whenD; split <;> simp
@[simp] theorem daily_cal (k s : Nat) (p : List Nat) (d : Dev) : (daily k s p d).cal = d.cal := by
  unfold daily; split
  · rfl
  · dsimp only; split
    · simp
    · unfold whenD; split <;> simp
@[simp] theorem daily_take (k s : Nat) (p : List Nat) (d : Dev) : (daily k s p d).take = d.take := by
  unfold daily; split
  · rfl
  · dsimp only; split
    · simp
    · unfold whenD; split <;> simp
@[simp] theorem daily_nvc (k s : Nat) (p : List Nat) (d : Dev) : (daily k s p d).nvc = d.nvc := by
  unfold daily; split
  · rfl
  · dsimp only; split
    · simp
    · unfold whenD; split <;> simp
@[simp] theorem daily_rings (k s : Nat) (p : List Nat) (d : Dev) : (daily k s p d).rings = d.rings := by
  unfold daily; split
  · rfl
  · dsimp only; split
    · simp
    · unfold whenD; split <;> simp
@[simp] theorem daily_cw (k s : Nat) (p : List Nat) (d : Dev) : (daily k s p d).cw = d.cw := by
  unfold daily; split
  · rfl
  · dsimp only; split
    · simp
    · unfold whenD; split <;> simp
@[simp] theorem daily_herd (k s : Nat) (p : List Nat) (d : Dev) : (daily k s p d).herd = d.herd := by
  unfold daily; split
  · rfl
  · dsimp only; split
    · simp
    · unfold whenD; split <;> simp
@[simp] theorem daily_xh (k s : Nat) (p : List Nat) (d : Dev) : (daily k s p d).xh = d.xh := by
  unfold daily; split
  · rfl
  · dsimp only; split
    · simp
    · unfold whenD; split <;> simp
@[simp] theorem daily_fl (k s : Nat) (p : List Nat) (d : Dev) : (daily k s p d).fl = d.fl := by
  unfold daily; split
  · rfl
  · dsimp only; split
    · simp
    · unfold whenD; split <;> simp
@[simp] theorem daily_emt (k s : Nat) (p : List Nat) (d : Dev) : (daily k s p d).emt = d.emt := by
  unfold daily; split
  · rfl
  · dsimp only; split
    · simp
    · unfold whenD; split <;> simp
@[simp] theorem daily_gaf (k s : Nat) (p : List Nat) (d : Dev) : (daily k s p d).gaf = d.gaf := by
  unfold daily; split
  · rfl
  · dsimp only; split
    · simp
    · unfold whenD; split <;> simp
@[simp] theorem daily_fsh (k s : Nat) (p : List Nat) (d : Dev) : (daily k s p d).fsh = d.fsh := by
  unfold daily; split
  · rfl
  · dsimp only; split
    · simp
    · unfold whenD; split <;> simp
@[simp] theorem daily_bus (k s : Nat) (p : List Nat) (d : Dev) : (daily k s p d).bus = d.bus := by
  unfold daily; split
  · rfl
  · dsimp only; split
    · simp
    · unfold whenD; split <;> simp
@[simp] theorem daily_mgp (k s : Nat) (p : List Nat) (d : Dev) : (daily k s p d).mgp = d.mgp := by
  unfold daily; split
  · rfl
  · dsimp only; split
    · simp
    · unfold whenD; split <;> simp
@[simp] theorem daily_waits (k s : Nat) (p : List Nat) (d : Dev) : (daily k s p d).waits = d.waits := by
  unfold daily; split
  · rfl
  · dsimp only; split
    · simp
    · unfold whenD; split <;> simp
@[simp] theorem daily_readData (k s : Nat) (p : List Nat) (d : Dev) : (daily k s p d).readData = d.readData := by
  unfold daily; split
  · rfl
  · dsimp only; split
    · simp
    · unfold whenD; split <;> simp
@[simp] theorem daily_free (k s : Nat) (p : List Nat) (d : Dev) : (daily k s p d).free = d.free := by
  unfold daily; split
  · rfl
  · dsimp only; split
    · simp
    · unfold whenD; split <;> simp

@[simp] theorem note_pw (s : Nat) (p : List Nat) (d : Dev) : (note s p d).pw = d.pw := by simp [note]
@[simp] theorem note_sl (s : Nat) (p : List Nat) (d : Dev) : (note s p d).sl = d.sl := by simp [note]
@[simp] theorem note_link (s : Nat) (p : List Nat) (d : Dev) : (note s p d).link = d.link := by simp [note]
@[simp] theorem note_fpa (s : Nat) (p : List Nat) (d : Dev) : (note s p d).fpa = d.fpa := by simp [note]
@[simp] theorem note_en (s : Nat) (p : List Nat) (d : Dev) : (note s p d).en = d.en := by simp [note]
@[simp] theorem note_cal (s : Nat) (p : List Nat) (d : Dev) : (note s p d).cal = d.cal := by simp [note]
@[simp] theorem note_take (s : Nat) (p : List Nat) (d : Dev) : (note s p d).take = d.take := by simp [note]
@[simp] theorem note_nvc (s : Nat) (p : List Nat) (d : Dev) : (note s p d).nvc = d.nvc := by simp [note]
@[simp] theorem note_rings (s : Nat) (p : List Nat) (d : Dev) : (note s p d).rings = d.rings := by simp [note]
@[simp] theorem note_cw (s : Nat) (p : List Nat) (d : Dev) : (note s p d).cw = d.cw := by simp [note]
@[simp] theorem note_herd (s : Nat) (p : List Nat) (d : Dev) : (note s p d).herd = d.herd := by simp [note]
@[simp] theorem note_xh (s : Nat) (p : List Nat) (d : Dev) : (note s p d).xh = d.xh := by simp [note]
@[simp] theorem note_fl (s : Nat) (p : List Nat) (d : Dev) : (note s p d).fl = d.fl := by simp [note]
@[simp] theorem note_emt (s : Nat) (p : List Nat) (d : Dev) : (note s p d).emt = d.emt := by simp [note]
@[simp] theorem note_gaf (s : Nat) (p : List Nat) (d : Dev) : (note s p d).gaf = d.gaf := by simp [note]
@[simp] theorem note_fsh (s : Nat) (p : List Nat) (d : Dev) : (note s p d).fsh = d.fsh := by simp [note]
@[simp] theorem note_bus (s : Nat) (p : List Nat) (d : Dev) : (note s p d).bus = d.bus := by simp [note]
@[simp] theorem note_mgp (s : Nat) (p : List Nat) (d : Dev) : (note s p d).mgp = d.mgp := by simp [note]
@[simp] theorem note_waits (s : Nat) (p : List Nat) (d : Dev) : (note s p d).waits = d.waits := by simp [note]
@[simp] theorem note_readData (s : Nat) (p : List Nat) (d : Dev) : (note s p d).readData = d.readData := by simp [note]
@[simp] theorem note_free (s : Nat) (p : List Nat) (d : Dev) : (note s p d).free = d.free := by simp [note]

@[simp] theorem nvsNext_main (d : Dev) : (nvsNext d).main = d.main := by unfold nvsNext; split <;> rfl
@[simp] theorem nvsNext_aux (d : Dev) : (nvsNext d).aux = d.aux := by unfold nvsNext; split <;> rfl
@[simp] theorem nvsNext_pw (d : Dev) : (nvsNext d).pw = d.pw := by unfold nvsNext; split <;> rfl
@[simp] theorem nvsNext_sl (d : Dev) : (nvsNext d).sl = d.sl := by unfold nvsNext; split <;> rfl
@[simp] theorem nvsNext_link (d : Dev) : (nvsNext d).link = d.link := by unfold nvsNext; split <;> rfl
@[simp] theorem nvsNext_evt (d : Dev) : (nvsNext d).evt = d.evt := by unfold nvsNext; split <;> rfl
@[simp] theorem nvsNext_fpa (d : Dev) : (nvsNext d).fpa = d.fpa := by unfold nvsNext; split <;> rfl
@[simp] theorem nvsNext_en (d : Dev) : (nvsNext d).en = d.en := by unfold nvsNext; split <;> rfl
@[simp] theorem nvsNext_cal (d : Dev) : (nvsNext d).cal = d.cal := by unfold nvsNext; split <;> rfl
@[simp] theorem nvsNext_take (d : Dev) : (nvsNext d).take = d.take := by unfold nvsNext; split <;> rfl
@[simp] theorem nvsNext_rings (d : Dev) : (nvsNext d).rings = d.rings := by unfold nvsNext; split <;> rfl
@[simp] theorem nvsNext_cw (d : Dev) : (nvsNext d).cw = d.cw := by unfold nvsNext; split <;> rfl
@[simp] theorem nvsNext_herd (d : Dev) : (nvsNext d).herd = d.herd := by unfold nvsNext; split <;> rfl
@[simp] theorem nvsNext_xh (d : Dev) : (nvsNext d).xh = d.xh := by unfold nvsNext; split <;> rfl
@[simp] theorem nvsNext_fl (d : Dev) : (nvsNext d).fl = d.fl := by unfold nvsNext; split <;> rfl
@[simp] theorem nvsNext_emt (d : Dev) : (nvsNext d).emt = d.emt := by unfold nvsNext; split <;> rfl
@[simp] theorem nvsNext_gaf (d : Dev) : (nvsNext d).gaf = d.gaf := by unfold nvsNext; split <;> rfl
@[simp] theorem nvsNext_fsh (d : Dev) : (nvsNext d).fsh = d.fsh := by unfold nvsNext; split <;> rfl
@[simp] theorem nvsNext_bus (d : Dev) : (nvsNext d).bus = d.bus := by unfold nvsNext; split <;> rfl
@[simp] theorem nvsNext_mgp (d : Dev) : (nvsNext d).mgp = d.mgp := by unfold nvsNext; split <;> rfl
@[simp] theorem nvsNext_waits (d : Dev) : (nvsNext d).waits = d.waits := by unfold nvsNext; split <;> rfl
@[simp] theorem nvsNext_readData (d : Dev) : (nvsNext d).readData = d.readData := by unfold nvsNext; split <;> rfl
@[simp] theorem nvsNext_out (d : Dev) : (nvsNext d).out = d.out := by unfold nvsNext; split <;> rfl
@[simp] theorem nvsNext_free (d : Dev) : (nvsNext d).free = d.free := by unfold nvsNext; split <;> rfl

@[simp] theorem countUp_main (k : Nat) (d : Dev) : (countUp k d).main = d.main := by simp [countUp]
@[simp] theorem countUp_aux (k : Nat) (d : Dev) : (countUp k d).aux = d.aux := by simp [countUp]
@[simp] theorem countUp_pw (k : Nat) (d : Dev) : (countUp k d).pw = d.pw := by simp [countUp]
@[simp] theorem countUp_sl (k : Nat) (d : Dev) : (countUp k d).sl = d.sl := by simp [countUp]
@[simp] theorem countUp_link (k : Nat) (d : Dev) : (countUp k d).link = d.link := by simp [countUp]
@[simp] theorem countUp_evt (k : Nat) (d : Dev) : (countUp k d).evt = d.evt := by simp [countUp]
@[simp] theorem countUp_fpa (k : Nat) (d : Dev) : (countUp k d).fpa = d.fpa := by simp [countUp]
@[simp] theorem countUp_en (k : Nat) (d : Dev) : (countUp k d).en = d.en := by simp [countUp]
@[simp] theorem countUp_cal (k : Nat) (d : Dev) : (countUp k d).cal = d.cal := by simp [countUp]
@[simp] theorem countUp_take (k : Nat) (d : Dev) : (countUp k d).take = d.take := by simp [countUp]
@[simp] theorem countUp_rings (k : Nat) (d : Dev) : (countUp k d).rings = d.rings := by simp [countUp]
@[simp] theorem countUp_cw (k : Nat) (d : Dev) : (countUp k d).cw = d.cw := by simp [countUp]
@[simp] theorem countUp_herd (k : Nat) (d : Dev) : (countUp k d).herd = d.herd := by simp [countUp]
@[simp] theorem countUp_xh (k : Nat) (d : Dev) : (countUp k d).xh = d.xh := by simp [countUp]
@[simp] theorem countUp_fl (k : Nat) (d : Dev) : (countUp k d).fl = d.fl := by simp [countUp]
@[simp] theorem countUp_emt (k : Nat) (d : Dev) : (countUp k d).emt = d.emt := by simp [countUp]
@[simp] theorem countUp_gaf (k : Nat) (d : Dev) : (countUp k d).gaf = d.gaf := by simp [countUp]
@[simp] theorem countUp_fsh (k : Nat) (d : Dev) : (countUp k d).fsh = d.fsh := by simp [countUp]
@[simp] theorem countUp_bus (k : Nat) (d : Dev) : (countUp k d).bus = d.bus := by simp [countUp]
@[simp] theorem countUp_mgp (k : Nat) (d : Dev) : (countUp k d).mgp = d.mgp := by simp [countUp]
@[simp] theorem countUp_waits (k : Nat) (d : Dev) : (countUp k d).waits = d.waits := by simp [countUp]
@[simp] theorem countUp_readData (k : Nat) (d : Dev) : (countUp k d).readData = d.readData := by simp [countUp]
@[simp] theorem countUp_out (k : Nat) (d : Dev) : (countUp k d).out = d.out := by simp [countUp]
@[simp] theorem countUp_free (k : Nat) (d : Dev) : (countUp k d).free = d.free := by simp [countUp]

end Sys2Proof.Machine
end

