-- ==== Sys2Proof/Laws/Engine.lean ====
section
/-! SUPPORT. What an engine operation changes, and what one column instruction does: the lemmas that proofs about column
programs cite. -/

namespace Sys2Proof.Machine

theorem engOf_modEng_same (e : Nat) (f : Eng → Eng) (d : Dev) : engOf e (modEng e f d) = f (engOf e d) := by
  simp [engOf, modEng, mmod, mget_mset_same]

theorem engOf_modEng_ne {n e : Nat} (h : n ≠ e) (f : Eng → Eng) (d : Dev) : engOf n (modEng e f d) = engOf n d := by
  simp [engOf, modEng, mmod, mget_mset_ne engD _ _ (Ne.symm h)]

/-- An engine operation leaves everything but the engines alone. -/
theorem modEng_frame (e : Nat) (f : Eng → Eng) (d : Dev) :
    modEng e f d = { d with en := { d.en with engs := (modEng e f d).en.engs } } := rfl

/-- A legal word that is not skipped, and whose effect is `h`, leaves its engine in `h` at the next word. -/
theorem insn_ok {op : Nat} {e : Fin 1024} {f : BitVec 26} {s : State} {h : Eng} (hr : wordRuns op e f s)
    (ho : opEffect (liveCx e.val s.dev) (insnWord op f) (engOf e.val s.dev) = .ok h) :
    insn op e f s = .next { s with dev := modEng e.val (fun _ =>
      { nextPc h.loops h with touched := true, wait := 0 }) s.dev } := by
  obtain ⟨h1, h2, h3, h4⟩ := hr
  simp [insn, runInsn, h1, runWord, h2, h3, h4, ho, applyEff]

/-- Such a change concerns engine `e` alone. -/
theorem onlyEngine_modEng (e : Nat) (f : Eng → Eng) (s : State) :
    onlyEngine e s { s with dev := modEng e f s.dev } :=
  ⟨rfl, fun _ hn => engOf_modEng_ne hn f s.dev⟩

/-- The opcode of an instruction word. -/
theorem insnWord_op {op : Nat} (h : op < 64) (f : BitVec 26) : fb (insnWord op f) 31 26 = op := by
  have := f.isLt
  simp only [fb, getBits, bitsN, insnWord, BitVec.toNat_ofNat, Nat.shiftRight_eq_div_pow]
  omega

/-- Outside a loop the next word follows. -/
theorem nextPc_nil (g : Eng) : nextPc [] g = { g with pc := g.pc + 1, loops := [] } := rfl

/-- Only the place in the program changes from word to word. -/
theorem nextPc_frame (l : List LoopFr) (g : Eng) :
    nextPc l g = { g with pc := (nextPc l g).pc, skipTo := (nextPc l g).skipTo, loops := (nextPc l g).loops } := by
  induction l with
  | nil => rfl
  | cons x r ih =>
    unfold nextPc
    split
    · split
      · rfl
      · exact ih
    · rfl

theorem vreg_setV_same (r l : Nat) (x : BitVec 32) (g : Eng) : vreg (setV r l x g) r l = x := by
  simp [vreg, setV]

theorem vreg_setV_ne {r l r' l' : Nat} (x : BitVec 32) (g : Eng) (h : 4 * r + l ≠ 4 * r' + l') :
    vreg (setV r l x g) r' l' = vreg g r' l' := by
  simp [vreg, setV, mget_mset_ne _ _ _ h]

/-- A lane write changes only the vector registers. -/
theorem laneWrite_frame (w : BitVec 32) (g : Eng) (vd : Nat) (f : Nat → BitVec 32) :
    laneWrite w g vd f = { g with v := (laneWrite w g vd f).v } := by
  simp only [laneWrite, List.range, List.range.loop, List.foldl]
  repeat' split
  all_goals rfl

/-- A lane write gives the guarded lanes of its register their values and keeps every other lane. -/
theorem vreg_laneWrite (w : BitVec 32) (g : Eng) (vd : Nat) (f : Nat → BitVec 32) (r l : Nat) (hl : l < 4) :
    vreg (laneWrite w g vd f) r l = if r = vd ∧ guarded w g l = true then f l else vreg g r l := by
  have key : ∀ k (h : Eng), k < 4 → vreg (if guarded w g k = true then setV vd k (f k) h else h) r l =
      if r = vd ∧ l = k ∧ guarded w g k = true then f k else vreg h r l := by
    intro k h hk
    by_cases hg : guarded w g k = true
    · by_cases hr : r = vd ∧ l = k
      · obtain ⟨rfl, rfl⟩ := hr
        simp [hg, vreg_setV_same]
      · have hne : 4 * vd + k ≠ 4 * r + l := by omega
        rw [if_pos hg, vreg_setV_ne _ _ hne, if_neg (fun h => hr ⟨h.1, h.2.1⟩)]
    · simp [hg]
  simp only [laneWrite, List.range, List.range.loop, List.foldl]
  rw [key 3 _ (by omega), key 2 _ (by omega), key 1 _ (by omega), key 0 _ (by omega)]
  have h4 : l = 0 ∨ l = 1 ∨ l = 2 ∨ l = 3 := by omega
  by_cases hr : r = vd
  · rcases h4 with rfl | rfl | rfl | rfl <;> simp [hr]
  · simp [hr]

/-- Where `nextPc` goes. -/
theorem goesOn_nextPc (g : Eng) (l : List LoopFr) (h : g.loops = l) : goesOn g (nextPc l g) := by
  subst h
  unfold goesOn
  generalize g.loops = l
  induction l with
  | nil => exact ⟨fun f r h => by simp at h, fun _ => ⟨rfl, rfl, rfl⟩⟩
  | cons x r ih =>
    unfold nextPc
    by_cases h1 : g.pc = x.last
    · by_cases h2 : 1 < x.left
      · have h3 : (decide (g.pc = x.last) && decide (x.left ≤ 1)) = false := by simp; omega
        rw [List.dropWhile_cons, h3, if_pos h1, if_pos h2]
        refine ⟨fun f r' h _ => ?_, fun h => absurd h1 (h x r rfl)⟩
        obtain ⟨rfl, rfl⟩ := List.cons.inj h
        exact ⟨rfl, rfl, rfl⟩
      · have h3 : (decide (g.pc = x.last) && decide (x.left ≤ 1)) = true := by simp; omega
        rw [List.dropWhile_cons, h3, if_pos h1, if_neg h2]
        exact ih
    · have h3 : (decide (g.pc = x.last) && decide (x.left ≤ 1)) = false := by simp [h1]
      rw [List.dropWhile_cons, h3, if_neg h1]
      refine ⟨fun f r' h h' => ?_, fun _ => ⟨rfl, rfl, rfl⟩⟩
      obtain ⟨rfl, rfl⟩ := List.cons.inj h
      exact absurd h' h1

/-- The place in the program that follows a word, as three values. -/
theorem nextPc_cases (g : Eng) :
    ∃ a b c, nextPc g.loops g = { g with pc := a, skipTo := b, loops := c } ∧
      goesOn g { g with pc := a, skipTo := b, loops := c } := by
  refine ⟨_, _, _, nextPc_frame g.loops g, ?_⟩
  rw [← nextPc_frame]
  exact goesOn_nextPc g g.loops rfl

/-- A legal word that a SKIP or a loop's count skips does nothing but go on. -/
theorem insn_skipped {op : Nat} {e : Fin 1024} {f : BitVec 26} {s : State} (h1 : canRun e.val s.dev = true)
    (h2 : pastEnd (liveCx e.val s.dev) (engOf e.val s.dev) = false) (h3 : encLegal (insnWord op f) = true)
    (h4 : skipped (engOf e.val s.dev) = true) :
    insn op e f s = .next { s with dev := modEng e.val (fun _ =>
      { nextPc (engOf e.val s.dev).loops (engOf e.val s.dev) with touched := true, wait := 0 }) s.dev } := by
  simp [insn, runInsn, h1, runWord, h2, h3, h4, applyEff]

/-- A lane write of a legal word is its whole effect: the form of the vector instructions' results. -/
theorem insn_lanes {op : Nat} {e : Fin 1024} {f : BitVec 26} {s : State} {vd : Nat} {val : Nat → BitVec 32}
    (hr : wordRuns op e f s) (ho : opEffect (liveCx e.val s.dev) (insnWord op f) (engOf e.val s.dev) =
      .ok (laneWrite (insnWord op f) (engOf e.val s.dev) vd val)) :
    ∃ t, insn op e f s = .next t ∧ vectorResult (insnWord op f) vd e.val val s t := by
  refine ⟨_, insn_ok hr ho, onlyEngine_modEng _ _ _, ?_⟩
  dsimp only
  rw [engOf_modEng_same]
  have hv := vreg_laneWrite (insnWord op f) (engOf e.val s.dev) vd val
  obtain ⟨x, hx⟩ : ∃ x, laneWrite (insnWord op f) (engOf e.val s.dev) vd val = { engOf e.val s.dev with v := x } :=
    ⟨_, laneWrite_frame _ _ _ _⟩
  rw [hx] at hv ⊢
  obtain ⟨a, b, c, hn, h0⟩ := nextPc_cases { engOf e.val s.dev with v := x }
  dsimp only at hn ⊢
  rw [hn]
  refine ⟨⟨rfl, h0⟩, fun l hl => ?_, fun r l h1 hl => ?_⟩
  · exact (hv vd l hl).trans (by simp)
  · exact (hv r l hl).trans (by simp [h1])

/-- A write of one scalar register is a legal word's whole effect. -/
theorem insn_scalar {op : Nat} {e : Fin 1024} {f : BitVec 26} {s : State} {sd : Nat} {val : BitVec 32}
    (hr : wordRuns op e f s) (ho : opEffect (liveCx e.val s.dev) (insnWord op f) (engOf e.val s.dev) =
      .ok (setS sd val (engOf e.val s.dev))) :
    ∃ t, insn op e f s = .next t ∧ scalarResult sd e.val val s t := by
  refine ⟨_, insn_ok hr ho, onlyEngine_modEng _ _ _, ?_⟩
  dsimp only
  rw [engOf_modEng_same]
  obtain ⟨a, b, c, hn, h0⟩ := nextPc_cases (setS sd val (engOf e.val s.dev))
  rw [hn]
  refine ⟨rfl, h0, ?_, fun r hr => ?_⟩
  · simp [sreg, setS]
  · simp [sreg, setS, mget_mset_ne _ _ _ (Ne.symm hr)]

end Sys2Proof.Machine
end

