-- ==== Sys2Proof/Tests/Slice0.lean ====
section
/-! SUPPORT. Witnesses: for every statement with hypotheses, concrete states and operands that meet them, clause by clause;
ill-formed commands that the checks refuse; and a few single steps whose results the spec gives. -/

open Sys2Proof Sys2Proof.Machine

namespace Sys2Proof.Tests

set_option Elab.async false

/-- The reset machine after the changes of `l`, in order. -/
def dev (l : List (Dev → Dev)) : Dev := l.foldl (fun d f => f d) {}

/-- The reset state after the changes of `l`, in order. -/
def st (l : List (Dev → Dev)) : State := { dev := dev l }

/-- The module is in state `n`. -/
def mode (n : Nat) : Dev → Dev := setFld GLB_MSTATE.STATE n

/-- Engine `e` is RUNNING, as `g`. -/
def runs (e : Nat) (g : Eng) (d : Dev) : Dev := modEng e (fun _ => g) (setFld (ENG_STATE.STATE e) enRUN d)

/-- Engine 0 of a LIVE module has row slot 100 under way, as `g` says for the rest. -/
def rowOf (g : Eng) : State := st [mode stLIVE, runs 0 { g with row := some 100 }]

/-- The PCI Express path of requester 0. -/
def host : Path := .pcie 0

/-- The slate timer as `f` makes it. -/
def slate (f : Slate → Slate) (d : Dev) : Dev := { d with sl := f d.sl }

/-- The supplies and resets as `f` makes them. -/
def power (f : Power → Power) (d : Dev) : Dev := { d with pw := f d.pw }

/-- The slate timer runs, in its last slot. -/
def lastSlot (d : Dev) : Dev := slate (fun x => { x with running := true, slot := nslots d - 1 }) d

/-- A flash image's header at the start of slot A, that passes check 2 of R409. -/
def imageHeader : List (BitVec 8) :=
  leBytes 4 0x38384854 ++ leBytes 4 1 ++ leBytes 4 1 ++ leBytes 4 0x200000 ++ leBytes 4 7 ++ leBytes 4 0x100 ++ leBytes 4 0x1000 ++
  List.replicate 36 0 ++ List.replicate 128 0x55 ++ List.replicate 64 0

/-! ### Column instructions -/

theorem witness_VectorAndScalarInstructionsWriteOneRegister_two_operands :
    ∀ op ∈ [0x01, 0x02, 0x03, 0x04, 0x05, 0x06, 0x07, 0x0B, 0x0C], wordRuns op 0 0x3FC5C00#26 (rowOf {}) := by
  unfold wordRuns; decide +kernel

theorem witness_VectorAndScalarInstructionsWriteOneRegister_shifts :
    wordRuns 0x08 0 0x3C20#26 (rowOf {}) ∧ wordRuns 0x09 0 0x5F#26 (rowOf {}) ∧
    ∀ op ∈ [0x08, 0x09, 0x0A, 0x0D, 0x0E, 0x10, 0x11, 0x12, 0x13], wordRuns op 0 0#26 (rowOf {}) := by
  unfold wordRuns; decide +kernel

theorem witness_VectorAndScalarInstructionsWriteOneRegister_multiplications :
    ∀ op ∈ [0x18, 0x19, 0x1A], wordRuns op 0 0x6F#26 (rowOf {}) ∧ wordRuns op 0 0#26 (rowOf {}) := by
  unfold wordRuns; decide +kernel

theorem witness_VectorAndScalarInstructionsWriteOneRegister :
    ∀ op ∈ [0x0F, 0x15, 0x14, 0x20, 0x21, 0x22, 0x23, 0x24], wordRuns op 0 0#26 (rowOf {}) := by
  unfold wordRuns; decide +kernel

/-- Columns 0 to 7 of a LIVE module, served by engines 0 and 1 alone, with a row read in slot `k` at its deadline: a value, a
replaced pixel between two that serve it, one whose left neighbour serves and one whose right, a saturated one, and two with no
neighbour. -/
def rowRead (k : Nat) (f : Dev → Dev) : Dev :=
  dev [mode stLIVE, runs 0 { cards := cornerCards }, runs 1 {}, slate (fun x => { x with running := true, slot := k + 2 }),
    fun d => { d with en := { d.en with
      words := [8000, 0x8000 + 9000, 8500, 0x8000, 0x8000, 0x7FFF, 0x8000, 0x8000] ++ List.replicate 4088 8000
      per := { d.en.per with kinv := 19661, rg := List.replicate 192 16384, gates := 2 ^ 192 - 1, stEn := true } } }, f]
  where
  cornerCards : List (Nat × BitVec 64) :=
    (List.range 4).map (fun l => (slotActive 0 l, 0x4000000000000000#64)) ++
    (List.range 4).map (fun l => (slotActive 3071 l, 0x4000000000000000#64))

/-- A row slot that brings nothing of its own. -/
def quiet : SlotIn := ⟨⟨8000, []⟩, [], [], [], [], 0, []⟩

theorem witness_StandardProgramCorrectsARow_row : ∀ x ∈ [(8, 0), (3079, 3071)],
    let d := rowRead x.1 id
    rowDue (.active x.2) x.1 quiet d ∧ outMode d ≠ 2 ∧ d.en.pack.band.length < 63 ∧ engRuns 1 d = true ∧ engRuns 2 d = false := by
  unfold rowDue rowEnds; decide +kernel

theorem witness_StandardProgramCorrectsARow : ∀ x ∈ [(8, 0), (3079, 3071)],
    let d := rowRead x.1 id
    (¬ ruleReplaced x.2 0 8000 d ∧ (8000 : Nat).testBit 14 = false) ∧
    (¬ ruleReplaced x.2 5 0x7FFF d ∧ (0x7FFF : Nat).testBit 14 = true ∧ 0x7FFF % 16384 = 16383) ∧
    (ruleReplaced x.2 1 (0x8000 + 9000) d ∧ ruleUsable x.2 0 8000 d ∧ ruleUsable x.2 2 8500 d) := by
  unfold ruleUsable ruleReplaced; decide +kernel

theorem witness_StandardProgramCorrectsARow_one_sided : ∀ x ∈ [(8, 0), (3079, 3071)],
    let d := rowRead x.1 id
    (∀ c ∈ [3, 4, 7], ruleReplaced x.2 c 0x8000 d) ∧ ruleUsable x.2 2 8500 d ∧ ruleUsable x.2 5 0x7FFF d ∧
    ∀ y ∈ [(4, 0x8000), (3, 0x8000), (6, 0x8000), (8, 8000)], ¬ ruleUsable x.2 y.1 y.2 d := by
  unfold ruleUsable ruleReplaced; decide +kernel

theorem witness_StandardProgramCorrectsARow_table :
    radInForce (rowRead 8 id) = false ∧ radInForce (rowRead 8 (fun d => { d with en := { d.en with radTag := 1 } })) = true := by
  decide +kernel

/-- Column 2's counter stands one step up, and its engine has `n` requests. -/
def trimmed2 (n : Nat) (w : Nat) : Dev :=
  rowRead 8 (fun d => modEng 0 (fun g => { g with data := [(0x2000 + slotActive 0 2 / 4, BitVec.ofNat 8 (4 ^ (slotActive 0 2 % 4)))], reqs := n })
    { d with en := { d.en with words := [8000, 8000, w, 8000] ++ List.replicate 4092 8000 } })

theorem witness_SceneTrimAndDriftFollowTheRows_row :
    ∀ x ∈ [(0, 9000), (8, 9000), (0, 7000), (0, 8000)], rowDue (.active 0) 8 quiet (trimmed2 x.1 x.2) := by
  unfold rowDue rowEnds; decide +kernel

theorem witness_SceneTrimAndDriftFollowTheRows :
    (∀ x ∈ [(0, 9000), (8, 9000), (0, 7000), (0, 8000)], let d := trimmed2 x.1 x.2
     let c := 2
     let g := engOf 0 d
     let cd := card g (slotActive 0 2)
     takeWork d = false ∧ engRuns 0 d = true ∧ d.en.per.stEn = true ∧ cd.getLsbD 0 = false ∧
     ¬ ruleReplaced 0 c x.2 d ∧ ruleUsable 0 1 8000 d ∧ ruleUsable 0 3 8000 d ∧ d.en.per.gates.testBit 0 = true ∧
     (let q := ruleW2 8 0 2 x.2 d - (ruleW2 8 0 1 8000 d + ruleW2 8 0 3 8000 d).tdiv 2
      let dead : Int := fld PIPE_ST.DEAD d
      (x.2 = 9000 → dead < q) ∧ (x.2 = 7000 → q < -dead) ∧ (x.2 = 8000 → q = 0)) ∧ stCounter g (slotActive 0 2) = 1 ∧
     (x.1 = 0 → g.reqs + 4 ≤ fld PIPE_ST.MAX d ∧ g.ledger.length + 4 ≤ 1024 ∧
       sceneCount g + 4 ≤ fld CAL_LEDGER_CFG.SCENE_MAX d) ∧ (x.1 = 8 → fld PIPE_ST.MAX d ≤ g.reqs) ∧
     -128 ≤ (cardField cd 4 8).toInt + 1 ∧ (cardField cd 4 8).toInt + 1 ≤ 127) := by
  unfold ruleUsable ruleReplaced; decide +kernel

theorem witness_SceneTrimAndDriftFollowTheRows_blind : ∀ i ∈ [0, 7],
    (let d := rowRead i id
     rowDue (.top i) i quiet d ∧ engRuns 0 d = true ∧ (card (engOf 0 d) (slotBlind i 0)).getLsbD 3 = false ∧
     (8000 : Nat).testBit 15 = false ∧ slotBlind i 0 ∉ (engOf 0 d).badCards ∧ slotAnchor 0 ∉ (engOf 0 d).badCards ∧
     (0x8000 : Nat).testBit 15 = true) ∧
    rowDue (.bottom i) (3080 + i) quiet (rowRead (3080 + i) id) ∧
    (engOf 0 (rowRead 3087 (modEng 0 (fun g => { g with bcnt := [3, 3, 3, 3] })))).bcnt.getD 0 0 ≠ 0 := by
  unfold rowDue rowEnds; decide +kernel

/-- The last slot before blanking slot `k` of a LIVE slate. -/
def beforeBlank (k : Nat) (f : Dev → Dev) : Dev :=
  f (slate (fun x => { x with running := true, slot := blankSlot k {} - 1 }) (dev [mode stLIVE, runs 1023 {}]))

theorem witness_BlankingSlotsDoTheirWork_groups :
    let refs : List RefRes := [⟨33, false, false, 0, false⟩]
    (∀ act ∈ [0, 1, 2, 3], ∀ st0 ∈ [0, 1, 2, 3],
      let d := beforeBlank 8 (fun d => setFld (grpState 127) st0 (modGrp 127 (fun g => { g with act := act, fails := 2, inc := 63 }) d))
      blankStarts 8 { quiet with refs := refs } d ∧ fld (grpState 127) d = st0 ∧ (grp 127 d).act = act ∧ (grp 127 d).inc < 64 ∧
      256 * fldS (FPA_GCAL.AB_DELTA 127) d = 0 ∧ (grp 127 d).sumA = (grp 127 d).sumB) ∧
    (∃ y ∈ refs, y.col / 32 = 1 ∧ y.hi = false ∧ y.latched = false) ∧
    64 ≤ (grp 0 (modGrp 0 (fun g => { g with inc := 64 }) (dev []))).inc := by
  unfold blankStarts; decide +kernel

theorem witness_BlankingSlotsDoTheirWork :
    (∀ x ∈ [(2, [7#32, 8#32]), (3, [])],
      let d := beforeBlank 16 (fun d => setFlag ENGP_STATUS.PENDING true { d with en := { d.en with
        copyKind := x.1, copyW := x.2, copyH := BitVec.ofNat 32 (2 + 2 ^ 16 * 384) } })
      blankStarts 16 quiet d ∧ flag ENGP_STATUS.PENDING d = true ∧ inTake d = false ∧ takeComes d = false ∧
      d.en.copyKind = x.1 ∧ d.en.copyW = x.2 ∧ engState 1023 d ≠ enFAULT) ∧
    engState 5 (setFld (ENG_STATE.STATE 5) enFAULT (beforeBlank 16 id)) = enFAULT ∧
    (∀ b ∈ [false, true], let d := beforeBlank 24 (fun d => modEng 1023 (fun g => { g with ledger :=
          [⟨3, 1, 5, 1, true, b⟩, ⟨3, 3, 1, 0, true, b⟩] }) { d with cal := { d.cal with hostFrozen := b, sceneFrozen := b, rgFrozen := b } })
     blankStarts 24 quiet d ∧ d.cal.sceneFrozen = b ∧ d.cal.rgFrozen = b) := by
  unfold blankStarts; decide +kernel

theorem witness_LoadsBringMemoryToLanes :
    let g := engOf 0 (rowOf {}).dev
    (∀ op ∈ [0x28, 0x29, 0x2A, 0x30, 0x32, 0x2D], (loadWords op 0 0#26 (rowOf {}).dev).any g.badData.contains = false) ∧
    (∀ op ∈ [0x28, 0x29, 0x2A, 0x30, 0x2E, 0x32, 0x2D], wordRuns op 0 0#26 (rowOf {})) ∧
    (∀ l, l < 4 → dataOk (mAddr (insnWord 0x28 0#26) g (4 * l)) 4 = true) ∧
    (∀ l, l < 4 → dataOk (mAddr (insnWord 0x29 0#26) g (2 * l)) 2 = true) ∧
    (∀ l, l < 4 → dataOk (xAddr (insnWord 0x30 0#26) g l) 2 = true) ∧
    (∀ l, l < 4 → mAddr (insnWord 0x2E 0#26) g l < 12800 ∧ g.badCards.contains (mAddr (insnWord 0x2E 0#26) g l) = false) ∧
    dataOk (((sreg g 0).toNat + 2 * 0) % 2 ^ 32) 2 = true ∧ dataOk 0x3FFC 4 = true ∧ dataOk 0x3E00 4 = true ∧
    takeWork (rowOf {}).dev = false := by
  unfold wordRuns; decide +kernel

/-- In a take the work area ends below the histogram. -/
theorem witness_LoadsBringMemoryToLanes_take :
    let s := st [mode stLIVE, setFlag GLB_MSTATE.TAKE true, fun d => { d with take := { d.take with mode := 1 } },
      runs 0 { row := some 100, sc := [(0, 0x3C00#32)] }]
    takeWork s.dev = true ∧ ∀ op ∈ [0x28, 0x29, 0x2A, 0x30, 0x2D], wordRuns op 0 0#26 s := by
  unfold wordRuns; decide +kernel

theorem witness_StoresChangeOnlyTheirBytes :
    let s := rowOf { sc := [(1, 12356#32)] }
    let g := engOf 0 s.dev
    (∀ op ∈ [0x2B, 0x2C, 0x31], wordRuns op 0 0#26 s) ∧
    (∀ l, l < 4 → storeTrap g (mAddr (insnWord 0x2B 0#26) g (4 * l)) 4 = none) ∧
    (∀ l, l < 4 → storeTrap g (mAddr (insnWord 0x2C 0#26) g (2 * l)) 2 = none) ∧
    (∀ l, l < 4 → storeTrap g (xAddr (insnWord 0x31 0#26) g l) 2 = none) ∧
    wordRuns 0x2F 0 0x8000#26 s ∧
    ∀ l, l < 4 → 12356 ≤ mAddr (insnWord 0x2F 0x8000#26) g l ∧ mAddr (insnWord 0x2F 0x8000#26) g l < 12800 := by
  unfold wordRuns; decide +kernel

/-- Engine 5 of a LIVE module waits for its left (1) or right (2) neighbour, which has published `x` on channel 0. -/
def waiting (side n : Nat) (x : List (BitVec 32)) : State :=
  st [mode stLIVE, runs 5 { row := some 100, wait := side }, runs n { row := some 100, pubs := [(0, x)] }]

theorem witness_NeighbourExchange :
    (wordRuns 0x34 0 0#26 (rowOf {}) ∧ wordRuns 0x35 0 0#26 (rowOf {}) ∧ wordRuns 0x36 0 0#26 (rowOf {})) ∧
    (liveCx 0 (rowOf {}).dev).left 0 = .invalid ∧
    (liveCx 5 (waiting 0 4 [1, 2, 3, 4]).dev).left 0 = .lanes [1, 2, 3, 4] ∧
    (liveCx 5 (st [mode stLIVE, runs 5 { row := some 100 }, runs 6 { row := some 100, touched := true }]).dev).right 0 = .waits ∧
    (∀ x ∈ [(0x35, 1, 4), (0x36, 2, 6)],
      let s := waiting x.2.1 x.2.2 [1, 2, 3, 4]
      let g := engOf 5 s.dev
      let cx := liveCx 5 s.dev
      engRuns 5 s.dev = true ∧ g.row.isSome = true ∧ g.yielded = false ∧ g.wait = x.2.1 ∧ pastEnd cx g = false ∧
      encLegal (insnWord x.1 g.waitF) = true ∧ skipped g = false ∧
      (if x.2.1 = 1 then cx.left else cx.right) 0 = .lanes [1, 2, 3, 4]) ∧
    (engRuns 6 (waiting 1 4 []).dev = false ∧ engRuns 1022 (waiting 1 4 []).dev = false) ∧
    (engOf 4 (waiting 0 4 [1]).dev).pubs.any (fun x => x.1 == 0) = true ∧ columnInstruction (.nop 5 0) = true ∧
    engState 4 (waiting 0 4 [1]).dev ≠ enFAULT := by
  unfold wordRuns; decide +kernel

theorem witness_CellHistogramAndEmitInstructions :
    (∀ op ∈ [0x38, 0x3A, 0x39, 0x3B], wordRuns op 0 0#26 (rowOf {})) ∧ wordRuns 0x3B 0 1#26 (rowOf {}) := by
  unfold wordRuns; decide +kernel

/-- A word that a SKIP range covers, one in a loop's run beyond its count, and the last word of an inner loop's body where the
outer body ends too: with runs of each left, with none of the inner one's, and with none of either. -/
theorem witness_ControlInstructions_skipped :
    let g : Eng := { row := some 100, pc := 7 }
    ∀ x ∈ [{ g with skipTo := 8 }, { g with loops := [⟨3, 9, 2, 0⟩] }, { g with loops := [⟨3, 7, 2, 0⟩, ⟨2, 7, 2, 1⟩] },
        { g with loops := [⟨3, 7, 1, 0⟩, ⟨2, 7, 2, 1⟩] }, { g with loops := [⟨3, 7, 1, 0⟩, ⟨2, 7, 1, 1⟩] }],
      let s := rowOf x
      canRun 0 s.dev = true ∧ pastEnd (liveCx 0 s.dev) (engOf 0 s.dev) = false ∧ skipped (engOf 0 s.dev) = true := by
  decide +kernel

theorem witness_ControlInstructions :
    wordRuns 0x00 0 0#26 (rowOf {}) ∧ wordRuns 0x3C 0 0x410#26 (rowOf {}) ∧ wordRuns 0x3C 0 0x3FFFF0#26 (rowOf {}) ∧
    wordRuns 0x3D 0 0x1000#26 (rowOf {}) ∧ wordRuns 0x3D 0 0x81000#26 (rowOf {}) ∧ (engOf 0 (rowOf {}).dev).loops = [] ∧
    wordRuns 0x3E 0 0#26 (rowOf {}) ∧
    (liveCx 0 (st [mode stLIVE, runs 0 { row := some 100 }, fun d => { d with en := { d.en with ext := [0xFC000000#32] } }]).dev).hook = true ∧
    (liveCx 0 (rowOf {}).dev).extLen = 0 ∧
    wordRuns 0x3E 0 1#26 (st [mode stLIVE, runs 0 { row := some 100, inExt := true, pc := 1280, retPc := 7 },
      fun d => { d with en := { d.en with ext := [0xFC000000#32] } }]) := by
  unfold wordRuns; decide +kernel

/-- Engines `e` and `n` of a LIVE module have row slot 100 under way, with `a` and `b` reads of each neighbour made. -/
def pairOf (e n : Fin 1024) (a b wait : Nat) : State :=
  st [mode stLIVE, runs e.val { row := some 100, nlefts := a, nrights := a, wait := wait },
    runs n.val { row := some 100, nlefts := b, nrights := b }]

/-- Engine 1, commanded word by word, has completed its row with both streams emitted, or has not reached YIELD. -/
theorem witness_YieldCompletesTheRow_deadline : ∀ y : Bool, ∀ x ∈ [(8, 0), (3079, 3071)],
    let d := rowRead x.1 (modEng 1 (fun g => { g with
      touched := true, yielded := y, emC := some [1, 2, 3, 65535], emR := some [4, 5, 6, 0] }))
    rowEnds (.active x.2) x.1 quiet d ∧ outMode d ≠ 2 ∧ d.en.pack.band.length < 63 ∧ engRuns 1 d = true ∧
    (engOf 1 d).touched = true ∧ (engOf 1 d).yielded = y := by
  unfold rowEnds; decide +kernel

/-- At both ends of the array: the neighbour has made its reads (YIELD, YIELD_WAIT_END), or one of them is still to come. -/
theorem witness_YieldCompletesTheRow : ∀ b : Bool,
    let e : Fin 1024 := if b then 1023 else 0
    let n : Fin 1024 := if b then 1022 else 1
    (let s := pairOf e n 1 1 0
     wordRuns 0x3F e 0#26 s ∧ engRuns n.val s.dev = true ∧ (engOf n.val s.dev).row = some 100 ∧
     (engOf e.val s.dev).nlefts ≤ (engOf n.val s.dev).nlefts ∧ (engOf e.val s.dev).nrights ≤ (engOf n.val s.dev).nrights) ∧
    (let s := pairOf e n 1 0 0
     let h := engOf n.val s.dev
     wordRuns 0x3F e 0#26 s ∧ engRuns n.val s.dev = true ∧ h.row ≠ none ∧ h.yielded = false ∧ h.wait ≠ 3 ∧
     ¬ (engOf e.val s.dev).nlefts ≤ h.nlefts ∧ ¬ (engOf e.val s.dev).nrights ≤ h.nrights) ∧
    (let s := pairOf e n 1 1 3
     engRuns e.val s.dev = true ∧ (engOf e.val s.dev).wait = 3 ∧ (engOf e.val s.dev).nlefts ≤ (engOf n.val s.dev).nlefts ∧
     (engOf e.val s.dev).nrights ≤ (engOf n.val s.dev).nrights) := by
  unfold wordRuns; decide +kernel

/-- The row that completes is an active one, or a blind one; the contributions meet a partial that waits, or go to a holder that
has completed the row, or that has not. -/
theorem witness_YieldCompletesTheRow_rows :
    rowOfSlot 100 (rowOf {}).dev = .active 92 ∧ rowOfSlot 7 (rowOf {}).dev = .top 7 ∧ rowOfSlot 3080 (rowOf {}).dev = .bottom 0 ∧
    holderOf 0 92 = 0 ∧ holderOf 0 3071 = 1 ∧ takeWork (rowOf {}).dev = false := by
  decide +kernel

theorem witness_IllegalWordsAndAddressesTrap_words :
    canRun 0 (rowOf {}).dev = true ∧ pastEnd (liveCx 0 (rowOf { pc := 2048 }).dev) (engOf 0 (rowOf { pc := 2048 }).dev) = true ∧
    canRun 0 (rowOf { pc := 2048 }).dev = true ∧
    (∀ op ∈ [0x00, 0x08, 0x15, 0x18, 0x24, 0x2F, 0x34, 0x3F, 0x32], encLegal (insnWord op 0x3FFFFFF#26) = false) ∧
    encLegal (insnWord 0x01 1#26) = false ∧ (∀ op ∈ [0x3C, 0x3D], encLegal (insnWord op 0#26) = false) := by
  decide +kernel

/-- A row of engine 0 whose S0 is `a`, at word `pc`, in the extension or not. -/
def addressed (a : Nat) (ext : Bool) : State :=
  st [mode stLIVE, runs 0 { row := some 100, sc := [(0, BitVec.ofNat 32 a)], inExt := ext, pc := if ext then 1280 else 0 },
    fun d => { d with en := { d.en with ext := [0#32] } }]

theorem witness_IllegalWordsAndAddressesTrap :
    (∀ a ∈ [0x3FFF, 0x4000], let s := addressed a false
     let g := engOf 0 s.dev
     (∀ op ∈ [0x28, 0x29, 0x2A, 0x30, 0x32, 0x2D, 0x2B, 0x2C, 0x31], wordRuns op 0 0#26 s) ∧
     (∀ op ∈ [0x28, 0x29, 0x2A, 0x30, 0x32], (loadWords op 0 0#26 s.dev).any g.badData.contains = false) ∧
     guarded (insnWord 0x28 0#26) g 0 = true ∧ 0x4000 < a + 2 ∧ mAddr (insnWord 0x28 0#26) g 0 = a ∧
     xAddr (insnWord 0x30 0#26) g 0 = a ∧ tluAddr (insnWord 0x32 0#26) g 0 0 = a ∧ 0x4000 < tluAddr (insnWord 0x32 0#26) g 0 1 + 2) ∧
    -- lane 2 is the lowest with a bad address
    (let g := engOf 0 (addressed 0x3FF8 false).dev
     mAddr (insnWord 0x2B 0#26) g 4 + 4 = 0x4000 ∧ 0x4000 < mAddr (insnWord 0x2B 0#26) g 8 + 4) ∧
    -- a store of the extension below the user area
    (∀ a ∈ [0x3EFE, 0x3EFC], let s := addressed a true
     wordRuns 0x2C 0 0#26 s ∧ (engOf 0 s.dev).inExt = true ∧ mAddr (insnWord 0x2C 0#26) (engOf 0 s.dev) 0 = a ∧ a % 2 = 0) ∧
    (∀ a ∈ [12799, 12800], let s := addressed a false
     wordRuns 0x2E 0 0#26 s ∧ wordRuns 0x2F 0 0#26 s ∧ (ldcReads 0 0#26 s.dev).any (engOf 0 s.dev).badCards.contains = false ∧
     12800 ≤ mAddr (insnWord 0x2E 0#26) (engOf 0 s.dev) 1) ∧
    (let s := addressed 12355 false
     wordRuns 0x2F 0 0#26 s ∧ mAddr (insnWord 0x2F 0#26) (engOf 0 s.dev) 0 < 12356) := by
  unfold wordRuns; decide +kernel

theorem witness_EngineMemoryErrors :
    (∀ op ∈ [0x28, 0x29, 0x2A, 0x2D, 0x30, 0x32],
      (loadWords op 0 0#26 (rowOf { badData := [0] }).dev).any (engOf 0 (rowOf { badData := [0] }).dev).badData.contains = true ∧
      (loadWords op 0 0#26 (rowOf {}).dev).any (engOf 0 (rowOf {}).dev).badData.contains = false ∧
      0 ∈ loadWords op 0 0#26 (rowOf {}).dev ∧ loadWords op 0 0#26 (rowOf {}).dev ≠ []) ∧
    ∀ l : Fin 4, ldcSlot 0 0#26 l (rowOf {}).dev ∈ ldcReads 0 0#26 (rowOf {}).dev := by
  decide +kernel

/-! ### Supplies, resets, BOOT and the slate -/

theorem witness_SuppliesGiveTheModuleState :
    auxOn (dev [power (fun p => { p with aux3v3 := false })]) = false ∧
    (dev [power (fun p => { p with host12v := true })]).pw.host12v = true ∧
    (let d := dev []
     mstate d = stAUX ∧ d.pw.host12v = false ∧ auxOn d = true ∧ d.pw.critHold = false) ∧
    (let d := dev [power (fun p => { p with critHold := true, critCool := true, critLost := true })]
     mstate d = stAUX ∧ d.pw.host12v = false ∧ auxOn d = true ∧ d.pw.critLost = true) ∧
    (let d := dev [power (fun p => { p with host12v := true, critHold := true, critCool := true })]
     d.pw.host12v = true ∧ d.pw.aux3v3 = true ∧ mstate d = stAUX ∧ d.pw.critCool = true) ∧
    (let d := dev [power (fun p => { p with critHold := true })]
     d.pw.host12v = false ∧ auxOn d = true ∧ d.pw.critHold = true ∧ d.pw.critLost = false) ∧
    (let d := dev [power (fun p => { p with host12v := true }), mode stLIVE]
     d.pw.host12v = true ∧ d.pw.aux3v3 = true ∧ mstate d ≠ stAUX) ∧
    (let d := dev [power (fun p => { p with host12v := true, aux3v3 := false })]
     d.pw.host12v = true ∧ d.pw.aux3v3 = false) := by
  decide +kernel

theorem witness_ResetSourcesResetTheMainDomain :
    (let d := dev [power (fun p => { p with perst := false }), mode stSAFE]
     mainRuns d = true ∧ d.pw.perst = false ∧ served d = true ∧ auxOn d = true) ∧
    mainRuns (dev [mode stBOOT]) = true ∧
    (0xA55A0001#32).toNat / 2 ^ 16 = 0xA55A ∧ (0xA55A0001#32).toNat % 2 = 1 ∧ (0xA5590001#32).toNat / 2 ^ 16 ≠ 0xA55A ∧
    (let d := dev [power (fun p => { p with perst := false, causes := [5] }), mode stRESET]
     mstate d = stRESET ∧ d.pw.perst = false ∧ d.pw.causes ≠ [] ∧ d.fsh.started = false ∧ d.xh.on = false ∧ ∀ k ∈ d.pw.causes, k ≤ 5) ∧
    (dev []).pw.perst = true ∧ (dev []).pw.critHold = false ∧
    (let d := dev [power (fun p => { p with critHold := true, critPerst := true, host12v := true })]
     d.pw.perst = true ∧ d.pw.critHold = true ∧ d.pw.critPerst = true ∧ d.pw.host12v = true) := by
  decide +kernel

/-- A valid SFDP. -/
def sfdp64 : SfdpIn := ⟨0x50444653#32, 1, 0x80⟩

theorem witness_BootVerifiesASlotAndLoads :
    sfdpValid sfdp64 = true ∧ 64 ≤ sfdpMbit 0x03FFFFFF#32 ∧
    (let s : State := { st [mode stBOOT] with store := { flash := wrBytes 0xFF [] 0 imageHeader } }
     let d := s.dev
     mstate d = stBOOT ∧ d.fsh.started = false ∧ flag FLP_BOOT.BOOTED d = false ∧ flag FLP_BOOT.FALLBACK d = false ∧ d.fsh.orphan = none ∧
     headerOk 0 s = true ∧ headerOk 1 s = false ∧ safeFrom d = true) ∧
    (∀ f ∈ [false, true], let s := st [mode stBOOT, setFlag FLP_BOOT.FALLBACK f, fun d => { d with fsh := { d.fsh with started := true } }]
     let d := s.dev
     verifyResult d.fsh.slot false s ≠ 1 ∧ mstate d = stBOOT ∧ flag FLP_BOOT.BOOTED d = false ∧ d.fsh.started = true ∧ flag FLP_BOOT.FALLBACK d = f) ∧
    (let d := dev [mode stBOOT, setFlag FLP_BOOT.BOOTED true, setFlag NVS_STATUS.CNT_VALID true]
     mstate d = stBOOT ∧ flag FLP_BOOT.BOOTED d = true ∧ flag NVS_STATUS.CNT_VALID d = true ∧
     d.waits.any (fun w => w.kind == wkBOOT) = false ∧ coldLimit d = false) ∧
    coldLimit (dev [fun d => { d with gaf := { d.gaf with sens := [(0, { fast := -2689 })] } }])
      = true := by
  decide +kernel

theorem witness_RowSlotsAndSlatesFollowOneAnother :
    (let d := dev [slate (fun x => { x with running := true })]
     d.sl.running = true ∧ inLastSlot d = false) ∧
    (let d := dev [lastSlot]
     d.sl.running = true ∧ inLastSlot d = true ∧ slateEnds d = true ∧ d.sl.loadNo = false ∧ isFollower d = false) ∧
    slateEnds (dev []) = false ∧
    (let d := dev [lastSlot, slate (fun x => { x with loadNo := true })]
     slateEnds d = true ∧ d.sl.loadNo = true ∧ isFollower d = false) ∧
    (∀ k ∈ [0, 8, 3079, 3087], let d := rowRead (k - 1) id
     d.sl.running = true ∧ isLive d = true ∧ nslots d = activeRows d + 48 ∧ 1 ≤ d.sl.slot ∧ rowOfSlot (d.sl.slot - 1) d ≠ .none) := by
  decide +kernel

/-- A locked external source. -/
def edges : Dev → Dev := fun d => setFld SLATE_STATUS.LOCK 1 (slate (fun x => { x with running := true, src := 1 }) d)

theorem witness_ExternalSlateEdges :
    (let d := dev [lastSlot, edges]
     let ticks := ticksInForce d
     d.sl.running = true ∧ edgeSource d = 1 ∧ fld SLATE_STATUS.LOCK d = 1 ∧ d.sl.edgeUsed = false ∧ inLastSlot d = true ∧
     ticks / 2 ≤ max d.sl.slotTick (ticks / 2) ∧ max d.sl.slotTick (ticks / 2 - 1) < ticks / 2 ∧
     max d.sl.slotTick (3 * ticks / 2) ≤ 3 * ticks / 2 ∧ 3 * ticks / 2 < max d.sl.slotTick (3 * ticks / 2 + 1) ∧ 32 ≤ nslots d ∧
     d.sl.endDue = false) ∧
    (let d := dev [edges, slate (fun x => { x with slot := nslots {} - 16 })]
     inLastSlot d = false ∧ nslots d - 16 ≤ d.sl.slot ∧ edgeSource d = 1) ∧
    (let d := dev [edges, slate (fun x => { x with slot := nslots {} - 17 })]
     d.sl.slot + 1 ≤ nslots d - 16 ∧ edgeSource d = 1) ∧
    (let d := dev [lastSlot, edges, slate (fun x => { x with early := true })]
     d.sl.early = true ∧ inLastSlot d = true ∧ d.sl.endDue = false) ∧
    (let d := dev [lastSlot, setFld SLATE_STATUS.LOCK 2, slate (fun x => { x with relock := true })]
     fld SLATE_STATUS.LOCK d = 2 ∧ d.sl.relock = true ∧ inLastSlot d = true ∧ d.sl.endDue = false) := by
  decide +kernel

/-- Both access paths reach every register of the module in state `n`. -/
theorem reachable_of_mode : ∀ n ∈ [stIDLE, stLIVE, stCOLD, stSAFE], reachable (dev [mode n]) := by
  unfold reachable; decide +kernel

/-- A member of the herd at position 5, with SLATE_INFO heard from no one. -/
def member5 : Dev → Dev := fun d => { power (fun p => { p with pos := 5 }) (mode stLIVE d) with
  herd := { d.herd with cfg := 0x00010001#32, listen := 3 } }

theorem witness_SlateAndHerdWritesAwaitTheBoundary :
    (let d := dev [member5, setFld HERD_STATUS.ROLE 1, setFld HERD_CFG.ENABLE 1]
     reachable d ∧ isFollower d = true ∧ herdOn d = true ∧ getBits (valueLeft HERD_CFG.addr 0x00010000#32 d) 0 0 = 0 ∧
     getBits (valueLeft HERD_CFG.addr 0x00010000#32 d) 19 16 ≠ 0) ∧
    isFollower (dev [mode stLIVE]) = false ∧ reachable (dev [mode stLIVE]) ∧ getBits (valueLeft HERD_CFG.addr 0x00010000#32 (dev [mode stLIVE])) 19 16 = 1 ∧
    getBits (valueLeft HERD_CFG.addr 0#32 (dev [mode stLIVE])) 19 16 = 0 := by
  unfold reachable; decide +kernel

/-! ### The herd and takes -/

/-- The member leads. -/
def leads : Dev → Dev := setFld HERD_STATUS.ROLE 2

theorem witness_ClapperAndElections :
    (let d := dev [member5, slate (fun x => { x with running := true })]
     herdOn d = true ∧ d.sl.running = true ∧ d.herd.elect = none ∧ isLeader d = false ∧ participates d = true ∧
     electionCase d = true) ∧
    (let d := dev [member5, modHerd (fun h => { h with elect := some ⟨3, true, 4⟩ })]
     d.herd.elect = some ⟨3, true, 4⟩) ∧
    (∀ e ∈ [(⟨4, true, 5⟩ : Election), ⟨4, false, 6⟩], let d := dev [member5, modHerd (fun h => { h with elect := some e })]
     d.herd.elect = some e ∧ 4 ≤ e.cell ∧ mainRuns d = true ∧ participates d = true) ∧
    participates (dev [member5, setFlag FPA_STATUS.STRIPE true]) = false ∧
    -- a locked follower in its last slot, of a leader of its own rate, and of one of twice that
    (let follows : Dev → Dev := fun d => slate (fun x => { x with running := true, slot := nslots d - 1 })
       (setFld HERD_STATUS.ROLE 1 (setFld SLATE_STATUS.LOCK 1 (member5 d)))
     let d := dev [follows]
     let two := modHerd (fun h => { h with
       leader := some 3, number := some 7, members := [(3, { age := 0, taking := false, period := ownPeriod d / 2 })] }) d
     (∀ x ∈ [(d, 1), (two, 2)], herdOn x.1 = true ∧ x.1.sl.running = true ∧ x.1.herd.elect = none ∧ isLeader x.1 = false ∧
       edgeSource x.1 = 2 ∧ fld SLATE_STATUS.LOCK x.1 = 1 ∧ x.1.sl.edgeUsed = false ∧ inLastSlot x.1 = true ∧
       followK x.1 = some x.2 ∧ isFollower x.1 = true) ∧ two.herd.number = some 7 ∧ (7 + 1) % 2 ^ 48 % 2 = 0 ∧
     max d.sl.slotTick (ticksInForce d / 2) = ticksInForce d / 2 ∧
     max d.sl.slotTick (3 * ticksInForce d / 2) = 3 * ticksInForce d / 2) := by
  decide +kernel

theorem witness_HerdLaneMessages :
    laneMeant 0 0 true (dev [member5]) ∧ laneMeant 15 5 false (dev [member5]) ∧ hcFld HERD_CFG.HERD_ID (dev [member5]) ≠ 255 ∧
    posOf (dev [member5]) = 5 ∧ serialNo (dev [member5]) < 1 ∧
    isLeader (dev [member5]) = false ∧ isLeader (dev [member5, leads]) = true ∧ 0 < posOf (dev [member5]) ∧
    (let d := dev [member5, leads]
     flag HERD_STATUS.DUP d = false ∧ memberK 15 d = some 1 ∧ blindAllows d = true ∧ d.herd.queue = []) ∧
    (let d := dev [member5, leads, modHerd (fun h => { h with blind := [(9, 70)] })]
     flag HERD_STATUS.DUP d = false ∧ memberK 15 d = some 1 ∧ blindAllows d = false) ∧
    (let d := dev [member5]
     isLive d = true ∧ inTake d = false ∧ d.take.next = none ∧ flag HERD_STATUS.DUP d = false ∧
     modeRefused (resolveMode ((d.herd.req.map (·.mode)).getD 0) d) d = false) ∧
    (dev [member5, modHerd (fun h => { h with req := some ⟨1, 1, none, 0⟩ })]).herd.req.isSome = true ∧
    laneMeant 15 5 false (dev [member5, setFlag HERD_STATUS.DUP true]) ∧
    flag HERD_STATUS.DUP (dev [member5, setFlag HERD_STATUS.DUP true]) = true := by
  unfold laneMeant; decide +kernel

theorem witness_HerdLimitsAndSchedule :
    (let d := dev [member5]
     mainRuns d = true ∧ herdOn d = true ∧ flag HERD_STATUS.LANE_UP d = false) ∧
    (dev [member5, modHerd (fun h => { h with crcs := 15 })]).herd.crcs + 1 = 16 ∧
    laneCrcOk (List.replicate 24 0) = false ∧
    (∀ w ∈ [List.replicate 20 0#8 ++ [0xB8, 0xF6, 0, 0], 8#8 :: List.replicate 19 0 ++ [0x01, 0x4B, 0, 0]],
      laneCrcOk w = true ∧ (w.getD 1 0).toNat / 16 ≠ posOf (dev [member5]) ∧ ((w.getD 0 0).toNat = 0 ∨ 7 < (w.getD 0 0).toNat)) ∧
    flag HERD_STATUS.LANE_UP (dev [member5, setFlag HERD_STATUS.LANE_UP true]) = true ∧
    (let r : HerdReq := ⟨1, 1, none, 4⟩
     let d := dev [member5, modHerd (fun h => { h with req := some r })]
     d.herd.req = some r ∧ 4 ≤ r.age ∧ isLeader d = false ∧ mainRuns d = true) ∧
    (let d := dev [member5, leads, modHerd (fun h => { h with queue := [(8, 599), (9, 600)] })]
     d.herd.queue.find? (fun x => decide (fld HERD_TAKE.WAIT d ≤ x.2)) = some (9, 600) ∧ isLeader d = true ∧
     9 ≠ posOf d ∧ herdOn d = true ∧ mainRuns d = true ∧ flag HERD_STATUS.DUP d = false) ∧
    (let d := dev [member5, leads, setFld HERD_TAKE.SCHED_PERIOD 7, modHerd (fun h => { h with schedAge := 7 })]
     isLeader d = true ∧ fld HERD_TAKE.SCHED_PERIOD d ≠ 0 ∧ fld HERD_TAKE.SCHED_PERIOD d ≤ d.herd.schedAge ∧ blindAllows d = true ∧
     memberK (((presentPos d).find? (fun p => decide (d.herd.sched < p))).getD ((presentPos d).headD 0)) d = some 1) := by
  decide +kernel

theorem witness_TakeTimersAndMotionBits :
    (∀ h ∈ [false, true], let d := dev [mode stLIVE, modTake (fun k => { k with hold := h, due := h })]
     tkFld TAKE_CFG.INTERVAL d ≠ 0 ∧ isLive d = true ∧ inTake d = false ∧ d.take.hold = h ∧ d.take.due = h ∧
     herdOn d = false ∧ isFollower d = false ∧ modeRefused (resolveMode 0 d) d = false ∧ takeBusy d = false) ∧
    (let d := dev [mode stLIVE, setFlag GLB_MSTATE.TAKE true, modTake (fun k => { k with shReq := 1 })]
     inTake d = true ∧ d.take.shReq = 1) ∧
    (let d := dev [mode stLIVE, modTake (fun k => { k with gateAge := some 121 })]
     d.take.gateAge = some 121 ∧ tkFld TAKE_ST_LIFE.LIFE d < 121) ∧
    reachable (dev [mode stLIVE]) := by
  unfold reachable; decide +kernel

/-! ### Focal plane, engines, registers, the link, cards and cells -/

theorem witness_FocalPlaneSettingsAreStaged :
    let d := dev [mode stLIVE]
    reachable d ∧ inTake d = false ∧ inTake (dev [mode stLIVE, setFlag GLB_MSTATE.TAKE true]) = true ∧ d.fpa.announced = false ∧
    fpaModeOk (valueLeft FPA_MODE.addr 0x800#32 d) = true ∧ fpaModeOk (valueLeft FPA_MODE.addr 0x900#32 d) = false ∧
    (∀ n ∈ [32, 128], (valueLeft FPA_INT.addr (BitVec.ofNat 32 n) d).toNat % 256 = n) ∧
    (valueLeft FPA_INT.addr 31#32 d).toNat % 256 < 32 ∧ 128 < (valueLeft FPA_INT.addr 129#32 d).toNat % 256 := by
  unfold reachable; decide +kernel

theorem witness_EngineActionsAndLoaderCommands_engines :
    reachable (dev [mode stLIVE]) ∧ reachable (dev [mode stSAFE]) ∧ engpLegal (dev [mode stLIVE]) = true ∧
    engpLegal (dev [mode stSAFE]) = false ∧
    engState 1023 (dev [mode stLIVE, setFld (ENG_STATE.STATE 1023) enFAULT]) = enFAULT ∧
    engState 1023 (dev [mode stLIVE, setFld (ENG_STATE.STATE 1023) enWARM]) = enWARM ∧
    engState 1023 (dev [mode stLIVE]) < 3 := by
  unfold reachable; decide +kernel

/-- A copy of `n` words `w` with budget `b` is under test. -/
def underTest (n b : Nat) (w : BitVec 32) : Dev :=
  dev [mode stLIVE, setFlag ENGP_STATUS.BUSY true, fun d => { d with en := { d.en with
    copyKind := 2, copyW := List.replicate n w, copyH := BitVec.ofNat 32 (n + 2 ^ 16 * b) } }]

/-- The image `ws` with budget `b` is under test. -/
def imageUnder (ws : List (BitVec 32)) (b : Nat) : Dev :=
  dev [mode stLIVE, setFlag ENGP_STATUS.BUSY true, fun d => { d with en := { d.en with
    copyKind := 2, copyW := ws, copyH := BitVec.ofNat 32 (ws.length + 2 ^ 16 * b) } }]

/-- Images that fail tests 4, 5 and 6 at word 0 and no earlier test, and one that passes them all. -/
theorem witness_EngineActionsAndLoaderCommands_tests :
    (encLegal 0xFC000000#32 = true ∧ encLegal 0x44040000#32 = true ∧ encLegal 0xF8000001#32 = true) ∧
    (fb 0xFC000000#32 31 26 = 0x3F ∧ wForbidden 0x44040000#32 = false ∧ wForbidden 0xF8000001#32 = false) ∧
    (wV 0x44040000#32 = [1] ∧ wV 0xF8000001#32 = [] ∧ wS 0xF8000001#32 = [] ∧ wP 0xF8000001#32 = []) ∧
    (wBroken [0xF8000001#32, 0xF8000001#32] 0 = true ∧ wBroken [0xF8000001#32] 0 = false ∧ worstPath [0xF8000001#32] = 3) ∧
    (∀ b ∈ [0, 2, 3, 384, 385], flag ENGP_STATUS.BUSY (imageUnder [0xF8000001#32] b) = true ∧
      flag ENGP_STATUS.PENDING (imageUnder [0xF8000001#32] b) = false) := by
  decide +kernel

/-- RET alone: a path of 3 cycles against budgets 2, 3, 384 and 385, and against the cycles available. -/
theorem test_loader_results :
    (engpTest [0xF8000001#32] 0x20001#32 592).1 = 7 ∧ (engpTest [0xF8000001#32] 0x30001#32 211).1 = 1 ∧
    (engpTest [0xF8000001#32] 0x30001#32 210).1 = 9 ∧ (engpTest [0xF8000001#32] 0x1800001#32 592).1 = 1 ∧
    (engpTest [0xF8000001#32] 0x1810001#32 593).1 = 8 := by decide +kernel

theorem witness_EngineActionsAndLoaderCommands :
    reachable (dev [mode stLIVE]) ∧ flag ENGP_STATUS.BUSY (dev [mode stLIVE]) = false ∧
    engpLegal (dev [mode stLIVE]) = true ∧ engpLegal (dev [mode stCOLD]) = false ∧ reachable (dev [mode stCOLD]) ∧
    (∀ x ∈ [(0, 0#32), (769, 0#32), (1, 0x3FFFFFF#32), (1, 0xF8000001#32)],
      flag ENGP_STATUS.BUSY (underTest x.1 384 x.2) = true ∧ flag ENGP_STATUS.PENDING (underTest x.1 384 x.2) = false) ∧
    encLegal 0x3FFFFFF#32 = false ∧ encLegal 0xF8000001#32 = true := by
  unfold reachable; decide +kernel

/-- Pairs of each kind, the slots of CAL_RD_DATA among them after a read of card data. -/
theorem witness_RegisterAccesses_pairs :
    let d := dev [mode stLIVE, fun d => { d with cal := { d.cal with rdCards := true }, bus := { d.bus with pcie := { d.bus.pcie with
      high := [(SLATE_NO_HI.addr, 7#32), (RING_CTX.addr 1, 8#32)], low := [(RING_CTX.addr 0, 9#32)] } } }]
    (∀ a ∈ [SLATE_NO_LO.addr, RING_CTX.addr 0, EVT_VIOL0.addr 15, CAL_RD_DATA.addr 126],
      pairLow a d = true ∧ target host a false d = .reg ∧ target host (a + 4) false d = .reg ∧ mfind (pathRegs host d).high a = none) ∧
    pairLow (CAL_RD_DATA.addr 126) (dev [mode stLIVE]) = false ∧ SLATE_NO_LO.addr + 4 = SLATE_NO_HI.addr ∧
    mfind (pathRegs host d).high (SLATE_NO_LO.addr + 4) = some 7 ∧ (pathRegs host d).low = [(RING_CTX.addr 0, 9#32)] := by
  decide +kernel

theorem witness_RegisterAccesses :
    let d := dev [mode stLIVE]
    reachable d ∧ (∀ a ∈ plainRegs, encodingAt a (valueLeft a (regReset a) d) d = true) ∧
    encodingAt MGP_CFG.addr (valueLeft MGP_CFG.addr 0#32 d) d = false ∧
    (pathRegs host (dev [mode stLIVE, fun d => { d with bus := { d.bus with pcie := { d.bus.pcie with low := [(SLATE_TLOAD_LO.addr, 7#32)] } } }])).low
      = [(SLATE_TLOAD_LO.addr, 7#32)] ∧
    (regInfo GLB_MSTATE.addr).isSome = true ∧ target host GLB_MSTATE.addr false d = .reg ∧ mirrorAddr GLB_MSTATE.addr = false ∧
    pairLow GLB_MSTATE.addr d = false ∧ pairLow (CAL_RD_DATA.addr 0) d = false ∧
    (regInfo GLB_ID.addr).isSome = true ∧ target host GLB_ID.addr true d = .reg ∧
    ((regInfo GLB_ID.addr).map (fun r => (r.rw, r.w1c, r.wo)) = some (0#32, 0#32, 0#32)) ∧ (0xFFFFFFEF#32).getLsbD 4 = false ∧
    (∀ a ∈ [GLB_MSTATE.addr, SLATE_NO_LO.addr, SLATE_TIME_LO.addr, SLATE_START_LO.addr, 0xD100, 0xD2FC], mfind (pathRegs host d).high a = none) ∧
    (regInfo 0xD100).isSome = true ∧ pairLow 0xD100 d = false := by
  unfold reachable; decide +kernel

theorem witness_LinkChangesAndUnservedAccesses :
    mstate (dev [mode stRESET]) = stRESET ∧ mainRuns (dev [mode stLIVE]) = true ∧
    ((dev [mode stLIVE]).link.up, (dev [mode stLIVE]).link.speed, (dev [mode stLIVE]).link.width) ≠ (true, 4, 4) ∧
    (let d := dev [mode stLIVE, fun d => { d with link := { d.link with up := true, speed := 4, width := 4 } }]
     (d.link.up, d.link.speed, d.link.width) ≠ (false, 0, 0)) := by
  decide +kernel

/-- One entry of a card-load block: value, slot, operation, mask. -/
def entry (v n op mask : Nat) : List (BitVec 8) := leBytes 8 v ++ leBytes 2 n ++ leBytes 2 op ++ leBytes 4 mask

/-- A card-load block for engine 1023. -/
def block (kind check gen count : Nat) (crc : Nat) (pay : List (BitVec 8)) : List (BitVec 8) :=
  leBytes 4 (kind + 256 * check + 65536 * gen) ++ leBytes 4 1023 ++ leBytes 4 count ++ leBytes 4 crc ++ List.replicate 16 0 ++ pay

/-- Two entries at the ends of the slots they may name. -/
def twoEntries : List (BitVec 8) := entry 5 12355 1 0 ++ entry 7 12351 2 15

/-- Ring 262143 acts on a card-load descriptor that holds the bytes. -/
def loading (wait slots : Nat) (rest : List (BitVec 8)) : CardJob := ⟨262143, ⟨0, 0x1000, rest.length, 0, 7⟩, rest, 0, wait, slots, false⟩

/-- The module with that descriptor, and engine 1023 as `g`. -/
def loads (j : CardJob) (g : Eng) : Dev :=
  dev [mode stLIVE, modEng 1023 (fun _ => g), fun d => { d with cal := { d.cal with jobs := [j] } }]

theorem witness_CardLoadBlocksActOnTheirEngine :
    let good := block 1 0 0 2 (crc32 twoEntries).toNat twoEntries
    let h := blkHdr good
    let pay := (good.drop 32).take (16 * h.count)
    let full : Eng := { ledger := List.replicate 1023 ⟨3, 1, 5, 1, true, false⟩ }
    (cardJob 262143 (loads (loading 0 0 good) {}) = some (loading 0 0 good) ∧ h.kind = 1 ∧ h.e = 1023 ∧ h.checkGen = false ∧
      engState 1023 (loads (loading 0 0 good) {}) ≠ enFAULT ∧ (crc32 pay).toNat = h.crc ∧
      (∀ x ∈ entriesOf h.count pay, x.2 = true) ∧ mainRuns (loads (loading 0 0 good) full) = true ∧
      1024 < (engOf 1023 (loads (loading 0 0 good) full)).ledger.length + h.count ∧
      (engOf 1023 (loads (loading 1 0 good) {})).ledger.length + h.count ≤ 1024) ∧
    (let bad := block 1 0 0 2 0 twoEntries
     (blkHdr bad).kind = 1 ∧ (crc32 twoEntries).toNat ≠ (blkHdr bad).crc) ∧
    (let stale := block 1 1 9 2 0 twoEntries
     (blkHdr stale).kind = 1 ∧ (blkHdr stale).checkGen = true ∧
     (loading 0 0 stale).compared = false ∧ (blkHdr stale).gen ≠ fld (ENG_STATE.GEN 1023) (loads (loading 0 0 stale) {})) ∧
    (let bulk := block 2 0 0 0 0 []
     (blkHdr bulk).kind = 2 ∧ (blkHdr bulk).checkGen = false ∧ inTake (loads (loading 0 0 bulk) {}) = false ∧
     cardJob 262143 (loads (loading 3 12356 bulk) {}) = some (loading 3 12356 bulk) ∧
     (crc32 ((bulk.drop 32).take 98848)).toNat = (blkHdr bulk).crc ∧
     cardJob 262143 (loads (loading 3 12355 bulk) {}) = some (loading 3 12355 bulk)) := by
  decide +kernel

theorem witness_CardReadsAndGainTableWrites :
    let d := dev [mode stLIVE]
    let slot (v : BitVec 32) : Nat := v.toNat / 64 % 2 ^ 14
    reachable d ∧ flag CAL_RD_STATUS.BUSY d = false ∧ flag CAL_RD_STATUS.BUSY (dev [mode stLIVE, setFlag CAL_RD_STATUS.BUSY true]) = true ∧
    slot (BitVec.ofNat 32 (64 * 12736)) + 64 ≤ 12800 ∧ 12800 < slot (BitVec.ofNat 32 (64 * 12737)) + 64 ∧
    mainRuns d = true ∧
    ∀ v : BitVec 32, (dev [mode stLIVE, fun d => { d with cal := { d.cal with rd := some v } }]).cal.rd = some v := by
  unfold reachable; refine ⟨?_, ?_, ?_, ?_, ?_, ?_, fun _ => rfl⟩ <;> decide +kernel

/-- The staged radiometric table under command `a`, with `v` as entry `i`. -/
def radiometric (a i v : Nat) : Dev :=
  dev [mode stLIVE, setFlag CELL_RT_STATUS.BUSY true, modCw (fun c => { c with rtAction := some a, rtStage := [(i, v)] })]

theorem witness_RadiometricTablesAreStagedAndCommitted :
    reachable (dev [mode stLIVE]) ∧ flag CELL_RT_STATUS.BUSY (dev [mode stLIVE]) = false ∧
    reachable (radiometric 1 4095 1) ∧ flag CELL_RT_STATUS.BUSY (radiometric 1 4095 1) = true ∧
    (∀ a ∈ [1, 2, 3, 4], (radiometric a 4095 1).cw.rtAction = some a ∧ mainRuns (radiometric a 4095 1) = true) ∧
    rtEntry 4095 (radiometric 2 4094 1) < rtEntry 4094 (radiometric 2 4094 1) := by
  unfold reachable; decide +kernel

theorem witness_RadiometricTablesAreStagedAndCommitted_ordered (i : Nat) :
    i < 4095 → rtEntry i (radiometric 1 4095 1) ≤ rtEntry (i + 1) (radiometric 1 4095 1) := by
  intro h
  have e : ∀ k, rtEntry k (radiometric 1 4095 1) = if k = 4095 then 1 else 0 := by
    intro k
    show mget (fun _ => 0) [(4095, 1)] k = _
    by_cases hk : k = 4095 <;> simp [mget, mfind, hk, eq_comm]
  simp only [e]; split <;> split <;> omega

/-- Ring `n` is ENABLED, with LOG2 4, as `f` says for the rest. -/
def ringOf (n : Nat) (r : Ring) (d : Dev) : Dev := { d with rings := { d.rings with tab := [(n, r)] } }

/-- The link carries the module's messages. -/
def linked (d : Dev) : Dev := { d with link := { d.link with up := true, busMaster := true, msixEnable := true } }

/-- A descriptor of 200 bytes that is being filled, with `used` bytes in it. -/
def filling (used : Nat) : Cur := ⟨⟨2, 0x1000, 200, 0, 5⟩, used, 0, false, 0, []⟩

theorem witness_CellMapReleasesAndRecords :
    reachable (dev [mode stLIVE]) ∧ flag CELL_STATUS.MAP_BUSY (dev [mode stLIVE]) = false ∧
    (let d := dev [mode stLIVE, setFlag CELL_STATUS.MAP_BUSY true]
     reachable d ∧ flag CELL_STATUS.MAP_BUSY d = true ∧ mainRuns d = true) ∧
    (0x3FFFF#32).getLsbD 18 = false ∧ (0x40000#32).getLsbD 18 = true ∧
    (let rec_ := List.replicate 32 (1#8)
     let q : Dev → Dev := modCw (fun c => { c with queue := [(7, rec_)] })
     let d := dev [mode stLIVE, linked, q, ringOf 7 { st := rgENABLED, w2 := 0x84#32, cur := some (filling 168) }]
     d.cw.queue = [(7, rec_)] ∧ (ring 7 d).st = rgENABLED ∧ linkBlocked d = false ∧ (ring 7 d).cur = some (filling 168) ∧
     (filling 168).used + rec_.length ≤ (filling 168).desc.len ∧ (ring 7 d).each = false ∧
     linkBlocked (dev [mode stLIVE, q]) = true) := by
  unfold reachable; decide +kernel

/-- Cells 0 and 262,143, the first and the last, of a LIVE module before blanking slot 28, in state `x`, released or not, with
their records, of engines 0 and 1,023, handed over. -/
def watched (x : Nat) (rel : Bool) (missed : List Nat) : Dev :=
  beforeBlank 28 (fun d => { d with
    cw := { d.cw with cells := [(0, { st := x, rel := rel }), (262143, { st := x, rel := rel })] },
    en := { d.en with missed := missed, handed := [(0, ⟨5, 5, 5, 1, 0⟩), (256 * 1023 + 255, ⟨5, 5, 5, 1, 0⟩)] } })

theorem witness_CellsAreEvaluated :
    (∀ rel ∈ [false, true], ∀ x ∈ [([], []), ([0], []), ([], [262143])],
      let d := watched 2 rel x.1
      blankStarts 28 { quiet with unevaluated := x.2 } d ∧ d.cw.apply = false ∧ ∀ i ∈ [0, 262143], (cellOf i d).rel = rel ∧ (cellOf i d).st ≠ 0) ∧
    -- the record of cell 262,143
    (let i := 262143
     let p := i % 512
     let q := i / 512
     256 * (if q < 256 then 2 * p else 2 * p + 1) + q % 256 = 256 * 1023 + 255) ∧
    (let d := watched 2 true []
     radInForce d = false ∧ (∀ n, n < 64 → ∀ k, k < 3 → zoneReg n k d = zoneIn n k d) ∧
     (mget cellRecD d.en.handed (256 * 0 + 0)).count ≠ 0 ∧ (mget cellRecD d.en.handed (256 * 0 + 1)).count = 0 ∧
     (mget cellRecD d.en.handed (256 * 1023 + 255)).count ≠ 0) := by
  unfold blankStarts; decide +kernel

/-! ### Rings, commands, events, the management port, sensors -/

/-- A ring of type `typ`, LOG2 4, in state `s`, with three descriptors posted from position 0. -/
def posted (typ s : Nat) : Ring :=
  { w0 := 0x10000#32, w1 := 1#32, w2 := BitVec.ofNat 32 (4 + 32 * typ + 256 + 7 * 65536), st := s, pidx := 3 }

/-- An action `a` on the ring is under way. -/
def acting (a : Nat) (r : Ring) : Dev :=
  dev [mode stLIVE, fun d => { d with rings := { d.rings with tab := [(262143, r)], action := some (a, 262143, []) } }]

theorem witness_RingActions :
    reachable (dev [mode stLIVE]) ∧ flag RING_STATUS.BUSY (dev [mode stLIVE]) = false ∧
    flag RING_STATUS.BUSY (dev [mode stLIVE, setFlag RING_STATUS.BUSY true]) = true ∧
    (∀ a ∈ [1, 2, 3, 4, 5, 6, 7], (acting a (posted 2 rgDISABLED)).rings.action = some (a, 262143, [])) ∧
    ctxOk (posted 2 rgDISABLED) = true ∧ ctxOk { posted 2 rgDISABLED with w2 := 0x43#32 } = false ∧
    limitReached (posted 2 rgDISABLED) (acting 3 (posted 2 rgDISABLED)) = false ∧
    limitReached (posted 2 rgDISABLED) (dev [fun d => { d with rings := { d.rings with
      tab := [(5, posted 2 rgENABLED), (262143, posted 2 rgDISABLED)] } }]) = true ∧
    (posted 2 rgENABLED).st ≠ rgDISABLED ∧ (posted 2 rgPAUSED).st = rgPAUSED ∧ (posted 2 rgERROR).st = rgERROR := by
  unfold reachable; decide +kernel

/-- The descriptor of a command: 32 bytes at host address 0x1000. -/
def command : DescIn := ⟨0x1000, 32, 1, 9⟩

/-- A command ring with three descriptors posted, in a module of state `m` with a field side. -/
def commanded (m : Nat) : Dev :=
  dev [mode m, setFlag GLB_MSTATE.FIELD_ABSENT false, linked, ringOf 262143 (posted 0 rgENABLED)]

theorem witness_DoorbellsAndDescriptors :
    (let d := commanded stLIVE
     let g := ring 262143 d
     served d = true ∧ g.on = true ∧ (0x0100000F#32).toNat % 2 ^ 24 < g.size ∧
     g.posted + ((g.size * 0 + 15) + 2 * g.size - g.ppos) % (2 * g.size) ≤ g.size ∧
     g.posted + ((g.size * 0 + 3) + 2 * g.size - g.ppos) % (2 * g.size) ≤ g.size ∧
     g.size ≤ (16#32).toNat % 2 ^ 24 ∧ g.size < g.posted + ((g.size * 1 + 1) + 2 * g.size - g.ppos) % (2 * g.size) ∧
     g.st ≠ rgERROR ∧ mstate d ≠ stSAFE ∧ fetches 262143 d = true ∧ descCheck g (descOf command 0) = 0 ∧ g.typ ≤ 1 ∧
     descCheck g (descOf { command with len := 31 } 0) ≠ 0 ∧ g.usable = [] ∧ g.cur = none ∧ g.jobs = [] ∧ d.rings.held = []) ∧
    (ring 0 (commanded stLIVE)).on = false ∧
    (let d := dev [mode stLIVE, linked, ringOf 262143 (posted 2 rgENABLED)]
     fetches 262143 d = true ∧ 2 ≤ (ring 262143 d).typ ∧
     descCheck (ring 262143 d) (descOf { command with len := 524288 } 0) = 0) ∧
    (let d := dev [mode stLIVE, linked, ringOf 262143 (posted 1 rgENABLED)]
     let buf := block 1 0 0 1024 0 (List.replicate 16384 0)
     fetches 262143 d = true ∧ (ring 262143 d).typ = 1 ∧
     descCheck (ring 262143 d) (descOf { command with len := 16416 } 0) = 0 ∧ blkCheck (buf.take 16416) = 0) := by
  decide +kernel

/-- A piece of five bytes in a descriptor, with its deadline at row slot `due`. -/
def piece (closes : Bool) (due : Nat) : Job :=
  { desc := ⟨2, 0x1000, 200, 0, 5⟩, off := 16, bytes := [1#8, 2#8, 3#8, 4#8, 5#8], band := 3, part := 2, doneLen := 40
    closes := closes, slate := 9, due := due }

theorem witness_PiecesAreWrittenOrTruncated :
    (∀ c ∈ [false, true], ∀ due ∈ [64, 65],
     let d := dev [mode stLIVE, linked, slate (fun x => { x with slots := 64 }),
       ringOf 262143 { posted 2 rgENABLED with jobs := [piece c due] }]
     (ring 262143 d).jobs = [piece c due] ∧ linkBlocked d = false ∧ (piece c due).closes = c ∧ (ring 262143 d).cur = none ∧
     (d.sl.slots < (piece c due).due ↔ due = 65) ∧ ((piece c due).due ≤ d.sl.slots ↔ due = 64) ∧
     (ring 262143 d).on = true ∧ d.rings.held = [] ∧ 1 < (piece c due).bytes.length ∧ mainRuns d = true) ∧
    ∀ k ∈ ([] : List Job).head?, k.status = dsOK := by
  decide +kernel

/-- A command block with target `t` and first parameter `p`. -/
def blk (t p : Nat) : CmdBlk := ⟨false, 0, t, [p, 0, 0, 0, 0, 0], true⟩

theorem witness_HostCommands :
    (∀ m ∈ [stIDLE, stLIVE, stCOLD, stSAFE], let d := commanded m
     let g := ring 262143 d
     g.typ = 0 ∧ fetches 262143 d = true ∧ descCheck g (descOf command g.tpos) = 0 ∧ d.rings.held = [] ∧ mstate d = m ∧
     fieldRefuses d = false ∧ (blk 0 0).checkGen = false) ∧
    (∀ op ∈ [opNOP, opSTART, opSTOP, opCOMMIT, opENTER_SAFE, opRESUME, opRESET], blkOk op (blk 0 0) = true ∧ blkOk op (blk 0 1) = false) ∧
    (∀ p ∈ [0, 5], blkOk opTAKE (blk 0 p) = true) ∧
    (∀ x ∈ [(opSHUTTER, 0), (opSHUTTER, 1), (opVALVE, 2), (opVALVE, 3), (opRELAY, 4), (opSPARE, 5)], ∀ p ∈ [1, 2], blkOk x.1 (blk x.2 p) = true) ∧
    (∀ p ∈ [1, 6], blkOk opHOUSEKEEPING (blk 0 p) = true) ∧ (∀ p ∈ [1, 2], blkOk opINDICATOR (blk 0 p) = true) ∧
    (∀ op ∈ [opSHUTTER, opVALVE, opRELAY, opSPARE, opHOUSEKEEPING], blkOk op (blk 7 1) = false) ∧
    ({ blk 0 0 with checkGen := true, gen := 9 } : CmdBlk).gen % 256 ≠ fld GLB_MSTATE.GEN (commanded stLIVE) ∧
    opLegal opSTART (commanded stLIVE) = false ∧ opLegal opSHUTTER (commanded stSAFE) = false ∧
    fieldRefuses (dev [mode stLIVE]) = true ∧
    (let d := setFld FLD_XSTATE.STATE 2 (modXh (fun x => { x with inh := true }) (commanded stLIVE))
     let b : CmdBlk := { blk 5 1 with checkGen := true, gen := 9 }
     blkOk opSPARE b = true ∧ fieldRefuses d = true ∧ xUp d = true ∧ b.gen % 256 ≠ ownGen opSPARE b d ∧
     ({ b with gen := 0 } : CmdBlk).gen % 256 = ownGen opSPARE b d ∧ xUp (dev [mode stLIVE]) = false) ∧
    commitRefused (commanded stLIVE) = true ∧
    commitRefused (dev [mode stLIVE, setFlag CAL_STATUS.RG_DIRTY true]) = false ∧
    (let d := commanded stLIVE
     inTake d = false ∧ herdOn d = false ∧ isFollower d = false ∧ takeBusy d = false ∧ modeRefused (resolveMode tmSHUTTERLESS d) d = false ∧
     modeRefused (resolveMode tmDEPOT_HI d) d = true) := by
  decide +kernel

theorem witness_HostCommands_resume_and_indicator :
    resumeOk (commanded stSAFE) = true ∧ resumeOk (dev [mode stSAFE, power (fun p => { p with stuck := true })]) = false ∧
    ∀ k, k < 64 → flag (IND_NODE.DIRTY k) ((List.range 64).foldl (fun d k => setFlag (IND_NODE.DIRTY k) false d) (commanded stLIVE)) = false := by
  decide +kernel

/-- The last tick of a slate in state `m`, with commands and events of the kinds that wait: START, STOP and RESUME as commands of an
ENABLED ring, and what `f` makes of the rest. -/
def boundaryOf (m : Nat) (kinds : List Nat) (f : Dev → Dev) : Dev :=
  f { commanded m with
      sl := { running := true, endDue := true, slot := nslots (commanded m) - 1 }
      waits := kinds.map (fun k => ⟨k, if k ≤ 3 then some ⟨262143, 1, 0, 9, k, 0, 0, 0⟩ else none⟩) }

/-- A command of each kind acts, or is superseded, in every state that a boundary moves. -/
theorem witness_BoundariesMoveTheStateAndTheTake_states :
    ∀ x ∈ [(stIDLE, [wkSTART]), (stIDLE, [wkSTART, wkCOLD]), (stLIVE, [wkSTOP]), (stLIVE, [wkSTOP, wkCOLD]), (stLIVE, []),
        (stBOOT, [wkBOOT]), (stBOOT, []), (stSAFE, [wkRESUME]), (stCOLD, [wkWARM]), (stCOLD, [])],
      let d := boundaryOf x.1 x.2 id
      slateEnds d = true ∧ mstate d = x.1 ∧ d.waits.map (·.kind) = x.2 ∧
      (∀ w ∈ d.waits, w.kind ≤ 3 → ∃ c ∈ w.cmd, (ring c.ring d).on = true ∧ (ring c.ring d).epoch = c.epoch) ∧
      linkBlocked d = false ∧ d.rings.held = [] ∧ d.pw.stuck = false := by
  decide +kernel

theorem witness_BoundariesMoveTheStateAndTheTake_engines_and_groups :
    (let d := boundaryOf stLIVE [wkSTOP] (fun d => setFld (ENG_STATE.STATE 1023) enSETTLE (setFld (ENG_STATE.STATE 0) enRUN d))
     engState 0 d = enRUN ∧ engState 1023 d = enSETTLE) ∧
    (let d := boundaryOf stIDLE [wkSTART] (setFld (ENG_STATE.STATE 1023) enIDLE)
     engState 1023 d = enIDLE ∧ (engOf 1023 d).bulkOwed = false) ∧
    isLive (boundaryOf stIDLE [] id) = false ∧
    ∀ act ∈ [0, 1, 2, 3], ∀ st0 ∈ [0, 1, 2, 3],
      let d := boundaryOf stIDLE [] (fun d => setFld (grpState 127) st0 (modGrp 127 (fun g => { g with act := act, fails := 2 }) d))
      (grp 127 d).act = act ∧ fld (grpState 127) d = st0 := by
  decide +kernel

/-- The take that `k` describes is in phase `p` at a boundary of LIVE. -/
def taking (p : Nat) (kinds : List Nat) (k : Take → Take) : Dev :=
  boundaryOf stLIVE kinds (fun d => modTake k (setFld TAKE_STATUS.PHASE p (setFlag GLB_MSTATE.TAKE true d)))

theorem witness_BoundariesMoveTheStateAndTheTake_take_begins :
    ∀ n ∈ [1, 2, 3, 4, 5], let d := boundaryOf stLIVE [] (modTake (fun t => { t with next := some ⟨n, 0, ttHOST, 1⟩ }))
      mstate d = stLIVE ∧ d.waits = [] ∧ d.take.ending = false ∧ d.take.next = some ⟨n, 0, ttHOST, 1⟩ ∧ inTake d = false ∧ herdTakes d = false ∧
      flag GLB_MSTATE.FIELD_ABSENT d = false := by
  decide +kernel

/-- Every phase goes on: with slates left and none, the shutter's sequence ended or not, and opened early by a failed close. -/
theorem witness_BoundariesMoveTheStateAndTheTake_take_goes_on :
    (∀ p ∈ [phCLOSE, phSETTLE_C, phOFFSET, phWARM, phEMIT, phOPEN], ∀ left ∈ [1, 2], ∀ ended ∈ [false, true], ∀ cause ∈ [0, tcSHUTTER],
      let d := taking p [] (fun t => { t with mode := 1, left := left, shEnded := ended, cause := cause })
      inTake d = true ∧ phase d = p ∧ d.take.next = none ∧ takeLast d = false ∧ d.take.left = left ∧ d.take.shEnded = ended ∧
      d.take.cause = cause ∧ meanSpread d ≤ 16 * d.take.lat.spread) ∧
    (∀ i ∈ [0, 1], let d := taking phBLOCKS [] (fun t => { t with mode := 2, block := 15, inBlock := i })
     inTake d = true ∧ phase d = phBLOCKS ∧ takeLast d = false ∧ (i + 1 < d.take.blockLen ↔ i = 0)) ∧
    (∀ p ∈ [phDEPOT, phSETTLE_O], let d := taking p [] (fun t => { t with left := 2 })
     inTake d = true ∧ phase d = p ∧ takeLast d = false) ∧
    (let d := modRegion 191 (fun r => { r with ok := true, m := 3201 }) (modRegion 0 (fun r => { r with ok := true })
       (taking phOFFSET [] (fun t => { t with mode := 1, left := 8 })))
     phase d = phOFFSET ∧ d.take.cause = 0 ∧ 16 * d.take.lat.spread < meanSpread d ∧ takeLast d = false) := by
  decide +kernel

theorem witness_BoundariesMoveTheStateAndTheTake :
    (∀ x ∈ [(1, 0, true), (1, 0, false), (3, 0, false), (1, tcSHUTTER, false)],
      let d := taking (if x.1 = 3 then phDEPOT else phSETTLE_O) [] (fun t => { t with mode := x.1, left := 1, worked := true, cause := x.2.1, committed := x.2.2 })
      inTake d = true ∧ takeLast d = true ∧ d.take.worked = true ∧ d.take.next = none ∧ d.herd.queue = [] ∧ d.take.mode = x.1 ∧
      d.take.cause = x.2.1 ∧ d.take.committed = x.2.2 ∧ d.take.ending = false ∧ d.waits = []) ∧
    (let d := taking phEMIT [wkSTOP] (fun t => { t with mode := 1, left := 3 })
     mstate d = stLIVE ∧ d.waits.any (fun w => w.kind == wkSTOP) = true ∧ d.waits.any (fun w => w.kind == wkCOLD) = false ∧
     inTake d = true ∧ takeLast d = false ∧ d.take.ending = false ∧ d.take.next = none ∧ d.take.cause = 0 ∧ d.herd.queue = []) := by
  decide +kernel

/-- A dailies entry with one payload unit. -/
def oneUnit : Daily := ⟨6, 3, 9, 7, 6, [1, 2, 3, 4]⟩

theorem witness_EventSourcesVectorsAndDailies :
    reachable (dev [mode stLIVE]) ∧ (∀ i, i < 32 → flag (evtStat (32 * 7 + i)) (dev [mode stLIVE]) = false) ∧
    (∀ k ∈ [0, 25, 144, 255], reservedSource k = false) ∧ reservedSource 253 = true ∧
    (let d := dev [mode stLIVE, linked, setFlag (evtEn 25) true, setFlag (MSIX_CTRL.MASK 25) false]
     reachable d ∧ isS d = false ∧ flag (evtStat 25) d = false ∧ flag (evtEn 25) d = true ∧ d.link.msixEnable = true ∧
     d.link.functionMask = false ∧ linkBlocked d = false ∧ fld (evtVec 25) d = 25 ∧ flag (MSIX_CTRL.MASK 25) d = false) ∧
    flag (evtStat 25) (dev [mode stLIVE, setFlag (evtStat 25) true]) = true ∧
    -- EN set while STAT is 1, with the message free to go, and held up
    (∀ m : Bool, let d := dev [mode stLIVE, linked, setFlag (evtStat 255) true, setFlag (MSIX_CTRL.MASK (255)) false,
        fun d => { d with link := { d.link with functionMask := m } }]
     reachable d ∧ (0x80000000#32).getLsbD (255 % 32) = true ∧ flag (evtEn 255) d = false ∧ flag (evtStat 255) d = true ∧
     d.link.msixEnable = true ∧ d.link.functionMask = m ∧ linkBlocked d = false ∧ fld (evtVec 255) d = 255 ∧
     flag (MSIX_CTRL.MASK 255) d = false) ∧
    (let d := dev [mode stLIVE, linked, msixSetPending 255 true]
     reachable d ∧ d.link.msixEnable = true ∧ d.link.functionMask = false ∧ linkBlocked d = false ∧
     (∀ k, k < 256 → msixPending k d = true → k = 255) ∧ msixPending 255 d = true) ∧
    (let g : Ring := { posted 7 rgENABLED with cur := some (filling 168), w2 := 0xE4#32 }
     let d := dev [mode stLIVE, linked, ringOf 5 g, fun d => { d with evt := { queue := [oneUnit] } }]
     d.evt.queue = [oneUnit] ∧ d.rings.tab.find? (fun x => x.2.st == rgENABLED && x.2.typ == 7) = some (5, g) ∧ ring 5 d = g ∧
     linkBlocked d = false ∧ (filling 168).used + oneUnit.bytes.length ≤ (filling 168).desc.len ∧ g.each = false) ∧
    (dev []).rings.tab.find? (fun x => x.2.st == rgENABLED && x.2.typ == 7) = none := by
  unfold reachable; decide +kernel

/-- The management port after reset of a LIVE module, and the same in the compatibility format with LEN `n`. -/
def port : Dev := dev [mode stLIVE]
def compatPort (n : Nat) : Dev := dev [mode stLIVE, setFlag MGP_STATUS.COMPAT_IF true, setFlag MGP_CFG.COMPAT true, setFld MGP_LEN.LEN n, modMgp (fun m => { m with len := n })]

theorem witness_ManagementPortFrames_at_rest : portRests false port ∧ portRests true (compatPort 24) ∧ portRests true (compatPort 56) := by
  refine ⟨?_, ?_, ?_⟩ <;> (unfold portRests portIdle; decide +kernel)

/-- The port between frames, with the reply to a command of operation code `op` at word `w` to shift out. -/
def portReply (op : Nat) (words : Option Nat) (w : Nat) (d : Dev) : Dev :=
  modMgp (fun m => { m with reply := { m.reply with op := op, words := words, waddr := w } }) d

/-- READ of TAKE_CFG and TAKE_LIM, of one mirror, READ_MIRROR of it, and a compatibility READ. -/
theorem witness_ManagementPortFrames_replies :
    portAnswers false 1 (some 2) (portReply 1 (some 2) (TAKE_CFG.addr / 4) port) ∧
    portAnswers false 1 (some 1) (portReply 1 (some 1) 0x3440 port) ∧ portAnswers false 3 (some 1) (portReply 3 (some 1) 0x3440 port) ∧
    portAnswers true 1 none (portReply 1 none (TAKE_CFG.addr / 4) (compatPort 88)) := by
  refine ⟨?_, ?_, ?_, ?_⟩ <;> (unfold portAnswers portIdle; decide +kernel)

theorem witness_ManagementPortFrames_words :
    (∀ w ∈ [TAKE_CFG.addr / 4, TAKE_LIM.addr / 4], inBlock (TAKE_CFG.addr / 4) w = true ∧ wordFault w false port = none ∧ 4 * w ∈ plainRegs) ∧
    TAKE_CFG.addr / 4 + 1 = TAKE_LIM.addr / 4 ∧ 4 * 0x3440 = 0xD100 + 4 * 0 ∧ mirrorAddr (4 * 0x3440) = true ∧
    (regInfo (4 * 0x3440)).isSome = true ∧ mpQb port + mpQb port * 2 = 96 := by
  decide +kernel

/-- A READ of two words shifts out its status word and both values. -/
theorem test_port_read_reply :
    (let d := portReply 1 (some 2) (TAKE_CFG.addr / 4) (wrReg TAKE_LIM.addr 0x1234#32 (wrReg TAKE_CFG.addr 0x98760102#32 port))
     ((mpNop 96 false { d with mgp := { d.mgp with reply := { d.mgp.reply with count := 2 } } }).out =
       [.mpReply 96 0x100000029876010200001234])) := by decide +kernel

theorem witness_ManagementPortFrames :
    (∀ i, i < mpCount 2 → inBlock 0x2C00 (0x2C00 + i) = true ∧ wordFault (0x2C00 + i) false port = none) ∧
    inBlock 0x2C00 0x2C00 = true ∧ wordFault 0x2C00 true port = none ∧
    (∀ i, i < mpCount 1 → inBlock 0x3440 (0x3440 + i) = true ∧ wordFault (0x3440 + i) false port = none ∧ mirrorAddr (4 * (0x3440 + i)) = true) ∧
    mpQb port + mpQb port * mpCount 1 = 64 ∧ mpQb (compatPort 56) = 32 ∧ 31 < mpQb port ∧ 23 < 24 ∧
    ((List.range 8).filter (fun i => !([2, 3, 4, 5] : List Nat).contains i)).length ≤ 4 ∧
    (0#32).toNat % 2 ^ 24 = 0 ∧ (0#32).toNat / 2 ^ 24 = fld GLB_MSTATE.GEN port ∧ (0xFF000000#32).toNat / 2 ^ 24 ≠ fld GLB_MSTATE.GEN port ∧
    auxOn port = true ∧ port.mgp.reply.reads = false ∧ port.mgp.reply.started ≤ 1 ∧ port.mgp.buf = [] := by
  decide +kernel

theorem witness_ManagementPortFrames_issue_and_fetch :
    (let d := dev [mode stLIVE, modMgp (fun m => { m with buf := [(TAKE_CFG.addr / 4, 0x012C1E24)] })]
     d.mgp.buf = [(TAKE_CFG.addr / 4, 0x012C1E24)] ∧ 4 * (TAKE_CFG.addr / 4) ∈ plainRegs ∧ reachable d ∧
     encodingAt TAKE_CFG.addr (valueLeft TAKE_CFG.addr 0x012C1E24#32 d) d = true) ∧
    wordFault (SLATE_TRIM.addr / 4) true (dev []) = some 2 ∧
    (let d := dev [mode stLIVE, setFlag MGP_STATUS.ACTIVE true, modMgp (fun m => { m with reply := { m.reply with
        op := 1, words := some 2, got := 1, waddr := 0x2C00 } })]
     auxOn d = true ∧ d.mgp.reply.recovery = false ∧ d.mgp.reply.started < d.mgp.reply.got + 1 ∧ inBlock 0x2C00 0x2C01 = true ∧ wordFault 0x2C01 false d = none ∧ flag MGP_STATUS.ACTIVE d = true) := by
  unfold reachable; decide +kernel

theorem witness_SensorsPowerAndPattern :
    auxOn (dev []) = true ∧ mstate (dev [mode stLIVE]) ≠ stAUX ∧ mstate (dev [mode stLIVE]) ≠ stOFF ∧
    flag GAF_STATUS.OVER (dev [mode stLIVE]) = false ∧ auxOn (dev [mode stCOLD]) = true ∧
    -2560 ≤ (coldest (dev [mode stCOLD])).2 ∧ fld GAF_SPREAD.SPREAD (dev [mode stCOLD]) ≤ 200 ∧ reachable (dev [mode stLIVE]) := by
  unfold reachable; decide +kernel

/-- Every sensor has measured `c` before, with `r` repeats and `o` windows outside the band. -/
def sensed (c : SensCount) (r o : Nat) (m : Nat) : Dev :=
  dev [mode m, fun d => { d with gaf := { d.gaf with
    sens := (List.range 200).map (fun n => (n, { last := [0], prev := some c, reps := r, outs := o })) } }]

/-- Counts at both ends of the band of -70 to +160 C and beyond it, repeated and not; and readings at the critical and at the
SAFE limit. -/
theorem witness_SensorsPowerAndPattern_window :
    (∀ c ∈ [-4480, 10240], ∀ n ∈ [0, 199], let d := sensed 5 15 3 stLIVE
     let t := trimmed n c d;
     -70 * 64 ≤ t ∧ t ≤ 160 * 64 ∧ (sensor n d).prev ≠ some c ∧ (sensor n d).broken = false) ∧
    (∀ c ∈ [-4481, 10241], let d := sensed 5 0 3 stLIVE
     let t := trimmed 0 c d;
     ¬ (-70 * 64 ≤ t ∧ t ≤ 160 * 64) ∧ 3 ≤ (sensor 0 d).outs) ∧
    (let d := sensed 5 15 0 stLIVE
     (sensor 0 d).prev = some 5 ∧ 15 ≤ (sensor 0 d).reps ∧ (sensor 0 d).broken = false) ∧
    safeFrom (dev [mode stLIVE]) = true := by
  decide +kernel

/-- Windows that leave the hottest zone at the critical limit, and at both ends of the SAFE range. -/
theorem witness_SensorsPowerAndPattern_hottest :
    ∀ c ∈ [8000, 7360, 7807], (hottest (sensorWindows c [] (dev [mode stLIVE]))).2 = c := by
  decide +kernel

/-! ### The crossing and the field side -/

/-- A powered field companion in mode `m` (0 SAFE, 1 RUN) with one message on its wire, as `f` makes the rest. -/
def fielded (m : Nat) (msg : XMsg) (f : Field → Field) : Dev :=
  dev [mode stLIVE, modFl (fun x => f { x with on := true, mode := m, wire := [msg] })]

theorem witness_FieldSafeEndsAtAHeartbeat :
    let beat : XMsg := ⟨1, 0, 0⟩
    (∀ x ∈ [(false, false), (true, false), (false, true)],
      let d := fielded 0 beat (fun f => { f with low := x.1, die := x.2 })
      fieldArrives 1 d = some beat ∧ d.fl.mode = 0 ∧ d.fl.low = x.1 ∧ d.fl.die = x.2) ∧
    mstate (dev [mode stSAFE]) = stSAFE := by
  decide +kernel

/-- The first message on the host end's wire, on a crossing that is UP. -/
def hears (typ p : Nat) : Dev :=
  dev [mode stLIVE, setFld FLD_XSTATE.STATE 2, setFlag GLB_MSTATE.FIELD_ABSENT false, modXh (fun x => { x with wire := [⟨typ, 3, p⟩] })]

/-- What the hypotheses on messages that arrive say of that module (for every statement on what the host end receives). -/
theorem hears_arrives (typ p : Nat) : arrivesUp typ ⟨typ, 3, p⟩ (hears typ p) := by
  have e : hostArrives typ (hears typ p) = if hostEndOn (hears typ p) && typ == typ then some ⟨typ, 3, p⟩ else none := rfl
  refine ⟨?_, by show xState (dev [mode stLIVE, setFld FLD_XSTATE.STATE 2, setFlag GLB_MSTATE.FIELD_ABSENT false]) = 2; decide +kernel, rfl⟩
  have h : hostEndOn (hears typ p) = true := by
    show hostEndOn (dev [mode stLIVE, setFld FLD_XSTATE.STATE 2, setFlag GLB_MSTATE.FIELD_ABSENT false]) = true
    decide +kernel
  rw [e, h]; simp

/-- A tagged message `e` awaits its answer at the host end. -/
def awaiting (e : XPend) (typ p : Nat) : Dev := modXh (fun x => { x with pend := [e] }) (hears typ p)

theorem witness_HostEndActsOnMessages_gen :
    let p := 2 ^ 45 + 7 * 2 ^ 35
    (modXh (fun x => { x with seen := some 4, told := some (1, true, false) }) (hears 0x18 p)).xh.seen = some 4 ∧ bitsN p 46 45 = 1 ∧
    bitsN p 42 35 = 7 ∧ 7 ≠ (4 + 1) % 256 := by
  decide +kernel

theorem witness_HostEndActsOnMessages :
    mirrorOk 0 = true ∧ (∀ k ∈ [64, 70], mirrorOk k = true ∧ bitsN (k * 2 ^ 32 + 4) 38 32 = k ∧ bitsN (k * 2 ^ 32 + 4) 2 0 = acDECAY) ∧
    flag GLB_MSTATE.FIELD_ABSENT (hears 0x12 0) = false ∧ (hears 0x16 0).take.shMove = (false, false) ∧
    (modXh (fun x => { x with told := some (1, false, false), since := some (1, true, false) }) (hears 0x18 0)).xh.since = some (1, true, false) ∧
    (let e : XPend := ⟨7, 6, 0, 1, .regWr 0xD140 5⟩
     let y : XPend := ⟨8, 6, 0, 0, .regWr 0xD140 6⟩
     let d := modXh (fun x => { x with pend := [e, y] }) (hears 0x11 (7 * 2 ^ 39))
     xPendOf (pTag (7 * 2 ^ 39)) d = some e ∧
     (d.xh.pend.eraseP (fun x => x.tag == pTag (7 * 2 ^ 39))).find? (fun z => writesReg 0xD140 z.act) = some y ∧ y.tries = 0) ∧
    bitsN (5 * 2 ^ 44) 46 44 < 6 ∧ bitsN (5 * 2 ^ 36) 38 36 < 6 ∧
    (∀ k ∈ [1, 3, 4, 5, 8, 9], bitsN (k * 2 ^ 43) 46 43 = k) ∧
    (∀ k ∈ [1, 2, 3, 4, 6, 7], bitsN (k * 2 ^ 40) 43 40 = k) ∧ (∀ k ∈ [1, 2], bitsN (k * 2 ^ 45) 46 45 = k) ∧
    (modXh (fun x => { x with echo := some (255, 0) }) (hears 0x1A (255 * 2 ^ 39))).xh.echo = some (pTag (255 * 2 ^ 39), 0) ∧
    xPendOf (pTag (7 * 2 ^ 39)) (awaiting ⟨7, 6, 0, 1, .regWr 0xD140 5⟩ 0x11 (7 * 2 ^ 39 + 3 * 2 ^ 36)) = some ⟨7, 6, 0, 1, .regWr 0xD140 5⟩ ∧
    bitsN (7 * 2 ^ 39 + 3 * 2 ^ 36) 38 36 = 3 ∧
    xPendOf 7 (awaiting ⟨7, 5, 0, 1, .shotWr 0xD400 5⟩ 0x11 (7 * 2 ^ 39)) = some ⟨7, 5, 0, 1, .shotWr 0xD400 5⟩ ∧
    bitsN (7 * 2 ^ 39) 38 36 = 0 := by
  decide +kernel

theorem witness_HousekeepingRecordsReachTheirRings :
    (modXh (fun x => { x with beat := some (4194303, 2 ^ 60) }) (hears 0x13 5)).xh.beat = some (4194303, 2 ^ 60) ∧
    (∀ k ∈ [1, 3, 4, 5, 8, 9], bitsN (k * 2 ^ 43) 46 43 = k) := by
  decide +kernel

theorem witness_HostEndLimitsAndForwardedWrites :
    (let d := dev [mode stLIVE, setFld FLD_XSTATE.STATE 2, setFlag GLB_MSTATE.FIELD_ABSENT false]
     mainRuns d = true ∧ xState d = 2 ∧ isS d = false ∧ served d = true ∧ auxOn d = true ∧
     flag GLB_MSTATE.FIELD_ABSENT d = false ∧ wrPend d < 16) ∧
    (∀ e ∈ [(⟨255, 6, 0, 0, .regWr 0xD140 5⟩ : XPend), ⟨255, 4, 0, 1, .plain⟩, ⟨255, 4, 0, 2, .plain⟩, ⟨255, 4, 0, 3, .plain⟩, ⟨255, 0x0A, 0, 3, .plain⟩],
      let d := dev [mode stLIVE, modXh (fun x => { x with pend := [e] })]
      xPendOf 255 d = some e ∧ xIsSent 255 d = true ∧ mainRuns d = true) ∧
    xPrio 4 = 3 ∧ xPrio 0x0A ≠ 3 ∧
    (dev [modXh (fun x => { x with echo := some (1, 0) })]).xh.echo.isSome = true ∧
    -- an earlier write of the register awaits its answer, or not
    ([(⟨255, 6, 0, 1, .regWr 0xD140 5⟩ : XPend)].any (fun e => writesReg 0xD140 e.act) = true ∧
     [(⟨255, 6, 0, 1, .regWr 0xD140 5⟩ : XPend)].any (fun e => writesReg 0xD144 e.act) = false) ∧
    ((regInfo 0xD140).map (·.writable)) = some true := by
  decide +kernel

theorem witness_CrossingEndsSendTheirMessages :
    (let d := dev [mode stLIVE, modXh (fun x => { x with on := true }), modFl (fun f => { f with on := true })]
     d.xh.on = true ∧ mainRuns d = true ∧ mstate d ≠ stSAFE ∧ d.fl.on = true ∧ d.fl.tx.cur = none ∧ d.fl.tx.queue = [] ∧ fFld FLD_FID.REV d ≠ 1 ∧
     mfind d.fl.sent 0 ≠ some (fieldValue 0 d, fieldGen 0 d)) ∧
    mstate (dev [mode stSAFE]) = stSAFE ∧ mirrorOk 0 = true ∧ mirrorOk 16 = true ∧
    (let x : XTx := { cur := some (⟨6, 7, none⟩, 15) }
     let d := dev [mode stLIVE, modXh (fun h => { h with tx := x }), modFl (fun f => { f with on := true, tx := x })]
     d.xh.tx.cur = some (⟨6, 7, none⟩, 15) ∧ d.fl.on = true ∧ d.fl.tx.cur = some (⟨6, 7, none⟩, 15) ∧ mainRuns d = true) ∧
    (xCrcOk 1#64 && xTypeOk true 1#64) = false ∧ (xCrcOk 1#64 && xTypeOk false 1#64) = false ∧ xCrcOk 1#64 = false ∧
    xCrcOk 149#64 = true ∧ (xCrcOk 149#64 && xTypeOk true 149#64) = false ∧ (xCrcOk 149#64 && xTypeOk false 149#64) = false := by
  decide +kernel

theorem witness_FieldCompanionModesAndHeartbeats :
    (let m : XMsg := ⟨1, 0, 0⟩
     let d := fielded 0 m id
     fieldArrives 1 d = some m ∧ d.fl.mode = 0 ∧ d.fl.low = false ∧ d.fl.die = false ∧ d.fl.on = true ∧
     (fielded 0 m (fun f => { f with die := true })).fl.die = true ∧ fieldArrives 1 (fielded 0 m (fun f => { f with die := true })) = some m) ∧
    mstate (dev [mode stSAFE]) = stSAFE ∧
    (let m : XMsg := ⟨2, 0, 2 ^ 46⟩
     let d := fielded 1 m id
     fieldArrives 2 d = some m ∧ d.fl.mode = 1 ∧ fFlag (ACT_CFG.FOLLOW 4) d = true ∧ d.fl.on = true ∧ d.fl.mode ≠ 0) ∧
    fieldArrives 3 (fielded 1 ⟨3, 0, 0⟩ id) = some ⟨3, 0, 0⟩ ∧
    (let d := dev []
     d.pw.vveh = false ∧ isS d = false ∧ (dev [power (fun p => { p with vveh := true })]).pw.vveh = true) ∧
    fieldArrives 0x0B (fielded 1 ⟨0x0B, 0, 5⟩ id) = some ⟨0x0B, 0, 5⟩ ∧
    fieldArrives 0x0C (fielded 1 ⟨0x0C, 0, 5 * 2 ^ 36⟩ id) = some ⟨0x0C, 0, 5 * 2 ^ 36⟩ ∧ bitsN (5 * 2 ^ 36) 38 36 = 5 ∧
    (let d := fielded 1 ⟨0x0A, 0, 0⟩ id
     fieldArrives 0x0A d = some ⟨0x0A, 0, 0⟩ ∧ d.fl.tags.find? (fun x => x.1 == pTag 0) = none ∧ d.fl.tx.queue = [] ∧ d.fl.tx.cur = none) := by
  decide +kernel

theorem witness_FieldCompanionActsOnTaggedMessages_forms :
    (∀ x ∈ [(acOFF, acHOLDING), (acOFF, acOFF)], let m : XMsg := ⟨4, 0, 2 ^ 23⟩
     let d := fielded 1 m (fun f => { f with chans := [(0, { st := x.1 }), (1, { st := x.2 })] })
     arrivesNew 4 m d ∧ actRefused 0 d = false ∧ (chan 0 d).st = acOFF ∧ (chan 0 d).held = false ∧ exclusive 0 d = true ∧
     (chan (partner 0) d).busy = decide (x.2 = acHOLDING) ∧ listOk (stepLimit 0 d) (shotList 0 d) = true ∧ modelOn 0 d = true ∧
     fFlag (ACT_CFG.POLICY 0) d = false ∧ heatRefused 0 (shotList 0 d) d = false) ∧
    (∀ x ∈ [acOFF, acHOLDING], let m : XMsg := ⟨4, 0, 2 ^ 23⟩
     let d := fielded 1 m (fun f => { f with chans := [(0, { st := x })], lists := [(0, 0)] })
     arrivesNew 4 m d ∧ actRefused 0 d = false ∧ (chan 0 d).st = x ∧ (chan 0 d).held = false ∧
     (chan (partner 0) d).busy = false ∧ listOk (stepLimit 0 d) (shotList 0 d) = false) ∧
    (let m : XMsg := ⟨4, 0, 2 * 2 ^ 23⟩
     let d := fielded 1 m (fun f => { f with chans := [(0, { st := acWAITING, held := true })] })
     arrivesNew 4 m d ∧ actRefused 0 d = false ∧ (chan 0 d).st = acWAITING) := by
  unfold arrivesNew; refine ⟨?_, ?_, ?_⟩ <;> decide +kernel

theorem witness_FieldCompanionActsOnTaggedMessages :
    (let m : XMsg := ⟨4, 0, 5 * 2 ^ 27 + 2 ^ 23⟩
     let d := fielded 1 m id
     arrivesNew 4 m d ∧ bitsN m.p 29 27 = 5 ∧ bitsN m.p 26 23 = 1 ∧ bitN m.p 38 = false ∧ actRefused 5 d = false ∧
     (chan 5 d).st = acOFF ∧ (chan 5 d).held = false ∧ exclusive 5 d = false ∧ d.fl.inh = false ∧
     listOk (stepLimit 5 d) (shotList 5 d) = true ∧ modelOn 5 d = false) ∧
    (let m : XMsg := ⟨4, 0, 5 * 2 ^ 27 + 2 * 2 ^ 23⟩
     let d := fielded 1 m (fun f => { f with chans := [(5, { st := acRUNNING })] })
     arrivesNew 4 m d ∧ bitsN m.p 26 23 = 2 ∧ actRefused 5 d = false ∧ (chan 5 d).driven = true) ∧
    (let m : XMsg := ⟨5, 0, 5 * 2 ^ 36 + 31 * 2 ^ 31 + 0x1007D0⟩
     let d := fielded 1 m id
     arrivesNew 5 m d ∧ bitsN m.p 38 36 < 6 ∧ stepOk (stepLimit 5 d) (bitsN m.p 23 0) = true) ∧
    (∀ p ∈ [2 * 2 ^ 32 + 1, 100 * 2 ^ 32 + 4000 * 16], let m : XMsg := ⟨6, 0, p⟩
     arrivesNew 6 m (fielded 1 m id) ∧ mirrorOk (bitsN m.p 38 32) = true ∧ regWrOk (bitsN m.p 38 32) (bitsN m.p 31 0) = true) ∧
    (∀ a ∈ [1, 2, 3, 4, 5, 6], let m : XMsg := ⟨7, 0, a * 2 ^ 26⟩
     fieldArrives 7 (fielded 0 m id) = some m ∧ bitN m.p 38 = false ∧ bitsN m.p 29 26 = a) ∧
    (let m : XMsg := ⟨8, 0, 63 * 2 ^ 33⟩
     arrivesNew 8 m (fielded 1 m id)) ∧
    (let m : XMsg := ⟨9, 0, 63 * 2 ^ 33⟩
     arrivesNew 9 m (fielded 1 m id) ∧ (fielded 1 m id).fl.mode ≠ 0 ∧ bitN m.p 32 = false) := by
  unfold arrivesNew; refine ⟨?_, ?_, ?_, ?_, ?_, ?_, ?_⟩ <;> decide +kernel

theorem witness_FieldCompanionActsOnTaggedMessages_repeated :
    (∀ a ∈ [1, 2, 3, 4, 5, 6], bitsN (255 * 2 ^ 39 + a * 2 ^ 26) 29 26 = a ∧ pTag (255 * 2 ^ 39 + a * 2 ^ 26) = 255) ∧
    bitsN (255 * 2 ^ 39 + 2 * 2 ^ 23) 26 23 = 2 ∧
    ∀ t ∈ [4, 5, 6, 7, 8, 9, 10], let m : XMsg := ⟨t, 0, 255 * 2 ^ 39⟩
      let d := fielded 1 m (fun f => { f with tags := [(255, 0, 9)] })
      d.fl.tags.find? (fun y => y.1 == pTag m.p) = some (255, 0, 9) ∧ fieldArrives t d = some m ∧ bitsN m.p 26 23 ≠ 2 := by
  decide +kernel

theorem witness_HousekeepingConvertersServeTheScan :
    (∀ s ∈ [false, true], let d := dev [modFl (fun f => { f with on := true }), fSet HK_CFG.RUN 1, modHk (fun h => { h with scanning := s })]
     d.fl.on = true ∧ fFlag HK_CFG.RUN d = true ∧ d.fl.hk.scanning = s ∧ fFld HK_CFG.DEST d ≠ 1 ∧ fFld HK_CFG.CAL_MIN d ≠ 0) ∧
    (∀ b ∈ [false, true], let d := dev [modFl (fun f => { f with on := true })]
     (hkConv b d).busy = 0 ∧ (hkConv b d).pend = [] ∧ (hkConv b d).cal = false ∧ hkList b d ≠ []) ∧
    (∀ k ∈ [1, 2, 3], let d := dev [modFl (fun f => { f with on := true }), modConv true (fun c => { c with busy := k, ch := 6 })]
     (hkConv true d).busy = k ∧ (hkConv true d).ow = false ∧ (hkConv true d).inj = none ∧ (hkConv true d).ch = 6 ∧
     (true && (hkConv true d).ch == d.fl.hk.shCh) = false ∧ (hkConv true d).pend = [] ∧ (hkConv true d).cal = false ∧
     (hkConv true d).rest = []) := by
  decide +kernel

/-- Converter HKB or HKA of a powered field companion has just converted as `c`, with DEST `dest` and a message being sent; `h`
makes the rest of housekeeping. -/
def converted (b : Bool) (c : HkConv) (dest : Nat) (h : Hk → Hk) : Dev :=
  dev [modFl (fun f => { f with on := true, tx := { f.tx with cur := some (⟨0x10, 0, none⟩, 3) } }), fSet HK_CFG.DEST dest, modHk h,
    modConv b (fun _ => c)]

/-- A result of the shot list's own, late. -/
def injected : HkInj := ⟨5, 23, true, true, false, false⟩

theorem witness_HousekeepingConvertersServeTheScan_results :
    (∀ b ∈ [false, true], ∀ dest ∈ [0, 1, 2], ∀ ch ∈ [0, 5, 6, 23], ∀ ow ∈ [false, true], ∀ n ∈ [0, 255, 256],
      let d := converted b { busy := 1, ch := ch, ow := ow } dest (fun h => { h with buf := List.replicate n 7 })
      d.fl.on = true ∧ (hkConv b d).busy = 1 ∧ (hkConv b d).ch = ch ∧ (hkConv b d).ow = ow ∧ fFld HK_CFG.DEST d = dest ∧
      d.fl.tx.cur.isSome = true ∧ d.fl.hk.buf.length = n ∧ d.fl.hk.ovr = false ∧ (hkConv b d).inj = none) ∧
    (let d := converted true { busy := 1, ch := 23, inj := some injected } 0 id
     (hkConv true d).inj = some injected ∧ injected.shot = true ∧ injected.chan < 6) := by
  decide +kernel

theorem witness_HousekeepingConvertersServeTheScan_open_wire :
    ∀ m ∈ [1, 2], ∀ o ∈ [0, 32],
      let d := fSet HK_STAT.OPEN o (fSet HK_OW.MODES (m * 4 ^ 5) (converted false { busy := 1, ch := 5 } 0 (fun h => { h with test := true })))
      bitsN (fFld HK_OW.MODES d) 11 10 = m ∧ (bitN (fFld HK_STAT.OPEN d) 5 = true ↔ o = 32) ∧ (hkConv false d).ow = false ∧
      (hkConv false d).inj = none ∧ d.fl.hk.test = true := by
  decide +kernel

/-- HKA has converted the shared channel last, after HKB: they agree, differ by the window and by more, or one of them calibrated. -/
theorem witness_HousekeepingConvertersServeTheScan_plausibility :
    ∀ called ∈ [false, true], ∀ n ∈ [0, 7], ∀ p ∈ [false, true],
      let d := modFl (fun f => { f with plaus := p }) (modConv true (fun c => { c with shared := some 1000, called := called })
        (converted false { busy := 1, ch := 23 } 0 (fun h => { h with scanning := true, pass := n, fail := n })))
      let c := hkConv false d
      d.fl.hk.scanning = true ∧ c.inj = none ∧ d.fl.hk.test = false ∧ c.ow = false ∧ c.ch = d.fl.hk.shCh ∧ c.rest = [] ∧ c.pend = [] ∧
      c.cal = false ∧ (hkConv true d).rest = [] ∧ (hkConv true d).busy = 0 ∧ (hkConv true d).shared = some 1000 ∧
      d.fl.hk.b.called = called ∧ d.fl.hk.a.called = false ∧ fFld HK_PLAUS.WIN d < 1000 ∧ fFld HK_PLAUS.COUNT d ≤ 7 + 1 ∧
      0 + 1 < fFld HK_PLAUS.COUNT d := by
  decide +kernel

/-- Channel `n` runs the step word `w`, due. -/
def stepping (n w : Nat) : Dev :=
  dev [mode stLIVE, modFl (fun f => { f with on := true, mode := 1 }),
    modChan n (fun c => { c with st := acRUNNING, list := [w, 0x600000], due := true })]

theorem witness_ShotListSteps :
    ∀ n ∈ [0, 5], ∀ x ∈ [(1, 0x1007D0), (1, 0x1017D0), (2, 0x2017D0), (3, 0x300001), (4, 0x480000), (4, 0x400000), (5, 0x500080), (5, 0x500100), (6, 0x600000), (6, 0x680000)],
      let d := stepping n x.2
      d.fl.on = true ∧ (chan n d).st = acRUNNING ∧ (chan n d).due = true ∧ bitsN ((chan n d).list.getD (chan n d).step 0) 23 20 = x.1 ∧
      (chan n d).held = false := by
  decide +kernel

/-- REG, HOLD, WAIT for 500 mA or more and for 500 mA or less, and INJECT with WAITRES, each in its last period and before. -/
theorem witness_ChannelsInOperation_periods : ∀ w ∈ [0x1017D0, 0x2017D0, 0x30FA41, 0x38FA41, 0x480000], ∀ l ∈ [1, 2], ∀ g : Bool,
    let d := modChan 0 (fun c => { c with due := false, left := l, got := g }) (stepping 0 w)
    let c := chan 0 d
    d.fl.on = true ∧ c.st = acRUNNING ∧ c.due = false ∧ c.left = l ∧ c.got = g ∧ c.list.getD c.step 0 = w ∧ c.driven = true := by
  decide +kernel

theorem witness_ChannelsInOperation :
    (let d := modChan 0 (fun c => { c with due := false, left := 2 }) (stepping 0 0x2017D0)
     d.fl.on = true ∧ (chan 0 d).st = acRUNNING ∧ (chan 0 d).due = false ∧ bitsN ((chan 0 d).list.getD (chan 0 d).step 0) 23 20 = 2 ∧
     1 < (chan 0 d).left ∧ (chan 0 d).driven = true ∧ (chan 0 d).held = false) ∧
    (let d := dev [modFl (fun f => { f with on := true }), modChan 5 (fun c => { c with st := acDECAY })]
     (chan 5 d).st = acDECAY ∧ (chan 5 d).held = false ∧ fFlag (ACT_CFG.PAR (2 * (5 / 2))) d = paralleled 5 d) ∧
    (let d := dev [modFl (fun f => { f with on := true })]
     modelOn 0 d = true ∧ modelOn 5 d = false ∧ d.fl.on = true) := by
  decide +kernel

theorem witness_ChannelsInOperation_resistance :
    let c := chan 0 (dev [modFl (fun f => { f with on := true }), modChan 0 (fun c => { c with meas := some (1, 3), measI := some (800, false), measV := some (5000, false) })])
    c.meas = some (1, 3) ∧ c.measI = some (800, false) ∧ c.measV = some (5000, false) := ⟨rfl, rfl, rfl⟩

theorem witness_EmitterTestsAndIndicatorFrames :
    (∀ k ∈ [0, 14, 15], ∀ o ∈ [eoOFF, eoCHECK, eoHOST, eoTAKE], let d := dev [fun d => { d with emt := { d.emt with line := some k, due := o } }]
     d.emt.line = some k ∧ d.emt.due = o) ∧
    flag EMT_STATUS.PENDING (dev [setFlag EMT_STATUS.PENDING true]) = true ∧ flag EMT_STATUS.PENDING (dev []) = false ∧
    (let x : IndFrame := ⟨[1, 2, 3], false, 7⟩
     let d := dev [modFl (fun f => { f with on := true, frame := some x })]
     d.fl.frame = some x ∧ d.fl.on = true ∧ d.fl.queue = []) := by
  decide +kernel

/-! ### The nonvolatile store, the flash and the whole machine -/

/-- The store is ready in a LIVE module, with the operands in NVS_ADDR and passwords that differ by region and kind. -/
def store (page off len : Nat) : Dev :=
  dev [mode stLIVE, setFlag NVS_STATUS.READY true, setFlag NVS_STATUS.CNT_VALID true, setFld NVS_ADDR.PAGE page,
    setFld NVS_ADDR.OFFSET off, setFld NVS_ADDR.LEN len,
    fun d => { d with nvc := { d.nvc with keys := [(1, 2), (3, 4), (5, 6)] } }]

theorem witness_StoreCommands :
    (0xC00#32).toNat / 2 ^ 10 % 4 = 3 ∧ (0x800#32).toNat / 2 ^ 10 % 4 ≠ 3 ∧
    (let d := dev [mode stLIVE]
     reachable d ∧ flag NVS_STATUS.BUSY d = false ∧ flag NVS_STATUS.READY d = false) ∧
    reachable (dev [mode stLIVE, setFlag NVS_STATUS.BUSY true]) ∧ flag NVS_STATUS.BUSY (dev [mode stLIVE, setFlag NVS_STATUS.BUSY true]) = true ∧
    (∀ n ∈ [0, 1, 128, 129], let d := store 600 127 n
     reachable d ∧ flag NVS_STATUS.BUSY d = false ∧ flag NVS_STATUS.READY d = true ∧ fld NVS_ADDR.LEN d = n ∧ fld NVS_ADDR.PAGE d = 600) ∧
    keyPage 0 = true ∧ keyPage 600 = false ∧ regionOfPage 600 < 3 ∧ regionOfPage 2047 = 3 ∧
    (∀ r ∈ [0, 1, 2], ∀ k ∈ [0, 1], let d := setFlag (accOpen r k) true (setFlag (accLockout r) false (store 600 0 16))
     flag (accLockout r) d = false ∧ flag (accOpen r k) d = true) ∧
    nvsWritesOk (store 600 0 16) = true ∧
    (let d := setFlag GAF_STATUS.COLD_NV true (store 600 0 16)
     nvsWritesOk d = false ∧ fld GAF_STATUS.HOT d ≠ 4) ∧
    ((recShape 0x10).isSome = true ∧ keyRec 0x10 = false ∧ fld NVS_ADDR.LEN (store 0 0 (recLen 0x10)) = recLen 0x10 ∧
     (recShape 0x11).isSome = false) := by
  unfold reachable; decide +kernel

theorem witness_StoreCommands_passwords :
    (∀ r ∈ [0, 1, 2], flag (accLockout r) (setFlag (accLockout r) true (store 600 0 16)) = true) ∧
    (∀ r ∈ [0, 1, 2], ∀ k ∈ [0, 1], let d := setFlag (accLockout r) false (store 600 0 16)
     flag (accLockout r) d = false ∧ password r k d = 2 * r + k + 1 ∧
     pair64 NVS_PW_LO.addr NVS_PW_HI.addr d ≠ password r k d ∧
     pair64 NVS_PW_LO.addr NVS_PW_HI.addr (wrReg NVS_PW_LO.addr (BitVec.ofNat 32 (2 * r + k + 1)) d) = password r k d) ∧
    flag NVS_STATUS.CNT_VALID (store 600 0 16) = true ∧
    flag NVS_STATUS.CNT_VALID (setFlag NVS_STATUS.CNT_VALID false (store 600 0 16)) = false ∧
    fld (accTries 0) (setFld (accTries 0) 1 (store 600 0 16)) = 1 := by
  decide +kernel

theorem witness_StorePageOperations :
    (let d := dev []
     auxOn d = true ∧ flag NVS_STATUS.READY d = false ∧ d.nvc.early = none ∧ heldOf 6 d.nvc.held < 255 ∧
     heldOf 6 (modNvc (fun c => { c with held := [(6, 100), (7, 255), (6, 154)] }) d).nvc.held < 255) ∧
    mstate (dev [mode stLIVE]) ≠ stAUX ∧ mstate (dev [mode stLIVE]) ≠ stOFF ∧
    (let d := dev [setFlag NVS_STATUS.READY true]
     auxOn d = true ∧ flag NVS_STATUS.READY d = true ∧ flag NVS_STATUS.CNT_VALID d = false) ∧
    (∀ j ∈ [({ act := 1, page := 2047, off := 127, len := 128 } : NvsJob), { act := 2, page := 2047, off := 127, len := 128, phase := 1, data := List.replicate 128 1#8 }],
      let d := modNvc (fun c => { c with op := some .host, host := some j }) (dev [mode stLIVE])
      d.nvc.op = some .host ∧ d.nvc.host = some j ∧ mainRuns d = true ∧ j.len ≤ 128) ∧
    (modNvc (fun c => { c with op := some (.count 15 255) }) (dev [])).nvc.op = some (.count 15 255) ∧
    (modNvc (fun c => { c with op := some (.scrub 2047) }) (dev [])).nvc.op = some (.scrub 2047) ∧
    (modNvc (fun c => { c with op := some (.rewrite 2047 [15]) }) (dev [])).nvc.op = some (.rewrite 2047 [15]) := by
  decide +kernel

/-- A rewrite waits in COLD_NV while a scrub read ends; the passwords of the last region. -/
theorem witness_StorePageOperations_held :
    (let d := dev [setFlag GAF_STATUS.COLD_NV true, modNvc (fun c => { c with op := some (.scrub 0), weak := [(2047, [15])] })]
     d.nvc.op = some (.scrub 0) ∧ nvsWritesOk d = false ∧ (2047, [15]) ∈ d.nvc.weak ∧ (2047 : Nat) ≠ 0) ∧
    (dev [mode stLIVE]).nvc.keys.length = 3 := by
  decide +kernel

/-- A record job, the command's or the module's own, in a module that may write the store. -/
def recording (own : Bool) (j : NvsJob) : State :=
  st [mode stLIVE, if own = true then modNvc (fun c => { c with op := some .own, own := some j })
    else modNvc (fun c => { c with op := some .host, host := some j })]

theorem witness_StorePageOperations_job (own : Bool) (j : NvsJob) :
    let d := (recording own j).dev
    d.nvc.op = some (if own = true then .own else .host) ∧ (if own = true then d.nvc.own else d.nvc.host) = some j ∧
    mainRuns d = true ∧ nvsWritesOk d = true ∧ d.nvc.refNext = [] := by
  have m : mainRuns (dev [mode stLIVE]) = true ∧ nvsWritesOk (dev [mode stLIVE]) = true := by decide +kernel
  cases own <;> exact ⟨rfl, rfl, m.1, m.2, rfl⟩

/-- The phases' conditions at the first and the last page of a record of 16 pages a copy, and of one page. -/
theorem witness_StorePageOperations_records :
    recPages 0x10 = 16 ∧ recPages 0x20 = 1 ∧
    (∀ n ∈ [0, 30], n + 1 < 2 * recPages 0x10) ∧ 31 + 1 = 2 * recPages 0x10 ∧ 1 + 1 = 2 * recPages 0x20 ∧
    0 + 1 < recPages 0x10 ∧ 15 < recPages 0x10 ∧ ¬ 15 + 1 < recPages 0x10 ∧ 14 + 1 < recPages 0x10 ∧ recPages 0x10 ≤ 15 + 1 ∧
    (List.replicate 1948 5#8).length = 16 + recLen 0x10 := by
  refine ⟨?_, ?_, ?_, ?_, ?_, ?_, ?_, ?_, ?_, ?_, List.length_replicate⟩ <;> decide +kernel

/-- What both copies of a key record may hold as the last page is read: two valid ones with `a` and `b` as SEQ, one, or none. -/
theorem witness_StorePageOperations_copies :
    let page (seq : Nat) : List (BitVec 8) := (recImage 0x20 seq (List.replicate 16 5#8)) ++ List.replicate 96 0
    let seq (k : Nat) (l : List (BitVec 8)) : Nat := leNat (((if k = 0 then l.take 128 else l.drop 128)).take 4)
    (∀ x ∈ [(8, 7), (0, 0xFFFFFFFF), (7, 8), (7, 7), (2 ^ 31, 0)], let read := page x.1 ++ page x.2
      recValid 0x20 (read.take 128) [] = true ∧ recValid 0x20 (read.drop 128) [] = true ∧ seq 0 read = x.1 ∧ seq 1 read = x.2) ∧
    recValid 0x20 (page 7) [3] = false ∧ recValid 0x20 (List.replicate 128 0) [] = false ∧
    ((7 : Nat) + 2 ^ 32 - 8) % 2 ^ 32 > 2 ^ 31 ∧ ((0 : Nat) + 2 ^ 32 - 0xFFFFFFFF) % 2 ^ 32 ≤ 2 ^ 31 ∧
    (let r : RefReq := ⟨List.replicate 192 1, 3, List.replicate 192 2, 2 ^ 64⟩
     let d := modNvc (fun c => { c with refReq := some r }) (recording true { act := 8, id := 0x10, next := 31 }).dev
     d.nvc.refReq = some r ∧ r.k < 4 ∧ r.f.length = 192 ∧ r.table.length = 192 ∧ recLen 0x10 = 1932) := by
  decide +kernel

theorem witness_FlashCommandsAndLines :
    (let d := dev [mode stLIVE, setFld FLP_ADDR.ADDR 0x7FFF00, modFsh (fun f => { f with started := true, cfg := 0x100#32, next := some (0x7FFF00, 5) }),
       slate (fun x => { x with tick := 1605 })]
     reachable d ∧ d.fsh.started = true ∧ d.fsh.next = some (fld FLP_ADDR.ADDR d, 5) ∧ d.sl.tick ≤ 5 + 1600 ∧ getBits d.fsh.cfg 8 8 = 1) ∧
    (modFsh (fun f => { f with started := true, poll := true }) (dev [mode stLIVE])).fsh.poll = true ∧
    (∀ m ∈ [stIDLE, stLIVE, stSAFE], let d := dev [mode m, setFlag FLP_BOOT.BOOTED true, setFld FLP_ADDR.ADDR 0x7FFF00, modFsh (fun f => { f with started := true })]
     reachable d ∧ d.fsh.started = true ∧ d.fsh.next = none ∧ d.fsh.poll = false ∧ mstate d = m ∧ flag FLP_STATUS.BUSY d = false ∧ fld FLP_ADDR.ADDR d + 256 ≤ 0x800000 ∧
     0x800000 < fld FLP_ADDR.ADDR d + 257 ∧ fld FLP_ADDR.ADDR d % 256 + 256 ≤ 256 ∧
     touchesBooted (fld FLP_ADDR.ADDR d) 256 d = false ∧ touchesBooted (fld FLP_ADDR.ADDR d / 4096 * 4096) 4096 d = false) ∧
    touchesBooted 0x3FF000 4096 (dev [mode stSAFE, setFlag FLP_BOOT.BOOTED true]) = true ∧
    touchesBooted 0x3FFFFF 1 (dev [mode stSAFE, setFlag FLP_BOOT.BOOTED true]) = true ∧
    touchesBooted 0x3FFFFF 0 (dev [mode stSAFE, setFlag FLP_BOOT.BOOTED true]) = false ∧ 256 < 0x3FFFFF % 256 + 2 ∧
    flag FLP_STATUS.BUSY (dev [mode stIDLE, setFlag FLP_STATUS.BUSY true]) = true ∧
    (∀ a ∈ [1, 2, 3], let j : FlashJob := ⟨a, 0x7FFF00, 256, List.replicate 256 5#8⟩
     let d := modFsh (fun f => { f with job := some j }) (dev [mode stIDLE])
     d.fsh.job = some j ∧ mainRuns d = true ∧ j.len ≤ 256 ∧ j.data.length = j.len ∧ d.fsh.misses = [] ∧ d.fsh.prefetch = none) ∧
    (let d := dev [mode stLIVE, setFlag FLP_BOOT.BOOTED true, modFsh (fun f => { f with started := true })]
     d.fsh.started = true ∧ d.fsh.poll = false ∧ mainRuns d = true ∧ flag FLP_BOOT.BOOTED d = true ∧ d.fsh.job = none ∧ d.fsh.load = none ∧ d.fsh.prefetch = none ∧
     d.fsh.misses = [] ∧ d.fsh.next = none ∧ lineHeld 131071 d.fsh = false) ∧
    (modFsh (fun f => { f with load := some (131071, true) }) (dev [])).fsh.load = some (131071, true) := by
  unfold reachable; decide +kernel

theorem witness_StepRunsTheFrontCommand : ({ st [] with pending := [.hours, .hotReset] } : State).pending = [.hours, .hotReset] := rfl

theorem witness_EveryStepAnswersANextState :
    (st [slate (fun x => { x with running := true })]).pending = [] ∧
    (st [slate (fun x => { x with running := true })]).dev.sl.running = true := ⟨rfl, rfl⟩

theorem witness_EveryStepKeepsTheStoreCanonical : Store.wf State.reset.store ∧ ∃ t, step State.reset = .next t :=
  ⟨⟨rfl, rfl⟩, _, rfl⟩

theorem witness_OtherCommandsLeaveTheStore : mayChangeStore .hours = false ∧ ∃ t, exec .hours State.reset = .next t :=
  ⟨rfl, _, rfl⟩

theorem witness_HostSideCommandsLeaveTheFieldCompanion :
    fieldCommand (.configRequest .other) = false ∧ ∃ t, exec (.configRequest .other) State.reset = .next t := ⟨rfl, _, rfl⟩

theorem witness_ColumnInstructionsStayInTheEngines :
    columnInstruction (.vadd 0 0) = true ∧ ∃ t, exec (.vadd 0 0) (rowOf {}) = .next t := ⟨rfl, _, rfl⟩

/-! ### Ill-formed commands, one for each check -/

/-- A descriptor, a command block and an error that fit; each test below spoils one field. -/
def fits : DescIn := ⟨2 ^ 64 - 1, 2 ^ 24 - 1, 255, 2 ^ 32 - 1⟩

theorem test_descriptors_that_do_not_fit_are_refused :
    fits.wf = true ∧ ({ fits with addr := 2 ^ 64 } : DescIn).wf = false ∧ ({ fits with len := 2 ^ 24 } : DescIn).wf = false ∧
    ({ fits with flags := 256 } : DescIn).wf = false ∧ ({ fits with tag := 2 ^ 32 } : DescIn).wf = false ∧
    (FetchIn.ok { fits with len := 1 } [1, 2]).wf = false ∧ (FetchIn.bufFailed { fits with len := 2 ^ 24 }).wf = false := by
  decide +kernel

theorem test_command_blocks_that_do_not_fit_are_refused :
    (blk 0 0).wf = true ∧ ({ blk 0 0 with gen := 256 } : CmdBlk).wf = false ∧ (blk (2 ^ 18) 0).wf = false ∧
    ({ blk 0 0 with params := [1] } : CmdBlk).wf = false ∧ (blk 0 (2 ^ 32)).wf = false ∧
    (Instr.start 0 fits (blk 0 (2 ^ 32))).wf = false ∧ (Instr.descriptorFetchDone 0 .clean (.ok { fits with len := 1 } [1, 2])).wf = false := by
  decide +kernel

theorem test_other_operands_that_do_not_fit_are_refused :
    (Instr.nvsInitDone [⟨2048, 0, true, 0⟩]).wf = false ∧ (Instr.nvsPageOpDone [⟨0, 16, true, 0⟩] []).wf = false ∧
    (Instr.bootLoadingDone [⟨2048, 0, true, 0⟩]).wf = false ∧ (Instr.herdMessageBadCrc (List.replicate 23 0)).wf = false ∧
    (Instr.slateInfo 0 0 (2 ^ 48) 0 0).wf = false ∧ (Instr.slateInfo 0 0 0 0 17).wf = false ∧ (Instr.takeGrant 0 0 0 (2 ^ 48)).wf = false ∧
    (Instr.seam 0 0 (2 ^ 48) 0 0 0 0).wf = false ∧ (Instr.roster 0 0 1024 0 false 0 0 false 0).wf = false ∧
    (Instr.registerWrite (.word host 0) 2).wf = false ∧ (Instr.registerWrite (.wide 0 0 0) 4).wf = false ∧
    (Instr.registerReadClear (.word host) (2 ^ 20)).wf = false ∧ (Instr.registerReadClear (.doorbell 0 true) 4).wf = false ∧
    (Instr.lowWordRead host 2).wf = false ∧ (Instr.unservedAccess true true (2 ^ 21) 0).wf = false ∧
    (Instr.linkStateChange true 0 1).wf = false ∧ (Instr.linkStateChange true 1 3).wf = false ∧ (Instr.mpNop 0 false).wf = false ∧
    (Instr.mpWrite 1 false 0 0 [1, 2] [] 0).wf = false ∧ (Instr.inhibitChange (2 ^ 15) 0 0 0).wf = false ∧
    (Instr.pwmPeriod [⟨0, 65537⟩]).wf = false ∧ (Instr.emitterLineSlot (List.replicate 13 ⟨0, 0⟩)).wf = false := by
  decide +kernel

/-- No row of the opcode table gives bits, so no word spells a command, and placing one changes nothing. -/
theorem test_no_word_spells_a_command : decodeTableWord 32 0 = none ∧ State.reset.withFetchWord 32 0 = State.reset := ⟨rfl, rfl⟩

/-! ### The spec's own worked examples -/

/-- The device after an outcome that answers a next state. -/
def after : Host.Outcome State Fault Refusal → Option Dev
  | .next t => some t.dev
  | _ => none

/-- The nine bytes of "123456789" (00_scope.md R17). -/
def nineBytes : List (BitVec 8) := [0x31, 0x32, 0x33, 0x34, 0x35, 0x36, 0x37, 0x38, 0x39]

theorem test_crc_of_nine_bytes : crc32 nineBytes = 0xCBF43926#32 ∧ crc16 nineBytes = 0x29B1#16 := by decide +kernel

/-- The pixel of column 1,234 and row 700 (04_column_engines.md, worked example after R117). -/
theorem test_pixel_example :
    tsubOf ((((List.replicate 192 0).set 36 2000).set 37 2032).set 52 2048 |>.set 53 2080) 1234 700 = 2022 ∧
    kinvOf 80 = 19661 ∧ intake 19661 7100 = 110105 ∧
    driftOf { ({} : Eng) with dtop := [0, 0, 52, 0], dprev := [0, 0, 44, 0] } 2 708 3120 = 53 ∧
    gainTrim {} 16384 (setCBits (setCBits 0 63 52 1100) 11 4 253) 16180 7026 = 7478 ∧ yOf 8192 7478 = 8659 := by
  decide +kernel

/-- The card of pixel (4090, 3060) of engine 1,022 (06_calibration_cards.md, worked example before R154). -/
theorem test_card_example :
    offsetOf {} 16384 0x41A033FBF8BC3060#64 0x1C521AE019A0189C#64 5024 = (113211, false) ∧
    offsetOf {} 16384 0x41A033FBF8BC3060#64 0x1C521AE019A0189C#64 5600 = (114064, true) := by
  decide +kernel

/-- The words of the arc spot extension that the spec prints (05_column_programs.md, its worked example): NPUB V9 on channel
3, NLEFT V12, SLI S4 = 60,000, VSEL V8, RET. -/
theorem test_arc_spot_words :
    [0xD0027000#32, 0xD4327800#32, 0x8420EA60#32, 0x3823A002#32, 0xF8000001#32].all encLegal = true ∧
    fb 0xD0027000#32 31 26 = 0x34 ∧ fb 0xD0027000#32 17 14 = 9 ∧ fb 0xD0027000#32 13 12 = 3 ∧
    fb 0xD4327800#32 21 18 = 12 ∧ fb 0xD4327800#32 17 14 = 9 ∧ fb 0xD4327800#32 11 10 = 2 ∧ fb 0x3823A002#32 21 18 = 8 := by
  decide +kernel

/-- SLI S4 = 60,000, run. -/
theorem test_sli : (after (exec (.sli 0 (0x20EA60#26)) (rowOf {}))).map (fun d => sreg (engOf 0 d) 4) = some 60000#32 := by
  decide +kernel

/-- Class 5 of the cell watch example (08_cell_watch.md), whose cell meets WARN for the third time in slate 7,000,023. -/
theorem test_cell_example :
    let z : Zone := ⟨62315, 52315, 500, 7, 3, 30, 4, false, true, false, true⟩
    let c : Cell := { ({} : Cell) with p := 2, up := true, ref := 48900, age := 62, rv := true }
    let x := evalCell z 13334880 { max := 53950, min := 0, sum := 50700 * 48, count := 48, above := 9 } c
    x.cell.st = 1 ∧ x.changes = [(0, 1, 3)] ∧
    (evalCell z 13334880 { max := 53950, min := 0, sum := 50700 * 48, count := 48, above := 9 } x.cell).cell.rise = 843 := by
  decide +kernel

/-- Start slates of the herd example (03_slate_and_herd.md): 80,000,103 for k = 1, and 80,000,128 for k = 2. -/
theorem test_herd_grant_slates :
    grantSlate 1 (dev [slate (fun x => { x with no := 80000101 })]) = 80000103 ∧
    grantSlate 2 (dev [slate (fun x => { x with no := 80000126 })]) = 80000128 ∧ rateK 13334880 6667440 = some 2 := by
  decide +kernel

/-- The 768-row stripe at 240 Hz (02_focal_plane.md, worked example after R57): 816 slots of 2,043 ticks. -/
theorem test_stripe_example : stripeH 3 + 48 = 816 ∧ stripeTicks 0 816 = 2043 := by decide +kernel

/-- TAKES at 1,001 goes to cell 104: group 13, offset 104 of page 1,984 (16_nonvolatile_store.md, worked example). -/
theorem test_counter_cell_example :
    cellPage 8 104 = 1984 ∧ cellGroup 104 = 13 ∧ cellPage 10 3 = 2003 ∧ cellGroup 3 = 0 ∧
    cellCount [0xE9, 0x03, 0x00, 0x00, 0x16, 0xFC, 0xFF, 0xFF] = some 1001 ∧
    cellCount [0xE9, 0x03, 0x00, 0x00, 0x00, 0x00, 0x00, 0x00] = none := by
  decide +kernel

/-- The command word of the block-end read (11_management_port.md, worked example): READ, WADDR 0xD3FF, COUNT 3. -/
theorem test_port_read_word : portCommand 32 32 false 0x134FFC0300000000#64 [] [] 0 = .mpRead 32 false 0xD3FF 3 := by decide +kernel

/-- The table of R287: OP 0x01 is READ, and a header's low 16 bits are its word address. -/
theorem test_compat_read_header : compatCommand 56 false 0x01D3FF0000000000#64 [] [] 0 = .compatRead 56 false 0xD3FF := by decide +kernel

/-- The digest of "abc" (FIPS 180-4, its first example). -/
theorem test_sha256_abc :
    sha256 [0x61, 0x62, 0x63] = 0xBA7816BF8F01CFEA414140DE5DAE2223B00361A396177A9CB410FF61F20015AD := by
  decide +kernel

/-- R417: a frame is fully corrected with SEED, HELD and UNCAL 0, every engine RUNNING and a take COMMITTED since RESET. -/
theorem test_fully_corrected :
    let good := [mode stLIVE, setFlag PIPE_STATUS.SEED false, setFld TAKE_COUNT.COMMITTED 1]
    fullyCorrected (dev good) = true ∧ fullyCorrected (dev (good ++ [setFlag PIPE_STATUS.SEED true])) = false ∧
    fullyCorrected (dev (good ++ [setFld TAKE_COUNT.COMMITTED 0])) = false ∧
    fullyCorrected (dev (good ++ [fun d => { d with en := { d.en with pack := { d.en.pack with cond := [(7, 1)] } } }])) = false := by
  decide +kernel

/-! ### Single steps -/

/-- R79: one 400 MHz tick is 2.5 ns, 100,000,000 units of 1/40,000,000 ns. -/
theorem test_idle_tick_is_2_5_ns :
    (after (step (st [slate (fun x => { x with running := true })]))).map (fun d => (d.sl.mt, d.sl.slotTick)) = some (100000000, 1) := by
  decide +kernel

/-- R132: VADD wraps, and the destination may be a source. -/
theorem test_vadd_wraps_into_its_source :
    (after (exec (.vadd 0 (0x0#26)) (rowOf { v := [(0, 0xFFFFFFFF#32), (1, 0x80000000#32)] }))).map
      (fun d => (vreg (engOf 0 d) 0 0, vreg (engOf 0 d) 0 1)) = some (0xFFFFFFFE#32, 0#32) := by
  decide +kernel

end Sys2Proof.Tests
end

section
/-! SUPPORT. Accesses: what they meet, and what a write of a register that stands alone does. -/

namespace Sys2Proof.Machine

/-- A command whose meaning is an operation on the volatile part makes what holds after that operation. -/
theorem makes_of_devStep {c : Instr} {s : State} {f : Dev → Dev} {post : State → Prop}
    (hc : exec c s = devStep f s) (h : post { s with dev := f s.dev }) : makes c s post :=
  ⟨_, hc, h⟩

/-! ### Where an access goes -/

theorem mainRuns_of_served {d : Dev} (h : served d = true) : mainRuns d = true := by
  simp only [served, mainRuns, Bool.and_eq_true, decide_eq_true_eq] at h ⊢
  omega

theorem implemented_of_regInfo {a : Nat} {r : RegInfo} (h : regInfo a = some r) : implemented a false = true := by
  simp [implemented, h]

/-- While both paths reach every register, an access to an implemented one meets it. -/
theorem target_of_reachable {d : Dev} (h : reachable d) (p : Path) {a : Nat} {w : Bool} (hi : implemented a w = true)
    (hb : portBlock a = true) : target p a w d = .reg := by
  obtain ⟨hs, ha⟩ := h
  cases p with
  | pcie req => simp [target, pcieTarget, pcieServed, mainRuns_of_served hs, hs, hi]
  | port => simp [target, portTarget, ha, hb, hs, hi]

theorem busWrite_of_reg {p : Path} {a : Nat} {d : Dev} (h : target p a true d = .reg) (v : BitVec 32) :
    busWrite p a v d = regWrite p a v d := by
  simp [busWrite, h]

/-- A read has returned `x`. -/
def returned (x : BitVec 64) (d : Dev) : Dev := { d with readData := x }

theorem busRead_of_reg {p : Path} {a : Nat} {d : Dev} (h : target p a false d = .reg) :
    busRead p a d = returned ((readValue p a d).setWidth 64) (regRead p a d) := by
  simp [busRead, returned, h]

/-! ### Writes of one register -/

theorem valueLeft_of_regInfo {a : Nat} {r : RegInfo} (h : regInfo a = some r) (v : BitVec 32) (d : Dev) :
    valueLeft a v d = merged r (rdReg a d) v := by
  simp [valueLeft, h]

theorem encodingAt_of_regInfo {a : Nat} {r : RegInfo} (h : regInfo a = some r) (v : BitVec 32) (d : Dev) :
    encodingAt a v d = encodingOk r.base ((a - r.base) / r.stride) v d := by
  simp [encodingAt, h]

/-- A field whose every bit a write sets, or acts on, takes what is written to it. -/
theorem getBits_merged {r : RegInfo} {hi lo : Nat} (old v : BitVec 32)
    (h : getBits (r.rw ||| r.wo) hi lo = 2 ^ (hi + 1 - lo) - 1) : getBits (merged r old v) hi lo = getBits v hi lo := by
  apply Nat.eq_of_testBit_eq
  intro i
  have hi' : (getBits (r.rw ||| r.wo) hi lo).testBit i = decide (i < hi + 1 - lo) := by
    rw [h, Nat.testBit_two_pow_sub_one]
  rw [getBits_bit] at hi'
  rw [getBits_bit, getBits_bit]
  by_cases hb : i < hi + 1 - lo
  · have hm : (r.rw ||| r.wo).getLsbD (lo + i) = true := by simpa [hb] using hi'
    rw [BitVec.getLsbD_or] at hm
    simp only [merged, BitVec.getLsbD_or, BitVec.getLsbD_and, BitVec.getLsbD_not, hm]
    simp
  · simp [hb]

/-- A register whose every bit a write sets, or acts on, takes the word that is written. -/
theorem merged_of_allOnes {r : RegInfo} (h : r.rw ||| r.wo = BitVec.allOnes 32) (old v : BitVec 32) :
    merged r old v = v := by
  simp only [merged, h, BitVec.not_allOnes, BitVec.and_zero, BitVec.zero_and, BitVec.zero_or, BitVec.and_allOnes]

/-- A register that a write reaches by itself: it is no word of a pair, no mirror, and not the register whose bits differ
from its row's. -/
def standsAlone (a : Nat) : Bool :=
  implemented a true && portBlock a && !mirrorAddr a && !pairLows.contains a && !pairLows.contains (a - 4) &&
  a != GAF_IGN.addr 6 && (regInfo a).any RegInfo.writable

/-- The write of such a register: a reserved encoding is noted, and any other value takes effect (R20 to R22). -/
theorem busWrite_of_standsAlone {a : Nat} {r : RegInfo} {d : Dev} (hd : reachable d) (h : standsAlone a = true)
    (hr : regInfo a = some r) (hi : r.base = CELL_RT_IDX.addr → flag CELL_RT_STATUS.BUSY d = false) (p : Path)
    (v : BitVec 32) :
    busWrite p a v d =
      if encodingAt a (valueLeft a v d) d then writeEffect a r.base ((a - r.base) / r.stride) (valueLeft a v d) d
      else noteReserved a v d := by
  simp only [standsAlone, Bool.and_eq_true, Bool.not_eq_true', bne_iff_ne, hr, Option.any_some, and_assoc] at h
  obtain ⟨himp, hport, hmir, hlow, hhigh, hign, hw⟩ := h
  have hbusy : ¬ (r.base = CELL_RT_IDX.addr ∧ flag CELL_RT_STATUS.BUSY d = true) := fun x => by
    simp [hi x.1] at x
  have hmask : rwMask a r = r := if_neg hign
  rw [busWrite_of_reg (target_of_reachable hd p himp hport), encodingAt_of_regInfo hr, valueLeft_of_regInfo hr]
  simp only [regWrite, hr, hmask, hw, pairLow, hlow, hhigh, hmir, if_neg hbusy]
  cases encodingOk r.base ((a - r.base) / r.stride) (merged r (rdReg a d) v) d <;> simp

/-- The registers whose writes act beyond the value that they leave. -/
def actsOnWrite (b : Nat) : Bool :=
  [FPA_MODE.addr, FPA_INT.addr, FPA_GRP_CTRL.addr, SLATE_CMD.addr, HERD_CFG.addr, PIPE_ENG_CTRL.addr, CAL_RD_CMD.addr,
   CAL_RGAIN.addr 0, TAKE_STGATE.addr 0, CELL_ACK.addr, CELL_MAP_CTRL.addr, CELL_RT_IDX.addr, CELL_RT_DATA.addr,
   CELL_RT_CMD.addr, CELL_MAPW.addr 0, RING_CMD.addr, EVT_EN.addr 0, EVT_FORCE.addr, EVT_VIOL_CNT.addr, GAF_IGN.addr 0,
   NVS_CMD.addr, FLP_CFG.addr, FLP_CMD.addr, FLP_RESET.addr, MGP_ATTN.addr, MGP_ATTN_EN.addr, EMT_CTRL.addr,
   FLD_XCTRL.addr, IND_NODE.addr 0, ENGP_CMD.addr, ENGP_PEEK_CMD.addr, MSIX_CTRL.addr 0].contains b ||
  decide (0xD400 ≤ b ∧ b < 0xD800)

/-- A write of any other register sets it, and does nothing else. -/
theorem writeEffect_of_not_actsOnWrite {b : Nat} (h : actsOnWrite b = false) (a n : Nat) (v : BitVec 32) (d : Dev) :
    writeEffect a b n v d = wrReg a v d := by
  simp only [actsOnWrite, Bool.or_eq_false_iff, List.contains_eq_mem, List.mem_cons, List.not_mem_nil, or_false,
    decide_eq_false_iff_not, not_or] at h
  simp only [writeEffect, h, if_false, or_self, ite_self]

end Sys2Proof.Machine
end

section
/-! SUPPORT. Which registers the basic operations leave alone: a write of one register, an event, an entry of the dailies. -/

namespace Sys2Proof.Machine

/-! ### One register is set -/

theorem wrReg_eq_of_main {a : Nat} (h : auxAddr a = false) (v : BitVec 32) (d : Dev) :
    wrReg a v d = { d with main := (wrReg a v d).main } := by
  simp [wrReg, h]

theorem wrReg_eq (a : Nat) (v : BitVec 32) (d : Dev) :
    wrReg a v d = { d with main := (wrReg a v d).main, aux := (wrReg a v d).aux } := by
  unfold wrReg
  split <;> rfl

theorem setFld_eq_of_main {f : Fld} (h : auxAddr f.addr = false) (v : Nat) (d : Dev) :
    setFld f v d = { d with main := (setFld f v d).main } := wrReg_eq_of_main h _ d

theorem rdReg_setFld_ne {f : Fld} {a : Nat} (v : Nat) (d : Dev) (h : f.addr ≠ a) : rdReg a (setFld f v d) = rdReg a d :=
  rdReg_wrReg_ne _ d h

theorem rdReg_setFlag_ne {f : Fld} {a : Nat} (b : Bool) (d : Dev) (h : f.addr ≠ a) : rdReg a (setFlag f b d) = rdReg a d :=
  rdReg_setFld_ne _ d h

theorem regsKeptBut_wrReg (a : Nat) (v : BitVec 32) (d : Dev) : regsKeptBut [a] d (wrReg a v d) := fun b hb =>
  rdReg_wrReg_ne v d (by simpa [eq_comm] using hb)

theorem regsKeptBut_setFld (f : Fld) (v : Nat) (d : Dev) : regsKeptBut [f.addr] d (setFld f v d) :=
  regsKeptBut_wrReg f.addr _ d

theorem regsKeptBut_setFlag (f : Fld) (b : Bool) (d : Dev) : regsKeptBut [f.addr] d (setFlag f b d) :=
  regsKeptBut_setFld f _ d

/-- What two operations in turn leave alone. -/
theorem regsKeptBut_trans {l m : List Nat} {d e t : Dev} (h : regsKeptBut l d e) (g : regsKeptBut m e t) :
    regsKeptBut (l ++ m) d t := fun a ha => by
  rw [List.mem_append, not_or] at ha
  rw [g a ha.2, h a ha.1]

/-- A one-bit field reads what was last written to it. -/
theorem flag_setFlag_same (f : Fld) (b : Bool) (d : Dev) (h : f.hi < 32) (hw : f.lo ≤ f.hi) :
    flag f (setFlag f b d) = b := by
  have h1 : 2 ≤ 2 ^ (f.hi + 1 - f.lo) := Nat.le_self_pow (by omega) 2
  have h2 : b2n b < 2 := by cases b <;> decide
  unfold flag setFlag
  rw [fld_setFld_same _ _ _ h, Nat.mod_eq_of_lt (by omega)]
  cases b <;> rfl

theorem fld_congr {f : Fld} {d t : Dev} (h : rdReg f.addr t = rdReg f.addr d) : fld f t = fld f d := by
  simp [fld, h]

theorem flag_congr {f : Fld} {d t : Dev} (h : rdReg f.addr t = rdReg f.addr d) : flag f t = flag f d := by
  simp [flag, fld_congr h]

theorem mainRuns_congr {d t : Dev} (h : rdReg GLB_MSTATE.addr t = rdReg GLB_MSTATE.addr d) : mainRuns t = mainRuns d := by
  have hs : mstate t = mstate d := fld_congr (f := GLB_MSTATE.STATE) h
  simp [mainRuns, hs]

/-! ### Events and entries of the dailies -/

/-- The registers in which an event, its message request or an entry of the dailies shows. -/
def eventReg (a : Nat) : Bool := decide (0x7000 ≤ a ∧ a < 0x7054) || decide (0x81000 ≤ a)

theorem rdReg_msixRequest {a : Nat} (v : Nat) (d : Dev) (h : a < 0x81000) : rdReg a (msixRequest v d) = rdReg a d := by
  unfold msixRequest
  split
  · rfl
  · split
    · refine rdReg_setFlag_ne _ d ?_
      simp only [MSIX_PBA.addr]
      omega
    · rfl

theorem rdReg_raise_ne {a k : Nat} (d : Dev) (h : a < 0x81000) (hk : (evtStat k).addr ≠ a) :
    rdReg a (raise k d) = rdReg a d := by
  unfold raise
  split
  · rfl
  · split
    · rfl
    · dsimp only
      split
      · rw [rdReg_msixRequest _ _ h, rdReg_setFlag_ne _ _ hk]
      · exact rdReg_setFlag_ne _ _ hk

theorem rdReg_raise {a k : Nat} (d : Dev) (hk : k < 256) (h : eventReg a = false) : rdReg a (raise k d) = rdReg a d := by
  simp only [eventReg, Bool.or_eq_false_iff, decide_eq_false_iff_not] at h
  refine rdReg_raise_ne d (by omega) ?_
  simp only [evtStat, EVT_STAT.addr]
  omega

theorem rdReg_daily {a : Nat} (kind source : Nat) (p : List Nat) (d : Dev) (h : eventReg a = false) :
    rdReg a (daily kind source p d) = rdReg a d := by
  have hseq : EVT_DAILIES_SEQ.addr ≠ a := by rintro rfl; simp [eventReg, EVT_DAILIES_SEQ.addr] at h
  have hlost : EVT_DAILIES.LOST.addr ≠ a := by rintro rfl; simp [eventReg, EVT_DAILIES.LOST] at h
  unfold daily
  split
  · rfl
  · dsimp only
    split
    · exact rdReg_wrReg_ne _ _ hseq
    · unfold whenD
      split
      · rw [rdReg_raise _ (by decide) h, addFldSat, rdReg_setFld_ne _ _ hlost, rdReg_wrReg_ne _ _ hseq]
      · rw [addFldSat, rdReg_setFld_ne _ _ hlost, rdReg_wrReg_ne _ _ hseq]

theorem rdReg_note {a : Nat} (source : Nat) (p : List Nat) (d : Dev) (h : eventReg a = false) :
    rdReg a (note source p d) = rdReg a d := rdReg_daily _ _ _ d h

/-- A raised source stays raised, whatever its message request does. -/
theorem flag_evtStat_raise {k : Nat} {d : Dev} (hm : mainRuns d = true) (hk : k < 208) :
    flag (evtStat k) (raise k d) = true := by
  have hset (x : Dev) : flag (evtStat k) (setFlag (evtStat k) true x) = true :=
    flag_setFlag_same _ _ _ (Nat.mod_lt _ (by decide)) (Nat.le_refl _)
  have haddr : (evtStat k).addr < 0x81000 := by simp only [evtStat, EVT_STAT.addr]; omega
  unfold raise
  simp only [hm, Bool.not_true, Bool.false_or, show ¬ 208 ≤ k by omega, decide_false, Bool.and_false, Bool.false_and,
    Bool.false_eq_true, if_false]
  split
  · assumption
  · split
    · rw [flag_congr (rdReg_msixRequest _ _ haddr), hset]
    · exact hset d

/-- An entry that finds room in the queue is the last of it. -/
theorem note_queue {d : Dev} (source : Nat) (p : List Nat) (hm : mainRuns d = true) (hq : d.evt.queue.length < 512) :
    ∃ e, (note source p d).evt.queue = d.evt.queue ++ [e] ∧ e.kind = 6 ∧ e.source = source ∧
      e.payload = p ++ List.replicate (4 - p.length) 0 := by
  simp only [note, daily, hm, Bool.not_true, Bool.false_eq_true, if_false, wrReg_evt, hq, if_true]
  exact ⟨_, rfl, rfl, rfl, rfl⟩

end Sys2Proof.Machine
end

section
/-! SUPPORT. Settings of the focal plane and group actions (02_focal_plane.md R46, R54, R57, R63). -/

namespace Sys2Proof.Machine

/-! ### Staging (R57) -/

/-- The bits of FPA_STATUS that say that a change is staged. -/
def fpaMarked (d : Dev) : Dev :=
  whenD (inTake d) (setFlag FPA_STATUS.HELD_BY_TAKE true) (setFlag FPA_STATUS.PENDING true d)

theorem fpaStaged_eq (d : Dev) : fpaStaged d =
    if inTake d && !d.fpa.announced then
      raise 49 { fpaMarked d with fpa := { d.fpa with announced := true } }
    else fpaMarked d := by
  have ht : inTake (setFlag FPA_STATUS.PENDING true d) = inTake d :=
    flag_congr (rdReg_setFlag_ne _ _ (by decide))
  unfold fpaStaged fpaMarked whenD
  simp only [ht]
  cases inTake d with
  | false => simp
  | true => cases ha : d.fpa.announced <;> simp [ha]

theorem rdReg_fpaStaged {a : Nat} (d : Dev) (h : eventReg a = false) :
    rdReg a (fpaStaged d) = rdReg a (fpaMarked d) := by
  rw [fpaStaged_eq]
  split
  · rw [rdReg_raise _ (by decide) h]
    rfl
  · rfl

theorem rdReg_fpaMarked_ne {a : Nat} (d : Dev) (h : FPA_STATUS.addr ≠ a) : rdReg a (fpaMarked d) = rdReg a d := by
  unfold fpaMarked whenD
  split
  · rw [rdReg_setFlag_ne _ _ h, rdReg_setFlag_ne _ _ h]
  · exact rdReg_setFlag_ne _ _ h

/-- A field of FPA_STATUS beside PENDING and HELD_BY_TAKE. -/
theorem fld_fpaMarked {f : Fld} (d : Dev) (h : f.hi < 19 ∨ 20 < f.lo) : fld f (fpaMarked d) = fld f d := by
  have hne (g : Fld) (b : Bool) (x : Dev) (hg : f.hi < g.lo ∨ g.hi < f.lo) : fld f (setFlag g b x) = fld f x :=
    fld_setFld_ne _ x hg
  have hheld : f.hi < FPA_STATUS.HELD_BY_TAKE.lo ∨ FPA_STATUS.HELD_BY_TAKE.hi < f.lo := by
    simp only [FPA_STATUS.HELD_BY_TAKE]; omega
  have hpend : f.hi < FPA_STATUS.PENDING.lo ∨ FPA_STATUS.PENDING.hi < f.lo := by
    simp only [FPA_STATUS.PENDING]; omega
  unfold fpaMarked whenD
  split
  · rw [hne _ _ _ hheld, hne _ _ _ hpend]
  · exact hne _ _ _ hpend

theorem pending_fpaMarked (d : Dev) : flag FPA_STATUS.PENDING (fpaMarked d) = true := by
  have hp : flag FPA_STATUS.PENDING (setFlag FPA_STATUS.PENDING true d) = true :=
    flag_setFlag_same _ _ _ (by decide) (by decide)
  unfold fpaMarked whenD
  split
  · rw [flag, setFlag, fld_setFld_ne _ _ (by decide)]
    exact hp
  · exact hp

theorem held_fpaMarked {d : Dev} (h : inTake d = true) : flag FPA_STATUS.HELD_BY_TAKE (fpaMarked d) = true := by
  unfold fpaMarked whenD
  rw [if_pos h]
  exact flag_setFlag_same _ _ _ (by decide) (by decide)

theorem fpaStaged_sl (d : Dev) : (fpaStaged d).sl = d.sl := by
  rw [fpaStaged_eq, apply_ite Dev.sl, raise_sl]
  simp [fpaMarked, whenD, apply_ite Dev.sl]

theorem fpaStaged_en (d : Dev) : (fpaStaged d).en = d.en := by
  rw [fpaStaged_eq, apply_ite Dev.en, raise_en]
  simp [fpaMarked, whenD, apply_ite Dev.en]

/-- What a machine looks like after the legal value `v` of the setting at `a` is staged: the setting is held, what is in
force stays, and a change that a take holds up is announced once. -/
structure FpaStagedAs (a : Nat) (v : BitVec 32) (d t : Dev) : Prop where
  value : rdReg a t = v
  pending : flag FPA_STATUS.PENDING t = true
  inForce : ∀ f, f.addr = FPA_STATUS.addr → f.hi < 19 ∨ 20 < f.lo → fld f t = fld f d
  slate : t.sl = d.sl
  engines : t.en = d.en
  alone : inTake d = false → t = { d with main := t.main } ∧ regsKeptBut [a, FPA_STATUS.addr] d t
  held : inTake d = true → flag FPA_STATUS.HELD_BY_TAKE t = true
  announced : inTake d = true → d.fpa.announced = false → flag (evtStat 49) t = true

/-- Staging a value in a register of the main domain. -/
theorem fpaStagedAs_fpaStaged {a : Nat} (v : BitVec 32) {d : Dev} (hm : mainRuns d = true)
    (ha : a = FPA_MODE.addr ∨ a = FPA_INT.addr) : FpaStagedAs a v d (fpaStaged (wrReg a v d)) := by
  have hs : FPA_STATUS.addr ≠ a := by rcases ha with rfl | rfl <;> decide
  have hg : a ≠ GLB_MSTATE.addr := by rcases ha with rfl | rfl <;> decide
  have he : eventReg a = false := by rcases ha with rfl | rfl <;> decide
  have hmain : auxAddr a = false := by rcases ha with rfl | rfl <;> decide
  have htake : inTake (wrReg a v d) = inTake d := flag_congr (rdReg_wrReg_ne _ _ hg)
  have hstatus (f : Fld) (hf : f.addr = FPA_STATUS.addr) :
      fld f (fpaStaged (wrReg a v d)) = fld f (fpaMarked (wrReg a v d)) :=
    fld_congr (by rw [hf, rdReg_fpaStaged _ (by decide)])
  have hrun : mainRuns { fpaMarked (wrReg a v d) with fpa := { d.fpa with announced := true } } = true := by
    rw [← hm]
    exact mainRuns_congr ((rdReg_fpaMarked_ne _ (by decide)).trans (rdReg_wrReg_ne _ _ hg))
  refine ⟨?_, ?_, fun f hf hb => ?_, ?_, ?_, fun ht => ?_, fun ht => ?_, fun ht hn => ?_⟩
  · rw [rdReg_fpaStaged _ he, rdReg_fpaMarked_ne _ hs, rdReg_wrReg_same]
  · rw [flag, hstatus _ rfl]
    exact pending_fpaMarked _
  · rw [hstatus f hf, fld_fpaMarked _ hb, fld_congr (hf ▸ rdReg_wrReg_ne _ _ hs.symm)]
  · rw [fpaStaged_sl, wrReg_sl]
  · rw [fpaStaged_en, wrReg_en]
  · have heq : fpaStaged (wrReg a v d) = setFlag FPA_STATUS.PENDING true (wrReg a v d) := by
      simp [fpaStaged_eq, fpaMarked, whenD, htake, ht]
    rw [heq]
    refine ⟨?_, regsKeptBut_trans (regsKeptBut_wrReg a v d) (regsKeptBut_setFlag FPA_STATUS.PENDING true _)⟩
    rw [setFlag, setFld_eq_of_main (by decide), wrReg_eq_of_main hmain]
  · rw [flag, hstatus _ rfl]
    exact held_fpaMarked (htake.trans ht)
  · rw [fpaStaged_eq, htake, wrReg_fpa, ht, hn]
    exact flag_evtStat_raise hrun (by decide)

theorem regInfo_fpaMode :
    regInfo FPA_MODE.addr = some ⟨"FPA_MODE", FPA_MODE.addr, 4, 1, 0xC300#32, 0xFCF11#32, 0, 0, 0⟩ := by
  decide +kernel

theorem regInfo_fpaInt :
    regInfo FPA_INT.addr = some ⟨"FPA_INT", FPA_INT.addr, 4, 1, 0x60#32, 0xFF#32, 0, 0, 0⟩ := by
  decide +kernel

theorem busWrite_fpaMode {d : Dev} (hd : reachable d) (p : Path) (v : BitVec 32) :
    busWrite p FPA_MODE.addr v d =
      if fpaModeOk (valueLeft FPA_MODE.addr v d) then fpaStaged (wrReg FPA_MODE.addr (valueLeft FPA_MODE.addr v d) d)
      else noteReserved FPA_MODE.addr v d := by
  rw [busWrite_of_standsAlone hd (by decide +kernel) regInfo_fpaMode (fun h => absurd h (by decide)),
    encodingAt_of_regInfo regInfo_fpaMode]
  rfl

theorem busWrite_fpaInt {d : Dev} (hd : reachable d) (p : Path) (v : BitVec 32) :
    busWrite p FPA_INT.addr v d =
      if fpaIntOk (valueLeft FPA_INT.addr v d) then fpaStaged (wrReg FPA_INT.addr (valueLeft FPA_INT.addr v d) d)
      else noteReserved FPA_INT.addr v d := by
  rw [busWrite_of_standsAlone hd (by decide +kernel) regInfo_fpaInt (fun h => absurd h (by decide)),
    encodingAt_of_regInfo regInfo_fpaInt]
  rfl

theorem fpaIntOk_iff (v : BitVec 32) : fpaIntOk v = true ↔ 32 ≤ v.toNat % 256 ∧ v.toNat % 256 ≤ 128 := by
  have hbits : getBits v 7 0 = v.toNat % 256 := by
    simp only [getBits, bitsN, Nat.shiftRight_zero, Nat.reduceAdd, Nat.reduceSub, Nat.reducePow]
  simp only [fpaIntOk, hbits, Bool.and_eq_true, decide_eq_true_eq]

/-! ### Group actions (R63) -/

theorem regInfo_fpaGrpCtrl :
    regInfo FPA_GRP_CTRL.addr = some ⟨"FPA_GRP_CTRL", FPA_GRP_CTRL.addr, 4, 1, 0, 0, 0, 0, 0x37F#32⟩ := by
  decide +kernel

theorem busWrite_grpCtrl {d : Dev} (hd : reachable d) (p : Path) {v : BitVec 32} (h : getBits v 9 8 ≠ 0) :
    busWrite p FPA_GRP_CTRL.addr v d = modGrp (v.toNat % 128) (fun g => { g with act := getBits v 9 8 }) d := by
  have hact : getBits (valueLeft FPA_GRP_CTRL.addr v d) 9 8 = getBits v 9 8 := by
    rw [valueLeft_of_regInfo regInfo_fpaGrpCtrl]
    exact getBits_merged _ _ (by decide)
  have hgrp : getBits (valueLeft FPA_GRP_CTRL.addr v d) 6 0 = v.toNat % 128 := by
    rw [valueLeft_of_regInfo regInfo_fpaGrpCtrl, getBits_merged _ _ (by decide)]
    simp [getBits, bitsN]
  have hok : encodingAt FPA_GRP_CTRL.addr (valueLeft FPA_GRP_CTRL.addr v d) d = true := by
    rw [encodingAt_of_regInfo regInfo_fpaGrpCtrl]
    show (getBits _ 9 8 != 0) = true
    simpa [hact] using h
  rw [busWrite_of_standsAlone hd (by decide +kernel) regInfo_fpaGrpCtrl (fun h => absurd h (by decide)), if_pos hok,
    ← hgrp, ← hact]
  rfl

@[simp] theorem grp_modGrp_same (n : Nat) (f : Group → Group) (d : Dev) : grp n (modGrp n f d) = f (grp n d) :=
  mget_mset_same _ _ _ _

theorem grp_modGrp_ne {n j : Nat} (f : Group → Group) (d : Dev) (h : j ≠ n) : grp j (modGrp n f d) = grp j d :=
  mget_mset_ne _ _ _ (Ne.symm h)

/-- The other bits of an action's word keep the group's number. -/
theorem group_setBits_action (v : BitVec 32) (k : Nat) : (setBits v 9 8 k).toNat % 128 = v.toNat % 128 := by
  simpa [getBits, bitsN] using getBits_setBits_ne (hi := 9) (lo := 8) (hi' := 6) (lo' := 0) v k (by decide)

theorem actionWrite_group {d : Dev} (hd : reachable d) (p : Path) (v : BitVec 32) {k : Nat} (h : k ∈ [1, 2, 3]) :
    actionWrite p FPA_GRP_CTRL.ACTION k v d = modGrp (v.toNat % 128) (fun g => { g with act := k }) d := by
  have hk : getBits (setBits v 9 8 k) 9 8 = k := by
    rw [getBits_setBits_same _ _ (by decide)]
    revert k
    decide
  have h0 : getBits (setBits v 9 8 k) 9 8 ≠ 0 := by
    rw [hk]
    rintro rfl
    simp at h
  have := busWrite_grpCtrl hd p h0
  rwa [hk, group_setBits_action] at this

/-! ### The statement (O23) -/

/-- Settles O23: a write of either setting is staged where its encoding is legal and noted where it is reserved, and a group
action changes the record of its group alone. -/
theorem focalPlaneSettingsAreStaged : Obligations.FocalPlaneSettingsAreStaged := by
  intro s p v d staged refused acts hd
  have hm : mainRuns d = true := mainRuns_of_served hd.1
  have hstaged (c : Instr) (a : Nat) (f : Dev → Dev) (hc : exec c s = devStep f s)
      (ha : a = FPA_MODE.addr ∨ a = FPA_INT.addr) (hf : f d = fpaStaged (wrReg a (valueLeft a v d) d)) : staged c a := by
    obtain ⟨hval, hpend, hforce, hsl, hen, halone, hheld, hann⟩ := fpaStagedAs_fpaStaged (valueLeft a v d) hm ha
    refine makes_of_devStep hc ?_
    rw [hf]
    refine ⟨hval, hpend, fun f hf => ?_, hsl, hen, fun ht => ⟨(halone ht).2, ?_⟩, fun ht => ⟨hheld ht, hann ht⟩⟩
    · simp only [List.mem_cons, List.not_mem_nil, or_false] at hf
      rcases hf with rfl | rfl | rfl | rfl
      · exact hforce _ rfl (by decide)
      · exact hforce _ rfl (by decide)
      · exact hforce _ rfl (by decide)
      · exact hforce _ rfl (by decide)
    · exact congrArg (fun x => { s with dev := x }) (halone ht).1
  have hrefused (c : Instr) (a : Nat) (f : Dev → Dev) (hc : exec c s = devStep f s)
      (ha : a = FPA_MODE.addr ∨ a = FPA_INT.addr) (hf : f d = noteReserved a v d) : refused c a := by
    have hs : refusalSource a = 32 := by rcases ha with rfl | rfl <;> decide
    have he : eventReg a = false := by rcases ha with rfl | rfl <;> decide
    refine makes_of_devStep hc ?_
    rw [hf, noteReserved, hs]
    exact ⟨rdReg_note _ _ _ he, rdReg_note _ _ _ (by decide), rfl⟩
  have hacts (c : Instr) (k : Nat) (hk : k ∈ [1, 2, 3])
      (hc : exec c s = devStep (actionWrite p FPA_GRP_CTRL.ACTION k v) s) : acts c k := by
    refine makes_of_devStep hc ?_
    rw [actionWrite_group hd p v hk]
    refine ⟨?_, ?_, fun j hj => grp_modGrp_ne _ _ hj, rfl⟩
    · rw [grp_modGrp_same]
    · rw [grp_modGrp_same]
  refine ⟨fun h => ?_, fun h => ?_, fun h1 h2 => ?_, fun h => ?_, ?_, ?_, ?_⟩
  · exact hstaged _ _ _ rfl (.inl rfl) (by rw [busWrite_fpaMode hd, if_pos h])
  · exact hrefused _ _ _ rfl (.inl rfl) (by rw [busWrite_fpaMode hd, if_neg (by simp [h])])
  · exact hstaged _ _ _ rfl (.inr rfl) (by rw [busWrite_fpaInt hd, if_pos ((fpaIntOk_iff _).2 ⟨h1, h2⟩)])
  · exact hrefused _ _ _ rfl (.inr rfl) (by rw [busWrite_fpaInt hd, if_neg (by rw [fpaIntOk_iff]; omega)])
  · exact hacts _ 1 (by decide) rfl
  · exact hacts _ 2 (by decide) rfl
  · exact hacts _ 3 (by decide) rfl

end Sys2Proof.Machine
end

section
/-! SUPPORT. The staged radiometric table (08_cell_watch.md R202). -/

namespace Sys2Proof.Machine

/-! ### What the writes of its registers do -/

theorem regInfo_rtIdx :
    regInfo CELL_RT_IDX.addr = some ⟨"CELL_RT_IDX", CELL_RT_IDX.addr, 4, 1, 0, 0xFFF#32, 0, 0, 0⟩ := by
  decide +kernel

theorem regInfo_rtData :
    regInfo CELL_RT_DATA.addr = some ⟨"CELL_RT_DATA", CELL_RT_DATA.addr, 4, 1, 0, 0, 0, 0, 0xFFFFFFFF#32⟩ := by
  decide +kernel

theorem regInfo_rtCmd :
    regInfo CELL_RT_CMD.addr = some ⟨"CELL_RT_CMD", CELL_RT_CMD.addr, 4, 1, 0, 0, 0, 0, 7#32⟩ := by
  decide +kernel

theorem busWrite_rtData {d : Dev} (hd : reachable d) (p : Path) (v : BitVec 32) :
    busWrite p CELL_RT_DATA.addr v d = rtDataWrite v d := by
  have hv : valueLeft CELL_RT_DATA.addr v d = v := by
    rw [valueLeft_of_regInfo regInfo_rtData]
    exact merged_of_allOnes (by decide) _ v
  rw [busWrite_of_standsAlone hd (by decide +kernel) regInfo_rtData (fun h => absurd h (by decide)), hv,
    encodingAt_of_regInfo regInfo_rtData]
  rfl

theorem busWrite_rtIdx_idle {d : Dev} (hd : reachable d) (hb : flag CELL_RT_STATUS.BUSY d = false) (p : Path)
    (v : BitVec 32) :
    busWrite p CELL_RT_IDX.addr v d =
      if v.toNat % 2 = 0 then setFld CELL_RT_IDX.IDX (v.toNat % 4096) d else noteReserved CELL_RT_IDX.addr v d := by
  have hidx : getBits (valueLeft CELL_RT_IDX.addr v d) 11 0 = v.toNat % 4096 := by
    rw [valueLeft_of_regInfo regInfo_rtIdx, getBits_merged _ _ (by decide)]
    simp [getBits, bitsN]
  have henc : encodingAt CELL_RT_IDX.addr (valueLeft CELL_RT_IDX.addr v d) d = (v.toNat % 2 == 0) := by
    rw [encodingAt_of_regInfo regInfo_rtIdx, ← Nat.mod_mod_of_dvd v.toNat (show 2 ∣ 4096 by decide), ← hidx]
    rfl
  have heff (x : BitVec 32) : writeEffect CELL_RT_IDX.addr CELL_RT_IDX.addr 0 x d =
      setFld CELL_RT_IDX.IDX (getBits x 11 0) d := by
    show rtIdxWrite x d = _
    simp [rtIdxWrite, hb]
  rw [busWrite_of_standsAlone hd (by decide +kernel) regInfo_rtIdx (fun _ => hb), henc, ← hidx, ← heff]
  simp

/-- BUSY is tested before the odd index (log entry 36). -/
theorem busWrite_rtIdx_busy {d : Dev} (hd : reachable d) (hb : flag CELL_RT_STATUS.BUSY d = true) (p : Path)
    (v : BitVec 32) : busWrite p CELL_RT_IDX.addr v d = refuseReg 0 CELL_RT_IDX.addr 0 d := by
  rw [busWrite_of_reg (target_of_reachable hd p (by decide +kernel) (by decide))]
  have hlow : pairLow CELL_RT_IDX.addr d = false := by
    rw [pairLow, show pairLows.contains CELL_RT_IDX.addr = false by decide +kernel, Bool.false_and]
  simp only [regWrite, regInfo_rtIdx, hlow]
  simp [rwMask, hb, rtIdxWrite, RegInfo.writable, mirrorAddr, CELL_RT_IDX.addr, GAF_IGN.addr]

theorem busWrite_rtCmd {d : Dev} (hd : reachable d) (p : Path) {v : BitVec 32} (h1 : 1 ≤ getBits v 2 0)
    (h4 : getBits v 2 0 ≤ 4) : busWrite p CELL_RT_CMD.addr v d = rtCmd (getBits v 2 0) d := by
  have hact : getBits (valueLeft CELL_RT_CMD.addr v d) 2 0 = getBits v 2 0 := by
    rw [valueLeft_of_regInfo regInfo_rtCmd]
    exact getBits_merged _ _ (by decide)
  have hok : encodingAt CELL_RT_CMD.addr (valueLeft CELL_RT_CMD.addr v d) d = true := by
    rw [encodingAt_of_regInfo regInfo_rtCmd]
    show (decide (1 ≤ getBits _ 2 0) && decide (getBits _ 2 0 ≤ 4)) = true
    simp [hact, h1, h4]
  rw [busWrite_of_standsAlone hd (by decide +kernel) regInfo_rtCmd (fun h => absurd h (by decide)), if_pos hok, ← hact]
  rfl

theorem actionWrite_rtCmd {d : Dev} (hd : reachable d) (p : Path) (v : BitVec 32) {k : Nat} (h : 1 ≤ k ∧ k ≤ 4) :
    actionWrite p CELL_RT_CMD.ACTION k v d = rtCmd k d := by
  have hk : getBits (setBits v 2 0 k) 2 0 = k := by
    rw [getBits_setBits_same _ _ (by decide)]
    exact Nat.mod_eq_of_lt (by omega)
  have := busWrite_rtCmd hd p (v := setBits v 2 0 k) (by omega) (by omega)
  rwa [hk] at this

theorem rtCmd_idle {d : Dev} (hb : flag CELL_RT_STATUS.BUSY d = false) (k : Nat) :
    rtCmd k d = modCw (fun c => { c with rtAction := some k }) (setFlag CELL_RT_STATUS.BUSY true d) := by
  simp [rtCmd, hb]

theorem rtCmd_busy {d : Dev} (hb : flag CELL_RT_STATUS.BUSY d = true) (k : Nat) :
    rtCmd k d = refuseReg k CELL_RT_CMD.addr 0 d := by
  simp [rtCmd, hb]

/-! ### The staged entries -/

/-- Two entries are stored, and every other stays. -/
theorem mget_msetList_two {α : Type} [DecidableEq α] (f : Nat → α) (m : List (Nat × α)) (i : Nat) (x y : α) (k : Nat) :
    mget f (msetList f m i [x, y]) k = if k = i + 1 then y else if k = i then x else mget f m k := by
  simp only [msetList]
  split
  · subst k
    exact mget_mset_same ..
  · rename_i h1
    rw [mget_mset_ne _ _ _ (Ne.symm h1)]
    split
    · subst k
      exact mget_mset_same ..
    · rename_i h0
      exact mget_mset_ne _ _ _ (Ne.symm h0)

theorem rtEntry_setFld (k : Nat) (f : Fld) (v : Nat) (d : Dev) : rtEntry k (setFld f v d) = rtEntry k d := by
  simp [rtEntry]

theorem rtDataWrite_idle {d : Dev} (hb : flag CELL_RT_STATUS.BUSY d = false) (v : BitVec 32) :
    rtDataWrite v d =
      let i := fld CELL_RT_IDX.IDX d
      let two := [getBits v 15 0, getBits v 31 16]
      setFld CELL_RT_IDX.IDX ((i + 2) % 4096)
        (modCw (fun c => { c with rtStage := msetList (fun _ => 0) c.rtStage i two }) d) := by
  simp [rtDataWrite, hb]

theorem rtEntry_rtDataWrite {d : Dev} (hb : flag CELL_RT_STATUS.BUSY d = false) (v : BitVec 32) (k : Nat) :
    rtEntry k (rtDataWrite v d) =
      if k = fld CELL_RT_IDX.IDX d + 1 then v.toNat / 2 ^ 16
      else if k = fld CELL_RT_IDX.IDX d then v.toNat % 2 ^ 16 else rtEntry k d := by
  have hlo : getBits v 15 0 = v.toNat % 2 ^ 16 := by simp [getBits, bitsN]
  have hhi : getBits v 31 16 = v.toNat / 2 ^ 16 := by
    have := v.isLt
    simp only [getBits, bitsN, Nat.shiftRight_eq_div_pow]
    omega
  rw [rtDataWrite_idle hb, rtEntry_setFld, ← hlo, ← hhi]
  exact mget_msetList_two (fun _ => 0) d.cw.rtStage _ _ _ k

/-! ### The order of the table -/

theorem mgetList_eq_map {α : Type} (f : Nat → α) (m : List (Nat × α)) (n a : Nat) :
    mgetList f m a n = (List.range n).map (fun i => mget f m (a + i)) := by
  induction n generalizing a with
  | zero => rfl
  | succ n ih => simp [mgetList, ih, List.range_succ_eq_map, Nat.add_assoc, Nat.add_comm 1]

theorem rtTable_eq_map (d : Dev) : rtTable d = (List.range 4096).map (fun i => rtEntry i d) := by
  simp [rtTable, mgetList_eq_map, rtEntry]

/-- The first place at which a list of at least two entries falls, counted from `i`. -/
theorem rtFail_eq_some {l : List Nat} {i j : Nat} (h : rtFail i l = some j) :
    ∃ n, j = i + n ∧ n + 1 < l.length ∧ l.getD (n + 1) 0 < l.getD n 0 ∧
      ∀ k, k < n → l.getD k 0 ≤ l.getD (k + 1) 0 := by
  induction l generalizing i with
  | nil => simp [rtFail] at h
  | cons a l ih =>
    cases l with
    | nil => simp [rtFail] at h
    | cons b r =>
      simp only [rtFail] at h
      split at h
      · exact ⟨0, by simpa using h.symm, by simp, by simpa, by simp⟩
      · rename_i hab
        obtain ⟨n, hj, hn, hlt, hle⟩ := ih h
        refine ⟨n + 1, by omega, by simpa using hn, by simpa using hlt, fun k hk => ?_⟩
        cases k with
        | zero => simpa using hab
        | succ k => simpa using hle k (by omega)

theorem rtFail_eq_none {l : List Nat} {i : Nat} (h : rtFail i l = none) (k : Nat) (hk : k + 1 < l.length) :
    l.getD k 0 ≤ l.getD (k + 1) 0 := by
  induction l generalizing i k with
  | nil => simp at hk
  | cons a l ih =>
    cases l with
    | nil => simp at hk
    | cons b r =>
      simp only [rtFail] at h
      split at h
      · simp at h
      · rename_i hab
        cases k with
        | zero => simpa using hab
        | succ k => simpa using ih h k (by simpa using hk)

theorem rtTable_getD (d : Dev) {k : Nat} (h : k < 4096) : (rtTable d).getD k 0 = rtEntry k d := by
  simp [rtTable_eq_map, List.getD_eq_getElem?_getD, h]

/-- The staged entries nowhere fall (R202). -/
def rtOrdered (d : Dev) : Prop := ∀ i, i < 4095 → rtEntry i d ≤ rtEntry (i + 1) d

theorem rtOrdered_of_rtFail {d : Dev} (h : rtFail 0 (rtTable d) = none) : rtOrdered d := fun i hi => by
  have := rtFail_eq_none h i (by simp [rtTable_eq_map]; omega)
  rwa [rtTable_getD d (by omega), rtTable_getD d (by omega)] at this

theorem rtFail_spec {d : Dev} {i : Nat} (h : rtFail 0 (rtTable d) = some i) :
    i < 4095 ∧ rtEntry (i + 1) d < rtEntry i d ∧ ∀ k, k < i → rtEntry k d ≤ rtEntry (k + 1) d := by
  obtain ⟨n, hi, hn, hlt, hle⟩ := rtFail_eq_some h
  simp only [rtTable_eq_map, List.length_map, List.length_range] at hn
  obtain rfl : i = n := by omega
  rw [rtTable_getD d (by omega), rtTable_getD d (by omega)] at hlt
  refine ⟨by omega, hlt, fun k hk => ?_⟩
  have := hle k hk
  rwa [rtTable_getD d (by omega), rtTable_getD d (by omega)] at this

/-- Where the staged entries nowhere fall, a commit copies them. -/
theorem rtFail_of_rtOrdered {d : Dev} (h : rtOrdered d) : rtFail 0 (rtTable d) = none := by
  cases hf : rtFail 0 (rtTable d) with
  | none => rfl
  | some i =>
    obtain ⟨hi, hlt, -⟩ := rtFail_spec hf
    have := h i hi
    omega

theorem rtFail_of_not_rtOrdered {d : Dev} (h : ¬ rtOrdered d) : ∃ i, rtFail 0 (rtTable d) = some i := by
  cases hf : rtFail 0 (rtTable d) with
  | none => exact absurd (rtOrdered_of_rtFail hf) h
  | some i => exact ⟨i, rfl⟩

end Sys2Proof.Machine
end

section
/-! SUPPORT. The end of a radiometric table command (08_cell_watch.md R202). -/

namespace Sys2Proof.Machine

/-! ### A copy changes (R203) -/

theorem whenD_modCw (c : Bool) (f : CellWatch → CellWatch) (d : Dev) :
    whenD c (modCw f) d = { d with cw := if c then f d.cw else d.cw } := by
  cases c <;> rfl

theorem setCopy_en (low : Bool) (t : Option (List Nat)) (d : Dev) :
    (setCopy low t d).en = if low then { d.en with radLow := t } else { d.en with radHigh := t } := by
  simp only [setCopy, rtStatus, whenD_modCw, setFlag_en]

theorem setCopy_cw (low : Bool) (t : Option (List Nat)) (d : Dev) :
    (setCopy low t d).cw.rtStage = d.cw.rtStage ∧ (setCopy low t d).cw.rtAction = d.cw.rtAction := by
  simp only [setCopy, rtStatus, whenD_modCw, setFlag_cw]
  generalize (d.fpa.low == low || d.en.radNext == if low = true then 2 else 1) = held
  cases held <;> exact ⟨rfl, rfl⟩

theorem rdReg_setCopy_ne {a : Nat} (low : Bool) (t : Option (List Nat)) (d : Dev) (h : CELL_STATUS.addr ≠ a) :
    rdReg a (setCopy low t d) = rdReg a d := by
  simp only [setCopy, rtStatus, whenD_modCw]
  rw [rdReg_setFlag_ne _ _ h, rdReg_setFlag_ne _ _ h]
  rfl

/-! ### How a command ends -/

/-- The command is taken off: BUSY reads 0, and none is under way. -/
def rtTaken (d : Dev) : Dev := setFlag CELL_RT_STATUS.BUSY false (modCw (fun c => { c with rtAction := none }) d)

theorem rtDone_committed {d : Dev} {a : Nat} (ha : d.cw.rtAction = some a) (h : a = 1 ∨ a = 2)
    (hf : rtFail 0 (rtTable d) = none) :
    rtDone d = raise 150 (setCopy (a == 2) (some (rtTable d)) (setFld CELL_RT_STATUS.RESULT 1 (rtTaken d))) := by
  simp [rtDone, rtTaken, ha, h, hf]

theorem rtDone_unordered {d : Dev} {a i : Nat} (ha : d.cw.rtAction = some a) (h : a = 1 ∨ a = 2)
    (hf : rtFail 0 (rtTable d) = some i) :
    rtDone d =
      raise 150 (note 144 [i, a] (setFld CELL_RT_STATUS.ERR_IDX i (setFld CELL_RT_STATUS.RESULT 2 (rtTaken d)))) := by
  simp [rtDone, rtTaken, ha, h, hf]

theorem rtDone_cleared {d : Dev} {a : Nat} (ha : d.cw.rtAction = some a) (h : ¬ (a = 1 ∨ a = 2)) :
    rtDone d = raise 150 (setCopy (a == 4) none (setFld CELL_RT_STATUS.RESULT 1 (rtTaken d))) := by
  simp only [rtDone, rtTaken, ha, if_neg h]

/-- A command on the table of `d` has ended in `t`: none is under way, and the staged table stands. -/
structure RtEnded (d t : Dev) : Prop where
  idle : flag CELL_RT_STATUS.BUSY t = false
  action : t.cw.rtAction = none
  stage : t.cw.rtStage = d.cw.rtStage
  state : rdReg GLB_MSTATE.addr t = rdReg GLB_MSTATE.addr d

theorem rtEnded_rtTaken (d : Dev) : RtEnded d (rtTaken d) where
  idle := flag_setFlag_same _ _ _ (by decide) (by decide)
  action := by simp [rtTaken, modCw]
  stage := by simp [rtTaken, modCw]
  state := rdReg_setFlag_ne _ _ (by decide)

/-- It stays ended when RESULT or ERR_IDX is set. -/
theorem RtEnded.setFld {d t : Dev} (h : RtEnded d t) {f : Fld} (hf : f.addr = CELL_RT_STATUS.addr) (hlo : 0 < f.lo)
    (v : Nat) : RtEnded d (setFld f v t) where
  idle := by
    rw [flag, fld_setFld_ne _ _ (.inl hlo)]
    exact h.idle
  action := by rw [setFld_cw, h.action]
  stage := by rw [setFld_cw, h.stage]
  state := by rw [rdReg_setFld_ne _ _ (by rw [hf]; decide), h.state]

theorem RtEnded.setCopy {d t : Dev} (h : RtEnded d t) (low : Bool) (c : Option (List Nat)) :
    RtEnded d (setCopy low c t) where
  idle := (flag_congr (rdReg_setCopy_ne _ _ _ (by decide))).trans h.idle
  action := (setCopy_cw low c t).2.trans h.action
  stage := (setCopy_cw low c t).1.trans h.stage
  state := (rdReg_setCopy_ne _ _ _ (by decide)).trans h.state

theorem RtEnded.note {d t : Dev} (h : RtEnded d t) (source : Nat) (p : List Nat) : RtEnded d (note source p t) where
  idle := (flag_congr (rdReg_note _ _ _ (by decide))).trans h.idle
  action := by rw [note_cw, h.action]
  stage := by rw [note_cw, h.stage]
  state := (rdReg_note _ _ _ (by decide)).trans h.state

theorem RtEnded.raise {d t : Dev} (h : RtEnded d t) : RtEnded d (raise 150 t) where
  idle := (flag_congr (rdReg_raise _ (by decide) (by decide))).trans h.idle
  action := by rw [raise_cw, h.action]
  stage := by rw [raise_cw, h.stage]
  state := (rdReg_raise _ (by decide) (by decide)).trans h.state

theorem rtEnded_result (d : Dev) (k : Nat) : RtEnded d (setFld CELL_RT_STATUS.RESULT k (rtTaken d)) :=
  (rtEnded_rtTaken d).setFld rfl (by decide) k

theorem raised_of_rtEnded {d t : Dev} (h : RtEnded d t) (hm : mainRuns d = true) : flag (evtStat 150) (raise 150 t) = true :=
  flag_evtStat_raise ((mainRuns_congr h.state).trans hm) (by decide)

/-- However the command ends. -/
theorem rtEnded_rtDone {d : Dev} {a : Nat} (ha : d.cw.rtAction = some a) (hm : mainRuns d = true) :
    RtEnded d (rtDone d) ∧ flag (evtStat 150) (rtDone d) = true := by
  by_cases h : a = 1 ∨ a = 2
  · cases hf : rtFail 0 (rtTable d) with
    | none =>
      have he := (rtEnded_result d 1).setCopy (a == 2) (some (rtTable d))
      rw [rtDone_committed ha h hf]
      exact ⟨he.raise, raised_of_rtEnded he hm⟩
    | some i =>
      have he := ((rtEnded_result d 2).setFld (f := CELL_RT_STATUS.ERR_IDX) rfl (by decide) i).note 144 [i, a]
      rw [rtDone_unordered ha h hf]
      exact ⟨he.raise, raised_of_rtEnded he hm⟩
  · have he := (rtEnded_result d 1).setCopy (a == 4) none
    rw [rtDone_cleared ha h]
    exact ⟨he.raise, raised_of_rtEnded he hm⟩

theorem result_setFld_rtTaken (d : Dev) {k : Nat} (h : k < 16) :
    fld CELL_RT_STATUS.RESULT (setFld CELL_RT_STATUS.RESULT k (rtTaken d)) = k := by
  rw [fld_setFld_same _ _ _ (by decide)]
  exact Nat.mod_eq_of_lt h

theorem errIdx_setFld_rtTaken (d : Dev) (k : Nat) :
    fld CELL_RT_STATUS.ERR_IDX (setFld CELL_RT_STATUS.RESULT k (rtTaken d)) = fld CELL_RT_STATUS.ERR_IDX d := by
  rw [fld_setFld_ne _ _ (by decide), rtTaken, setFlag, fld_setFld_ne _ _ (by decide)]
  rfl

/-- A field of CELL_RT_STATUS is the same once a copy has changed and source 150 is raised. -/
theorem fld_raise_setCopy {f : Fld} (hf : f.addr = CELL_RT_STATUS.addr) (low : Bool) (c : Option (List Nat)) (d : Dev) :
    fld f (raise 150 (setCopy low c d)) = fld f d := by
  refine fld_congr ?_
  rw [hf, rdReg_raise _ (by decide) (by decide), rdReg_setCopy_ne _ _ _ (by decide)]

/-- A command that changes a copy ends with RESULT 1, ERR_IDX as it was, and that copy alone changed. -/
theorem rtCopied (d : Dev) (low : Bool) (c : Option (List Nat)) :
    let t := raise 150 (setCopy low c (setFld CELL_RT_STATUS.RESULT 1 (rtTaken d)))
    fld CELL_RT_STATUS.RESULT t = 1 ∧ fld CELL_RT_STATUS.ERR_IDX t = fld CELL_RT_STATUS.ERR_IDX d ∧
    t.en = if low then { d.en with radLow := c } else { d.en with radHigh := c } := by
  refine ⟨?_, ?_, ?_⟩
  · rw [fld_raise_setCopy rfl, result_setFld_rtTaken d (by decide)]
  · rw [fld_raise_setCopy rfl, errIdx_setFld_rtTaken]
  · rw [raise_en, setCopy_en, setFld_en]
    simp [rtTaken, modCw]

/-- A table that falls at entry `i` changes no copy: RESULT 2, ERR_IDX and a NOTE tell it (log entry 30). -/
theorem rtDone_of_unordered {d : Dev} {a i : Nat} (ha : d.cw.rtAction = some a) (h : a = 1 ∨ a = 2)
    (hf : rtFail 0 (rtTable d) = some i) (hm : mainRuns d = true) :
    fld CELL_RT_STATUS.RESULT (rtDone d) = 2 ∧ fld CELL_RT_STATUS.ERR_IDX (rtDone d) = i ∧ (rtDone d).en = d.en ∧
    (d.evt.queue.length < 512 → ∃ e, (rtDone d).evt.queue = d.evt.queue ++ [e] ∧ e.kind = 6 ∧ e.source = 144 ∧
      e.payload = [i, a, 0, 0]) := by
  have hlt : i < 4095 := (rtFail_spec hf).1
  have he := (rtEnded_result d 2).setFld (f := CELL_RT_STATUS.ERR_IDX) rfl (by decide) i
  have hfld (f : Fld) (hfa : f.addr = CELL_RT_STATUS.addr) (t : Dev) : fld f (raise 150 (note 144 [i, a] t)) = fld f t :=
    fld_congr (by rw [hfa, rdReg_raise _ (by decide) (by decide), rdReg_note _ _ _ (by decide)])
  rw [rtDone_unordered ha h hf]
  refine ⟨?_, ?_, ?_, fun hq => ?_⟩
  · rw [hfld _ rfl, fld_setFld_ne _ _ (by decide), result_setFld_rtTaken d (by decide)]
  · rw [hfld _ rfl, fld_setFld_same _ _ _ (by decide)]
    exact Nat.mod_eq_of_lt (show i < 4096 by omega)
  · simp [rtTaken, modCw]
  · rw [raise_evt]
    have hevt : (setFld CELL_RT_STATUS.ERR_IDX i (setFld CELL_RT_STATUS.RESULT 2 (rtTaken d))).evt = d.evt := by
      simp [rtTaken, modCw]
    have hn := note_queue 144 [i, a] ((mainRuns_congr he.state).trans hm) (by rwa [hevt])
    rwa [hevt] at hn

/-! ### The statement (O30) -/

/-- Settles O30: a write of its registers is one of the operations above, and RT_CMD_DONE ends in one of three ways, a copy
of an ordered table, a NOTE of the first entry that falls, or a copy cleared. -/
theorem radiometricTablesAreStagedAndCommitted : Obligations.RadiometricTablesAreStagedAndCommitted := by
  intro s d busy entry starts refused
  have hstarts (p : Path) (v : BitVec 32) (hd : reachable d) (hb : busy d = false) (c : Instr) (k : Nat)
      (hk : 1 ≤ k ∧ k ≤ 4) (hc : exec c s = devStep (actionWrite p CELL_RT_CMD.ACTION k v) s) : starts c k := by
    refine makes_of_devStep hc ?_
    rw [actionWrite_rtCmd hd p v hk, rtCmd_idle hb]
    refine ⟨flag_setFlag_same _ _ d (by decide) (by decide), ?_, ?_, regsKeptBut_setFlag CELL_RT_STATUS.BUSY true d⟩
    · simp [modCw, d]
    · simp [modCw, d]
  have hrefused (p : Path) (v : BitVec 32) (hd : reachable d) (hb : busy d = true) (c : Instr) (k : Nat)
      (hk : 1 ≤ k ∧ k ≤ 4) (hc : exec c s = devStep (actionWrite p CELL_RT_CMD.ACTION k v) s) : refused c k := by
    refine makes_of_devStep hc ?_
    rw [actionWrite_rtCmd hd p v hk, rtCmd_busy hb]
  refine ⟨fun p v hd hb => ⟨?_, fun hv => ?_, fun hv => ?_, hstarts p v hd hb _ 1 (by decide) rfl,
      hstarts p v hd hb _ 2 (by decide) rfl, hstarts p v hd hb _ 3 (by decide) rfl,
      hstarts p v hd hb _ 4 (by decide) rfl⟩,
    fun p v hd hb => ⟨hrefused p v hd hb _ 1 (by decide) rfl, hrefused p v hd hb _ 2 (by decide) rfl,
      hrefused p v hd hb _ 3 (by decide) rfl, hrefused p v hd hb _ 4 (by decide) rfl, ?_, ?_⟩,
    fun a ha hm => ?_⟩
  · refine makes_of_devStep (f := busWrite p CELL_RT_DATA.addr v) rfl ?_
    rw [busWrite_rtData hd]
    refine ⟨?_, ?_, fun k h0 h1 => ?_, ?_, ?_⟩
    · simp [entry, rtEntry_rtDataWrite hb]
    · simp [entry, rtEntry_rtDataWrite hb]
    · simp [entry, rtEntry_rtDataWrite hb, h0, h1]
    · rw [rtDataWrite_idle hb, fld_setFld_same _ _ _ (by decide)]
      exact Nat.mod_mod _ _
    · rw [rtDataWrite_idle hb]
      exact regsKeptBut_setFld CELL_RT_IDX.IDX _ _
  · refine makes_of_devStep (f := busWrite p CELL_RT_IDX.addr v) rfl ?_
    rw [busWrite_rtIdx_idle hd hb, if_pos hv]
    refine ⟨?_, regsKeptBut_setFld CELL_RT_IDX.IDX _ _, setFld_cw ..⟩
    rw [fld_setFld_same _ _ _ (by decide)]
    exact Nat.mod_mod _ _
  · refine makes_of_devStep (f := busWrite p CELL_RT_IDX.addr v) rfl ?_
    rw [busWrite_rtIdx_idle hd hb, if_neg (by omega)]
  · refine makes_of_devStep (f := busWrite p CELL_RT_DATA.addr v) rfl ?_
    rw [busWrite_rtData hd, rtDataWrite, if_pos hb]
  · refine makes_of_devStep (f := busWrite p CELL_RT_IDX.addr v) rfl ?_
    rw [busWrite_rtIdx_busy hd hb]
  · refine makes_of_devStep (f := rtDone) rfl ?_
    obtain ⟨hended, hraised⟩ := rtEnded_rtDone ha hm
    refine ⟨hended.idle, hended.action, hraised, hended.stage, fun h1 ho => ?_, fun h2 ho => ?_, fun h12 ho => ?_,
      fun h3 => ?_, fun h4 => ?_⟩
    · obtain ⟨hres, -, hen⟩ := rtCopied d false (some (rtTable d))
      rw [rtDone_committed ha (.inl h1) (rtFail_of_rtOrdered ho), h1]
      exact ⟨hres, by rw [← rtTable_eq_map]; exact hen⟩
    · obtain ⟨hres, -, hen⟩ := rtCopied d true (some (rtTable d))
      rw [rtDone_committed ha (.inr h2) (rtFail_of_rtOrdered ho), h2]
      exact ⟨hres, by rw [← rtTable_eq_map]; exact hen⟩
    · obtain ⟨i, hf⟩ := rtFail_of_not_rtOrdered ho
      obtain ⟨hres, herr, hen, hq⟩ := rtDone_of_unordered ha h12 hf hm
      obtain ⟨-, hlt, hle⟩ := rtFail_spec hf
      dsimp only
      rw [herr]
      exact ⟨hres, hen, hlt, hle, hq⟩
    · obtain ⟨hres, herr, hen⟩ := rtCopied d false none
      rw [rtDone_cleared ha (by omega), h3]
      exact ⟨hres, hen, herr⟩
    · obtain ⟨hres, herr, hen⟩ := rtCopied d true none
      rw [rtDone_cleared ha (by omega), h4]
      exact ⟨hres, hen, herr⟩

end Sys2Proof.Machine
end

section
/-! SUPPORT. Writes of registers: those that a write only sets, those whose bits a 1 clears, those that take no write, and
pairs; and what a read returns and leaves (00_scope.md R19 to R22; 12_field_side.md R307). -/

namespace Sys2Proof.Machine

/-! ### Registers that a write only sets -/

/-- A register that stands alone and whose write does nothing beyond the value that it leaves. -/
def setOnly (a : Nat) : Bool := standsAlone a && (regInfo a).any (fun r => !actsOnWrite r.base)

theorem busWrite_of_setOnly {a : Nat} {d : Dev} (hd : reachable d) (h : setOnly a = true) (p : Path) (v : BitVec 32) :
    busWrite p a v d =
      if encodingAt a (valueLeft a v d) d then wrReg a (valueLeft a v d) d else noteReserved a v d := by
  simp only [setOnly, Bool.and_eq_true] at h
  obtain ⟨halone, hset⟩ := h
  cases hr : regInfo a with
  | none => simp [hr] at hset
  | some r =>
    have hacts : actsOnWrite r.base = false := by simpa [hr] using hset
    have hidx : r.base = CELL_RT_IDX.addr → flag CELL_RT_STATUS.BUSY d = false := fun hb => by
      rw [hb] at hacts
      exact absurd hacts (by decide)
    rw [busWrite_of_standsAlone hd halone hr hidx, writeEffect_of_not_actsOnWrite hacts]

theorem setOnly_of_mem_plainRegs : ∀ a ∈ plainRegs, setOnly a = true ∧ eventReg a = false := by decide +kernel

/-! ### Encodings -/

/-- The registers of which some value is reserved (R22). -/
def restricted (b : Nat) : Bool :=
  [FPA_MODE.addr, FPA_INT.addr, FPA_PLAUS.addr, FPA_GRP_CTRL.addr, SLATE_TRIM.addr, HERD_CFG.addr, CAL_LEDGER_CFG.addr,
   PIPE_CLK.addr, PIPE_HIST.addr, PIPE_ENG_CTRL.addr, TAKE_CFG.addr, TAKE_LIM.addr, TAKE_ST.addr, CELL_RT_IDX.addr,
   CELL_RT_CMD.addr, CELL_ZONE0.addr 0, CELL_ZONE2.addr 0, RING_CMD.addr, EVT_FORCE.addr, GAF_PLIM.addr, GAF_GRAD.addr,
   GAF_WARM.addr, GAF_IGN.addr 0, NVS_CMD.addr, FLP_CFG.addr, FLP_CMD.addr, MGP_CFG.addr, MGP_LEN.addr,
   ENGP_CMD.addr].contains b

theorem encodingOk_of_not_restricted {b : Nat} (h : restricted b = false) (n : Nat) (v : BitVec 32) (d : Dev) :
    encodingOk b n v d = true := by
  simp only [restricted, List.contains_eq_mem, List.mem_cons, List.not_mem_nil, or_false, decide_eq_false_iff_not,
    not_or] at h
  simp only [encodingOk, h, if_false, ite_self]

/-! ### Bits that a 1 clears (R20) -/

/-- The registers that have W1C fields alone, each with the mask of its fields. -/
def w1cRegs : List (Nat × BitVec 32) :=
  [(CAL_RD_STATUS.addr, 0x60000000#32), (NVS_STATUS.addr, 0x40000000#32), (FLP_STATUS.addr, 0x40000000#32),
   (MGP_STATUS.addr, 0x1FE#32), (MGP_LOG.addr, 0x80000000#32), (MGP_ATTN.addr, 0x1F#32), (ENGP_STATUS.addr, 0x40#32)] ++
    (List.range 8).map (fun k => (EVT_STAT.addr k, 0xFFFFFFFF#32))

/-- The register at `a` stands alone, takes any value, and a write only clears bits of the mask `m`. -/
def clearsOnly (a : Nat) (m : BitVec 32) : Bool :=
  standsAlone a && (regInfo a).any (fun r => !restricted r.base && r.rw == 0 && r.wo == 0 && r.w1c == m &&
    (!actsOnWrite r.base || (a == MGP_ATTN.addr && r.base == MGP_ATTN.addr)))

theorem clearsOnly_of_mem_w1cRegs : ∀ x ∈ w1cRegs, clearsOnly x.1 x.2 = true := by decide +kernel

theorem merged_of_no_rw {r : RegInfo} (hrw : r.rw = 0) (hwo : r.wo = 0) (old v : BitVec 32) :
    merged r old v = old &&& ~~~ (v &&& r.w1c) := by
  simp only [merged, hrw, hwo, BitVec.ofNat_eq_ofNat, BitVec.or_zero, BitVec.and_zero, BitVec.not_zero,
    BitVec.and_allOnes]

/-- Bits that are cleared assert no attention (11_management_port.md R289, R290). -/
theorem attnChange_clear (w : BitVec 32) (d : Dev) :
    attnChange (wrReg MGP_ATTN.addr (rdReg MGP_ATTN.addr d &&& w)) d =
      wrReg MGP_ATTN.addr (rdReg MGP_ATTN.addr d &&& w) d := by
  have hkeep : attnLow (wrReg MGP_ATTN.addr (rdReg MGP_ATTN.addr d &&& w) d) = true → attnLow d = true := by
    simp only [attnLow, rdReg_wrReg_same, rdReg_wrReg_ne (a := MGP_ATTN.addr) (b := MGP_ATTN_EN.addr) _ d (by decide),
      bne_iff_ne]
    refine fun h h0 => h ?_
    rw [BitVec.and_assoc, BitVec.and_comm w, ← BitVec.and_assoc, h0]
    exact BitVec.zero_and
  unfold attnChange whenD
  dsimp only
  split
  · rename_i h
    simp only [Bool.and_eq_true, Bool.not_eq_true'] at h
    rw [hkeep h.1] at h
    exact absurd h.2 (by decide)
  · rfl

theorem busWrite_of_clearsOnly {a : Nat} {m : BitVec 32} {d : Dev} (hd : reachable d) (h : clearsOnly a m = true)
    (p : Path) (v : BitVec 32) : busWrite p a v d = wrReg a (rdReg a d &&& ~~~ (v &&& m)) d := by
  simp only [clearsOnly, Bool.and_eq_true] at h
  obtain ⟨halone, hclear⟩ := h
  cases hr : regInfo a with
  | none => simp [hr] at hclear
  | some r =>
    simp only [hr, Option.any_some, Bool.and_eq_true, Bool.or_eq_true, Bool.not_eq_true', beq_iff_eq, and_assoc] at hclear
    obtain ⟨hfree, hrw, hwo, hmask, hacts⟩ := hclear
    have hidx : r.base = CELL_RT_IDX.addr → flag CELL_RT_STATUS.BUSY d = false := fun hb => by
      rw [hb] at hfree
      exact absurd hfree (by decide)
    have hval : valueLeft a v d = rdReg a d &&& ~~~ (v &&& m) := by
      rw [valueLeft_of_regInfo hr, merged_of_no_rw hrw hwo, hmask]
    rw [busWrite_of_standsAlone hd halone hr hidx, encodingAt_of_regInfo hr, encodingOk_of_not_restricted hfree,
      if_pos rfl, hval]
    rcases hacts with hacts | ⟨rfl, hattn⟩
    · exact writeEffect_of_not_actsOnWrite hacts ..
    · rw [hattn]
      exact attnChange_clear _ d

/-! ### The violation count (10_events_errors.md R260) -/

theorem regInfo_violCnt : regInfo EVT_VIOL_CNT.addr =
    some ⟨"EVT_VIOL_CNT", EVT_VIOL_CNT.addr, 4, 1, 0, 0, 0x8000#32, 0xFFFF0000#32, 0x10#32⟩ := by
  decide +kernel

/-- A write without CLEAR. -/
theorem busWrite_violCnt {d : Dev} (hd : reachable d) (p : Path) {v : BitVec 32} (h : v.getLsbD 4 = false) :
    busWrite p EVT_VIOL_CNT.addr v d =
      wrReg EVT_VIOL_CNT.addr (rdReg EVT_VIOL_CNT.addr d &&& ~~~ 0x10#32 &&& ~~~ (v &&& 0x8000#32)) d := by
  have hv : v &&& 0x10#32 = 0 := by
    apply BitVec.eq_of_getLsbD_eq
    intro i hi
    have hbit : (0x10#32).getLsbD i = decide (i = 4) := by
      revert i
      decide
    rw [BitVec.getLsbD_and, hbit]
    by_cases hi4 : i = 4
    · rw [hi4, h]
      rfl
    · simp [hi4]
  have hval : valueLeft EVT_VIOL_CNT.addr v d =
      rdReg EVT_VIOL_CNT.addr d &&& ~~~ 0x10#32 &&& ~~~ (v &&& 0x8000#32) := by
    rw [valueLeft_of_regInfo regInfo_violCnt]
    simp only [merged, BitVec.ofNat_eq_ofNat, BitVec.zero_or, hv, BitVec.or_zero]
  have hclear : getBits (valueLeft EVT_VIOL_CNT.addr v d) 4 4 = 0 := by
    apply Nat.eq_of_testBit_eq
    intro i
    rw [getBits_bit, hval, Nat.zero_testBit]
    cases i with
    | zero => simp
    | succ i => simp
  have hkeep : valueLeft EVT_VIOL_CNT.addr v d &&& ~~~ 0x10#32 = valueLeft EVT_VIOL_CNT.addr v d := by
    rw [hval, BitVec.and_assoc, BitVec.and_assoc, BitVec.and_comm (~~~ (v &&& 0x8000#32)),
      ← BitVec.and_assoc (~~~ 0x10#32), BitVec.and_self, ← BitVec.and_assoc]
  have heff : writeEffect EVT_VIOL_CNT.addr EVT_VIOL_CNT.addr 0 (valueLeft EVT_VIOL_CNT.addr v d) d =
      wrReg EVT_VIOL_CNT.addr (valueLeft EVT_VIOL_CNT.addr v d) d := by
    show whenD (getBits (valueLeft EVT_VIOL_CNT.addr v d) 4 4 == 1) violClear
      (wrReg EVT_VIOL_CNT.addr (valueLeft EVT_VIOL_CNT.addr v d &&& ~~~ 0x10#32) d) = _
    rw [hclear, hkeep]
    rfl
  rw [busWrite_of_standsAlone hd (by decide +kernel) regInfo_violCnt (fun h => absurd h (by decide)),
    encodingAt_of_regInfo regInfo_violCnt, encodingOk_of_not_restricted (by decide), if_pos rfl, ← hval]
  exact heff

/-! ### Registers that take no write -/

theorem busWrite_of_readOnly {a : Nat} {r : RegInfo} {d : Dev} {p : Path} (hr : regInfo a = some r)
    (ht : target p a true d = .reg) (hrw : r.rw = 0) (hw1c : r.w1c = 0) (hwo : r.wo = 0) (v : BitVec 32) :
    busWrite p a v d = d := by
  have hign : a ≠ GAF_IGN.addr 6 := by
    rintro rfl
    have : (regInfo (GAF_IGN.addr 6)).any (fun r => r.rw != 0) = true := by decide +kernel
    simp [hr, hrw] at this
  have hmask : rwMask a r = r := if_neg hign
  rw [busWrite_of_reg ht]
  simp [regWrite, hr, hmask, RegInfo.writable, hrw, hw1c, hwo]

/-! ### Pairs (R19) -/

@[simp] theorem pathRegs_modPath (p : Path) (f : PathRegs → PathRegs) (d : Dev) :
    pathRegs p (modPath p f d) = f (pathRegs p d) := by
  cases p <;> rfl

/-- What a path keeps is no register, nor any other part of the machine. -/
@[simp] theorem rdReg_modPath (p : Path) (f : PathRegs → PathRegs) (d : Dev) (a : Nat) :
    rdReg a (modPath p f d) = rdReg a d := by
  cases p <;> rfl
@[simp] theorem modPath_main (p : Path) (f : PathRegs → PathRegs) (d : Dev) : (modPath p f d).main = d.main := by
  cases p <;> rfl
@[simp] theorem modPath_aux (p : Path) (f : PathRegs → PathRegs) (d : Dev) : (modPath p f d).aux = d.aux := by
  cases p <;> rfl
@[simp] theorem pairLow_modPath (p : Path) (f : PathRegs → PathRegs) (d : Dev) (a : Nat) :
    pairLow a (modPath p f d) = pairLow a d := by
  cases p <;> rfl
@[simp] theorem mirGen_modPath (p : Path) (f : PathRegs → PathRegs) (d : Dev) (k : Nat) :
    mirGen k (modPath p f d) = mirGen k d := by
  cases p <;> rfl
@[simp] theorem mirAge_modPath (p : Path) (f : PathRegs → PathRegs) (d : Dev) (k : Nat) :
    mirAge k (modPath p f d) = mirAge k d := by
  cases p <;> rfl

/-- The word at `a` is the low one of a pair in every state: no slot of CAL_RD_DATA_n. -/
def alwaysLow (a : Nat) : Bool :=
  pairLows.contains a && !(decide (CAL_RD_DATA.addr 0 ≤ a) && decide (a < CAL_RD_DATA.addr 128))

theorem pairLow_of_alwaysLow {a : Nat} (h : alwaysLow a = true) (d : Dev) : pairLow a d = true := by
  simp only [alwaysLow, Bool.and_eq_true] at h
  obtain ⟨hlow, hcal⟩ := h
  rw [pairLow, hlow, hcal, Bool.or_true, Bool.and_true]

/-- A low word that a write reaches. -/
def lowWord (a : Nat) : Bool :=
  implemented a true && portBlock a && a != GAF_IGN.addr 6 && alwaysLow a && (regInfo a).any RegInfo.writable

/-- A high word that a write sets whole, and where it does nothing more. -/
def highWord (a : Nat) : Bool :=
  implemented a true && portBlock a && a != GAF_IGN.addr 6 && !mirrorAddr a && !pairLows.contains a &&
  (regInfo a).any (fun r =>
    r.writable && r.rw ||| r.wo == BitVec.allOnes 32 && !restricted r.base && !actsOnWrite r.base)

theorem pairs_low_high : ∀ a ∈ [SLATE_TLOAD_LO.addr, RING_CTX.addr 0], lowWord a = true ∧ highWord (a + 4) = true := by
  decide +kernel

theorem busWrite_low {a : Nat} {d : Dev} (hd : reachable d) (h : lowWord a = true) (p : Path) (v : BitVec 32) :
    busWrite p a v d = modPath p (fun x => { x with low := mput x.low a v }) d := by
  simp only [lowWord, Bool.and_eq_true, bne_iff_ne, and_assoc] at h
  obtain ⟨himp, hport, hign, hlow, hw⟩ := h
  rw [busWrite_of_reg (target_of_reachable hd p himp hport)]
  cases hr : regInfo a with
  | none => simp [hr] at hw
  | some r =>
    have hmask : rwMask a r = r := if_neg hign
    simp only [hr, Option.any_some] at hw
    simp [regWrite, hr, hmask, hw, pairLow_of_alwaysLow hlow]

/-- The high word takes effect with the low word that the path has written. -/
theorem busWrite_high {a : Nat} {lo : BitVec 32} {d : Dev} {p : Path} (hd : reachable d) (hlow : lowWord a = true)
    (h : highWord (a + 4) = true) (hl : mfind (pathRegs p d).low a = some lo) (v : BitVec 32) :
    busWrite p (a + 4) v d = wrReg (a + 4) v (wrReg a lo d) := by
  simp only [lowWord, Bool.and_eq_true] at hlow
  simp only [highWord, Bool.and_eq_true, Bool.not_eq_true', bne_iff_ne, and_assoc] at h
  obtain ⟨himp, hport, hign, hmir, hhigh, hany⟩ := h
  have hpair : pairLow (a + 4 - 4) d = true := pairLow_of_alwaysLow hlow.1.2 d
  have hself : pairLow (a + 4) d = false := by rw [pairLow, hhigh, Bool.false_and]
  rw [busWrite_of_reg (target_of_reachable hd p himp hport)]
  cases hr : regInfo (a + 4) with
  | none => simp [hr] at hany
  | some r =>
    have hmask : rwMask (a + 4) r = r := if_neg hign
    simp only [hr, Option.any_some, Bool.and_eq_true, Bool.not_eq_true', beq_iff_eq, and_assoc] at hany
    obtain ⟨hw, hall, hfree, hacts⟩ := hany
    have hidx : r.base ≠ CELL_RT_IDX.addr := fun hb => by
      rw [hb] at hacts
      exact absurd hacts (by decide)
    simp only [regWrite, hr, hmask, hw, hself, hmir, merged_of_allOnes hall, hidx, false_and,
      encodingOk_of_not_restricted hfree, hpair, writeEffect_of_not_actsOnWrite hacts]
    simp [hl]

/-! ### Reads (R19, R20) -/

@[simp] theorem returned_readData (x : BitVec 64) (d : Dev) : (returned x d).readData = x := rfl
@[simp] theorem rdReg_returned (x : BitVec 64) (d : Dev) (a : Nat) : rdReg a (returned x d) = rdReg a d := rfl
@[simp] theorem pathRegs_returned (x : BitVec 64) (d : Dev) (p : Path) : pathRegs p (returned x d) = pathRegs p d := by
  cases p <;> rfl
@[simp] theorem pairLow_returned (x : BitVec 64) (d : Dev) (a : Nat) : pairLow a (returned x d) = pairLow a d := rfl
@[simp] theorem mirGen_returned (x : BitVec 64) (d : Dev) (k : Nat) : mirGen k (returned x d) = mirGen k d := rfl
@[simp] theorem mirAge_returned (x : BitVec 64) (d : Dev) (k : Nat) : mirAge k (returned x d) = mirAge k d := rfl

theorem readValue_of_none {p : Path} {a : Nat} {d : Dev} (h : mfind (pathRegs p d).high a = none) :
    readValue p a d = regView p a d := by
  simp [readValue, h]

/-- A latched high word is what every read of it returns. -/
theorem readValue_of_latched {p : Path} {a : Nat} {x : BitVec 32} {d : Dev} (hl : pairLow a d = true)
    (h : mfind (pathRegs p d).high (a + 4) = some x) : readValue p (a + 4) d = x := by
  simp [readValue, h, hl]

theorem regRead_of_not_pairLow {a : Nat} {d : Dev} (h : pairLow a d = false) (p : Path) :
    regRead p a d = readEffect p a d := by
  simp [regRead, h]

/-- A read of a register that is no mirror clears its RC fields. -/
theorem readEffect_of_regInfo {a : Nat} {r : RegInfo} (hr : regInfo a = some r) (hc : r.base ≠ RING_CNT.addr)
    (hm : mirrorAddr a = false) (p : Path) (d : Dev) :
    readEffect p a d = if r.rc = 0 then d else wrReg a (rdReg a d &&& ~~~ r.rc) d := by
  simp [readEffect, hr, hc, hm]

theorem rdReg_readEffect {a : Nat} {r : RegInfo} (hr : regInfo a = some r) (hc : r.base ≠ RING_CNT.addr)
    (hm : mirrorAddr a = false) (p : Path) (d : Dev) : rdReg a (readEffect p a d) = rdReg a d &&& ~~~ r.rc := by
  rw [readEffect_of_regInfo hr hc hm]
  split
  · rename_i h0
    rw [h0]
    exact (BitVec.and_allOnes (x := rdReg a d)).symm
  · exact rdReg_wrReg_same ..

theorem regsKeptBut_readEffect {a : Nat} {r : RegInfo} (hr : regInfo a = some r) (hc : r.base ≠ RING_CNT.addr)
    (hm : mirrorAddr a = false) (p : Path) (d : Dev) : regsKeptBut [a] d (readEffect p a d) := by
  rw [readEffect_of_regInfo hr hc hm]
  split
  · exact fun _ _ => rfl
  · exact regsKeptBut_wrReg a _ d

theorem pathRegs_congr {d t : Dev} (h : t.bus = d.bus) (p : Path) : pathRegs p t = pathRegs p d := by
  cases p <;> simp [pathRegs, h]

/-- What a read takes with it leaves the latched words of its path. -/
theorem readEffect_high (p : Path) (a : Nat) (d : Dev) : (pathRegs p (readEffect p a d)).high = (pathRegs p d).high := by
  cases hr : regInfo a with
  | none => simp [readEffect, hr]
  | some r =>
    have hbus : (if r.rc = 0 then d else wrReg a (rdReg a d &&& ~~~ r.rc) d).bus = d.bus := by
      split
      · rfl
      · exact wrReg_bus ..
    simp only [readEffect, hr]
    split
    · exact congrArg PathRegs.high (pathRegs_congr rfl p)
    · split
      · rw [pathRegs_modPath, pathRegs_congr hbus]
      · rw [pathRegs_congr hbus]

/-- No low word of a pair has a field that a read clears. -/
theorem pairLows_rc : ∀ a ∈ pairLows,
    (regInfo a).all (fun r => r.base != RING_CNT.addr && r.rc == 0) = true ∧ mirrorAddr a = false := by
  decide +kernel

theorem readEffect_of_pairLow {a : Nat} {d : Dev} (h : pairLow a d = true) (p : Path) (e : Dev) : readEffect p a e = e := by
  simp only [pairLow, Bool.and_eq_true, List.contains_eq_mem, decide_eq_true_eq] at h
  obtain ⟨hall, hm⟩ := pairLows_rc a h.1
  cases hr : regInfo a with
  | none => simp [readEffect, hr]
  | some r =>
    simp only [hr, Option.all_some, Bool.and_eq_true, bne_iff_ne, beq_iff_eq] at hall
    rw [readEffect_of_regInfo hr hall.1 hm, if_pos hall.2]

/-- A read of the low word latches the high word, and does nothing else. -/
theorem regRead_of_pairLow {a : Nat} {d : Dev} (h : pairLow a d = true) (p : Path) :
    regRead p a d = modPath p (fun x => { x with high := mput x.high (a + 4) (regView p (a + 4) d) }) d := by
  simp only [regRead, h, if_true]
  exact readEffect_of_pairLow h p _

theorem regRead_high_kept (p : Path) (a : Nat) (d : Dev) :
    mfind (pathRegs p (regRead p a d)).high a = mfind (pathRegs p d).high a := by
  unfold regRead
  dsimp only
  rw [readEffect_high]
  split
  · rw [pathRegs_modPath]
    exact mfind_mput_ne _ _ (by omega)
  · rfl

/-- A read of the low word returns it, changes no register, and latches the high word for the next read of that. -/
theorem busRead_low {a : Nat} {d : Dev} {p : Path} (hl : pairLow a d = true) (ht : target p a false d = .reg)
    (hn : mfind (pathRegs p d).high a = none) :
    (busRead p a d).readData = (regView p a d).setWidth 64 ∧
    mfind (pathRegs p (busRead p a d)).high (a + 4) = some (regView p (a + 4) d) ∧
    regsKeptBut [] d (busRead p a d) ∧ pairLow a (busRead p a d) = true := by
  rw [busRead_of_reg ht, readValue_of_none hn, regRead_of_pairLow hl]
  exact ⟨rfl, by simp, fun _ _ => by simp, by simpa using hl⟩

/-- A read of a latched high word returns it, and leaves it latched. -/
theorem busRead_latched {a : Nat} {x : BitVec 32} {d : Dev} {p : Path} (hl : pairLow a d = true)
    (ht : target p (a + 4) false d = .reg) (hx : mfind (pathRegs p d).high (a + 4) = some x) :
    (busRead p (a + 4) d).readData = x.setWidth 64 ∧ mfind (pathRegs p (busRead p (a + 4) d)).high (a + 4) = some x := by
  rw [busRead_of_reg ht, readValue_of_latched hl hx]
  exact ⟨rfl, by rw [pathRegs_returned, regRead_high_kept, hx]⟩

/-! ### Mirrors (12_field_side.md R307) -/

/-- The row that holds an address, and that it holds it. -/
theorem mem_of_regInfo {a : Nat} {r : RegInfo} (h : regInfo a = some r) : r ∈ regInfos ∧ r.covers a = true := by
  have hfind : regInfos.find? (fun r => r.covers a) = some r := h
  have hcov := List.find?_some hfind
  exact ⟨List.mem_of_find?_eq_some hfind, hcov⟩

/-- No row of the mirrors has a field that a read clears. -/
theorem mirrorRows_rc : ∀ r ∈ regInfos, r.base + r.stride * r.count ≤ 0xD100 ∨ 0xD300 ≤ r.base ∨
    (r.base ≠ RING_CNT.addr ∧ r.rc = 0) := by
  decide +kernel

theorem rc_of_mirrorAddr {a : Nat} {r : RegInfo} (hr : regInfo a = some r) (hm : mirrorAddr a = true) :
    r.base ≠ RING_CNT.addr ∧ r.rc = 0 := by
  obtain ⟨hmem, hcov⟩ := mem_of_regInfo hr
  simp only [RegInfo.covers, mirrorAddr, Bool.and_eq_true, decide_eq_true_eq] at hcov hm
  rcases mirrorRows_rc r hmem with hbelow | habove | h
  · omega
  · omega
  · exact h

/-- A read of a mirror leaves its GEN and AGE in FLD_MREAD of the path. -/
theorem readEffect_mirror (p : Path) (k : Fin 128) (d : Dev) {r : RegInfo} (hr : regInfo (0xD100 + 4 * k.val) = some r) :
    readEffect p (0xD100 + 4 * k.val) d =
      modPath p (fun x => { x with
        mread := (0 : BitVec 32) |> putF FLD_MREAD.GEN (mirGen k.val d) |> putF FLD_MREAD.AGE (mirAge k.val d) }) d := by
  have hk : (0xD100 + 4 * k.val - 0xD100) / 4 = k.val := by omega
  have hm : mirrorAddr (0xD100 + 4 * k.val) = true := by
    simp only [mirrorAddr, Bool.and_eq_true, decide_eq_true_eq]
    omega
  obtain ⟨hc, h0⟩ := rc_of_mirrorAddr hr hm
  simp only [readEffect, hr, hc, h0, hm, hk, if_false, if_true]

theorem mirAge_le (k : Nat) (d : Dev) : mirAge k d ≤ 0xFFFFFF := by
  unfold mirAge
  split
  · exact Nat.min_le_left _ _
  · exact Nat.le_refl _

theorem mread_gen (x y : Nat) :
    getBits ((0 : BitVec 32) |> putF FLD_MREAD.GEN x |> putF FLD_MREAD.AGE y) FLD_MREAD.GEN.hi FLD_MREAD.GEN.lo =
      x % 256 := by
  simp only [putF]
  rw [getBits_setBits_ne _ _ (by decide), getBits_setBits_same _ _ (by decide)]
  rfl

theorem mread_age (x : Nat) {y : Nat} (h : y ≤ 0xFFFFFF) :
    getBits ((0 : BitVec 32) |> putF FLD_MREAD.GEN x |> putF FLD_MREAD.AGE y) FLD_MREAD.AGE.hi FLD_MREAD.AGE.lo = y := by
  simp only [putF]
  rw [getBits_setBits_same _ _ (by decide)]
  exact Nat.mod_eq_of_lt (show y < 2 ^ 24 by omega)

theorem busRead_mirror {k : Fin 128} {r : RegInfo} {d : Dev} {p : Path} (hd : reachable d)
    (hr : regInfo (0xD100 + 4 * k.val) = some r) (hl : pairLow (0xD100 + 4 * k.val) d = false)
    (hn : mfind (pathRegs p d).high (0xD100 + 4 * k.val) = none) :
    let t := busRead p (0xD100 + 4 * k.val) d
    t.readData = (regView p (0xD100 + 4 * k.val) d).setWidth 64 ∧
    getBits (pathRegs p t).mread FLD_MREAD.GEN.hi FLD_MREAD.GEN.lo = mirGen k.val t % 256 ∧
    getBits (pathRegs p t).mread FLD_MREAD.AGE.hi FLD_MREAD.AGE.lo = mirAge k.val t := by
  have hport : portBlock (0xD100 + 4 * k.val) = true := by
    simp only [portBlock, Bool.or_eq_true, decide_eq_true_eq]
    omega
  have hreg : target p (0xD100 + 4 * k.val) false d = .reg :=
    target_of_reachable hd p (implemented_of_regInfo hr) hport
  rw [busRead_of_reg hreg, readValue_of_none hn, regRead_of_not_pairLow hl, readEffect_mirror p k d hr]
  simp only [returned_readData, pathRegs_returned, pathRegs_modPath, mirGen_returned, mirGen_modPath, mirAge_returned,
    mirAge_modPath]
  exact ⟨trivial, mread_gen _ _, mread_age _ (mirAge_le _ _)⟩

/-! ### The count of the selected ring (09_host_rings.md R243, R245) -/

theorem regInfo_ringCnt : regInfo RING_CNT.addr =
    some ⟨"RING_CNT", RING_CNT.addr, 4, 1, 0, 0, 0, 0xFFFFFFFF#32, 0⟩ := by
  decide +kernel

theorem busRead_ringCnt {d : Dev} (hd : reachable d) (p : Path) :
    busRead p RING_CNT.addr d = returned ((readValue p RING_CNT.addr d).setWidth 64) (ringCntClear d) := by
  have hlow : pairLow RING_CNT.addr d = false := by
    rw [pairLow, show pairLows.contains RING_CNT.addr = false by decide +kernel, Bool.false_and]
  have heff : readEffect p RING_CNT.addr d = ringCntClear d := by simp [readEffect, regInfo_ringCnt]
  rw [busRead_of_reg (target_of_reachable hd p (by decide +kernel) (by decide)), regRead_of_not_pairLow hlow, heff]

theorem ring_ringCntClear (d : Dev) :
    ring (fld RING_SEL.RING d) (ringCntClear d) = { ring (fld RING_SEL.RING d) d with dropped := 0, overflow := 0 } :=
  mget_mset_same _ _ _ _

/-! ### The statement (O26) -/

/-- A value set in a register differs from the state before in the registers alone. -/
theorem state_wrReg (s : State) (a : Nat) (v : BitVec 32) :
    { s with dev := wrReg a v s.dev } =
      { s with dev := { s.dev with main := (wrReg a v s.dev).main, aux := (wrReg a v s.dev).aux } } :=
  congrArg (fun x => { s with dev := x }) (wrReg_eq a v s.dev)

/-- Settles O26, by what one access does at a register of each kind: set by a write, cleared by a 1, read-only, a word of a
pair, cleared by a read, a mirror. -/
theorem registerAccesses : Obligations.RegisterAccesses := by
  intro s p v d hd
  refine ⟨fun a ha => ⟨fun hok => ?_, fun hbad => ?_⟩, fun x hx => ?_, fun hv => ?_, fun a r hr ht hrw hw1c hwo => ?_,
    fun a ha => ⟨fun lo hlo => ?_, ?_⟩, fun a r hr ht hc hm hl hn => ?_, ?_, fun a hl ht hn => ?_,
    fun a x hl ht hx => ?_, fun k r hr hn hl => ?_⟩
  · refine makes_of_devStep (f := busWrite p a v) rfl ?_
    rw [busWrite_of_setOnly hd (setOnly_of_mem_plainRegs a ha).1, if_pos hok]
    exact ⟨rdReg_wrReg_same .., regsKeptBut_wrReg a _ d, state_wrReg ..⟩
  · refine makes_of_devStep (f := busWrite p a v) rfl ?_
    obtain ⟨hset, hev⟩ := setOnly_of_mem_plainRegs a ha
    rw [busWrite_of_setOnly hd hset, if_neg (by simp [hbad])]
    exact ⟨rdReg_note _ _ _ hev, rfl⟩
  · refine makes_of_devStep (f := busWrite p x.1 v) rfl ?_
    rw [busWrite_of_clearsOnly hd (clearsOnly_of_mem_w1cRegs x hx)]
    exact ⟨rdReg_wrReg_same .., regsKeptBut_wrReg x.1 _ d, state_wrReg ..⟩
  · refine makes_of_devStep (f := busWrite p EVT_VIOL_CNT.addr v) rfl ?_
    rw [busWrite_violCnt hd p hv]
    exact ⟨rdReg_wrReg_same .., regsKeptBut_wrReg EVT_VIOL_CNT.addr _ d⟩
  · refine makes_of_devStep (f := busWrite p a v) rfl ?_
    rw [busWrite_of_readOnly hr ht hrw hw1c hwo]
  · refine makes_of_devStep (f := busWrite p (a + 4) v) rfl ?_
    obtain ⟨hlow, hhigh⟩ := pairs_low_high a ha
    rw [busWrite_high hd hlow hhigh (show mfind (pathRegs p d).low a = some lo by simp [hlo, mfind])]
    exact ⟨by rw [rdReg_wrReg_ne _ _ (by omega), rdReg_wrReg_same], rdReg_wrReg_same ..⟩
  · refine makes_of_devStep (f := busWrite p a v) rfl ?_
    rw [busWrite_low hd (pairs_low_high a ha).1]
    exact ⟨by simp, modPath_main .., modPath_aux ..⟩
  · refine makes_of_devStep (f := busRead p a) rfl ?_
    rw [busRead_of_reg ht, readValue_of_none hn, regRead_of_not_pairLow hl]
    exact ⟨rfl, rdReg_readEffect hr hc hm p d, regsKeptBut_readEffect hr hc hm p d⟩
  · refine makes_of_devStep (f := busRead p RING_CNT.addr) rfl ?_
    rw [busRead_ringCnt hd]
    exact ⟨ring_ringCntClear d, rfl⟩
  · obtain ⟨hdata, hlatch, hkept, hpair⟩ := busRead_low hl ht hn
    exact makes_of_devStep (f := busRead p a) rfl ⟨hdata, hlatch, hkept, readValue_of_latched hpair hlatch⟩
  · exact makes_of_devStep (f := busRead p (a + 4)) rfl (busRead_latched hl ht hx)
  · exact makes_of_devStep (f := busRead p (0xD100 + 4 * k.val)) rfl (busRead_mirror hd hr hl hn)

end Sys2Proof.Machine
end
